-- ==== Sys2Proof/Word.lean ====
section
/-! DEFINITION. The word types of the DX6440 and their plainest arithmetic: bytes, 32-bit register words,
fields of a word, little-endian byte strings (R8). -/

namespace Sys2Proof

/-- One byte. -/
abbrev Byte := BitVec 8

/-- One register word (R24). -/
abbrev Word := BitVec 32

/-- The word of a number, modulo 2^32. -/
def w32 (n : Nat) : Word := BitVec.ofNat 32 n

/-- The byte of a number, modulo 256. -/
def b8 (n : Nat) : Byte := BitVec.ofNat 8 n

/-- Bits `[hi:lo]` of a word, as a number. -/
def Word.fld (w : Word) (hi lo : Nat) : Nat := w.toNat / 2 ^ lo % 2 ^ (hi + 1 - lo)

/-- Bit `i` of a word. -/
def Word.bit (w : Word) (i : Nat) : Bool := w.getLsbD i

/-- The mask of bits `[hi:lo]`. -/
def fldMask (hi lo : Nat) : Word := BitVec.ofNat 32 ((2 ^ (hi + 1 - lo) - 1) * 2 ^ lo)

/-- A word with bits `[hi:lo]` set to `v` (modulo the field's width). -/
def Word.setFld (w : Word) (hi lo v : Nat) : Word :=
  (w &&& ~~~(fldMask hi lo)) ||| (BitVec.ofNat 32 (v % 2 ^ (hi + 1 - lo) * 2 ^ lo))

/-- A word with bit `i` set to `b`. -/
def Word.setBit (w : Word) (i : Nat) (b : Bool) : Word := w.setFld i i (if b then 1 else 0)

/-- Replace in `w` the bits of `mask` by those of `v`. -/
def Word.merge (w mask v : Word) : Word := (w &&& ~~~mask) ||| (v &&& mask)

/-- The `n` low bytes of a number, least significant first (R8). -/
def leBytes : Nat → Nat → List Byte
  | 0, _ => []
  | n + 1, v => BitVec.ofNat 8 v :: leBytes n (v / 256)

/-- The number a little-endian byte string spells (R8). -/
def ofLE : List Byte → Nat
  | [] => 0
  | b :: bs => b.toNat + 256 * ofLE bs

/-- The number a big-endian byte string spells. -/
def ofBE (bs : List Byte) : Nat := bs.foldl (fun a b => a * 256 + b.toNat) 0

/-- The `n` low bytes of a number, most significant first. -/
def beBytes (n v : Nat) : List Byte := (leBytes n v).reverse

/-- `n` zero bytes. -/
def zeros (n : Nat) : List Byte := List.replicate n 0

/-- The `n` bytes at offset `o` of a byte string; bytes beyond its end read as zero. [DESIGN CHOICE, log 4, safe] -/
def slice (bs : List Byte) (o n : Nat) : List Byte :=
  let t := (bs.drop o).take n
  t ++ zeros (n - t.length)

/-- The little-endian number in the `n` bytes at offset `o`. -/
def leAt (bs : List Byte) (o n : Nat) : Nat := ofLE (slice bs o n)

/-- Cut or pad with zeros to exactly `n` bytes. [DESIGN CHOICE, log 4, safe] -/
def fit (n : Nat) (bs : List Byte) : List Byte := slice bs 0 n

/-- The signed value of the low `n` bits of a number. -/
def sgn (n v : Nat) : Int :=
  let m := v % 2 ^ n
  if m < 2 ^ (n - 1) then (m : Int) else (m : Int) - 2 ^ n

/-- The `n`-bit two's complement code of an integer. -/
def enc (n : Nat) (i : Int) : Nat := (i % (2 ^ n : Int)).toNat

/-- Clamp an integer into `lo..hi`. -/
def clampI (lo hi i : Int) : Int := max lo (min hi i)

/-- Division rounding towards zero. -/
def divTZ (a b : Int) : Int := Int.tdiv a b

/-- The elements of `0 .. n-1` whose bit of `m` is set. -/
def bitsOf (n m : Nat) : List Nat := (List.range n).filter (fun i => m.testBit i)

/-- Replace element `i` of a list (unchanged where there is none). -/
def setAt {α : Type} (l : List α) (i : Nat) (x : α) : List α := l.set i x

/-- Change element `i` of a list. -/
def modAt {α : Type} (l : List α) (i : Nat) (f : α → α) : List α :=
  match l[i]? with
  | some x => l.set i (f x)
  | none => l

end Sys2Proof
end

