-- ==== Sys2Proof/Syntax.lean ====
section
/-! DEFINITION. The commands of the DX6440 block: ONE constructor of `Instr` per row of spec/opcode_table.json,
with the row's operands. Operands name the unit addressed and carry what comes from outside the device (data read
from host memory, bytes of a frame, a sensor's conversion, a front end's answer). -/

namespace Sys2Proof

/-- Register initiators (Table 2.2). -/
inductive Initiator where
  | mc0 | mc1 | mc2 | mc3 | pcie0 | pcie1 | jtag
deriving DecidableEq, Repr

/-- The 4-bit initiator ID of Table 2.2. -/
def Initiator.id : Initiator → Nat
  | .mc0 => 0 | .mc1 => 1 | .mc2 => 2 | .mc3 => 3 | .pcie0 => 4 | .pcie1 => 5 | .jtag => 6

/-- A management core (R403). -/
def Initiator.isMc (i : Initiator) : Bool := i.id < 4

/-- Access sizes of the fabric (R24, R25). -/
inductive Size where
  | b1 | b2 | b4 | b8
deriving DecidableEq, Repr

/-- The bytes of an access size. -/
def Size.bytes : Size → Nat
  | .b1 => 1 | .b2 => 2 | .b4 => 4 | .b8 => 8

/-- A fetched command: its link, submission queue and CID (R241). -/
structure CmdRef where
  link : Fin 512
  sqid : BitVec 16
  cid  : BitVec 16
deriving DecidableEq, Repr

/-- The read-back side of one frame as it arrives: the detector's early hard decisions for bits 192 to 415, bit i for position
192 + i (R93); the excursions of either reader's baseline from its mean, each a first sample with the deviations of the consecutive
samples in ADC LSB (R91); the wedge cut out, as a sample index and a length; and the adaptive values the lane has reached (gains,
offsets, asymmetries, taps, frequency), in register layout (R90). Samples are counted as in a capture record. [DESIGN CHOICE, log 7, safe] -/
structure Arrival where
  sector : Nat
  early  : BitVec 224
  base   : List (Nat × List Nat)
  wedge  : Option (Nat × Nat)
  cur0   : Word
  cur1   : Word
  taps   : List (BitVec 12)
  freq   : BitVec 16
deriving DecidableEq, Repr

/-- What the write paths have done when a command finds them writing: by position, the last sector written whole, and the wedges that
split frames, each a position, a sector and the codeword bits written before the wedge (R70). [DESIGN CHOICE, log 7, safe] -/
structure WriteRun where
  done   : List Nat
  splits : List (Fin 4 × Nat × Nat)
deriving DecidableEq, Repr

/-- A write path a command finds, with what the paths of its actuator have done. -/
structure PathRun where
  path : Fin 4
  run  : WriteRun
deriving DecidableEq, Repr

/-- A stripe group a command finds in ebb mode: the wedge it has reached, and what the write paths have done. -/
structure EbbTurn where
  group : Fin 4
  wedge : BitVec 10
  run   : WriteRun
deriving DecidableEq, Repr

/-- The answer to a read of a front end's ID: its value, and whether its CRC was right. -/
structure IdAnswer where
  id    : BitVec 16
  crcOk : Bool
deriving DecidableEq, Repr

/-- A lane read transfer as the device starts it: stripe group, band, first sector in band, sectors, epoch, the kind
expected of data sectors, the buffer address of the first 4,160-byte slot, and whether recovery of its runs needs the parity
sectors (R13). -/
structure LaneXfer where
  group : Fin 4
  band  : Nat
  first : Nat
  count : Nat
  epoch : BitVec 16
  kind  : Fin 4
  buf   : Nat
  par   : Bool := false
deriving DecidableEq, Repr

/-- An SRV token as the servo detector delivers it (Table 6.4). -/
structure SrvToken where
  pos    : Fin 4
  status : Fin 4
  wedge  : BitVec 10
  track  : BitVec 24
  pes    : BitVec 10
  amp    : BitVec 8
deriving DecidableEq, Repr

/-- The outcome of reading one sector with a head, as the recovery steps see it: the reason of Table 4.4 (0 is a
success) with the sync case, and whether the sector's frame was captured. [DESIGN CHOICE, log 7, safe] -/
structure SectorOutcome where
  reason   : Fin 9
  syncCase : Fin 6
  captured : Bool
deriving DecidableEq, Repr

/-- A deep decoder job of the ladder as it runs (R109, R211): whether it recovers the sector, the bit of HYP_MASK of the hypothesis
that does, its iterations, and whether its start came from the search in the samples. [DESIGN CHOICE, log 7, safe] -/
structure DeepRun where
  ok    : Bool
  hyp   : Fin 7
  iters : Nat
  soft  : Bool
deriving DecidableEq, Repr

/-- Why a write inhibit holds (Table 5.3). -/
inductive Inhibit where
  | plaus | offtrack | servoMiss | tide | feFault | link | kill
deriving DecidableEq, Repr

/-- The REASON code of Table 5.3. -/
def Inhibit.code : Inhibit → Nat
  | .plaus => 1 | .offtrack => 2 | .servoMiss => 3 | .tide => 4 | .feFault => 5 | .link => 6 | .kill => 7

/-- Clock families with a clock-good (Table 13.1). -/
inductive Family where
  | core | mgmt | mem | media | periph
deriving DecidableEq, Repr

/-- Supply rails with a monitor (Table 18.2). -/
inductive Rail where
  | core | sram | io | aon | ddq
deriving DecidableEq, Repr

/-- Reset sources of Table 13.3 that hold levels. -/
inductive Source where
  | por | pin | warm | host | activate
deriving DecidableEq, Repr

/-- Start classes (Table 14.6). -/
inductive StartClass where
  | wdrv | assist | lane | serdes | spin
deriving DecidableEq, Repr

/-- The class index of Table 14.6. -/
def StartClass.idx : StartClass → Nat
  | .wdrv => 0 | .assist => 1 | .lane => 2 | .serdes => 3 | .spin => 4

/-- A requester of DRAM as the cache sees it (Table 12.5), in ascending order. -/
inductive Requester where
  | mc0 | mc1 | mc2 | mc3 | hqe | shoal | dd | media | fill
deriving DecidableEq, Repr

/-- The wait of the trip-record writer that runs out (R424): none, that for an operation in progress, or that for its own program. -/
inductive TripWait where
  | none | before | program
deriving DecidableEq, Repr

/-- A cache error met by a request (R379). -/
inductive CacheErr where
  | none | single | dataDouble | tagDouble
deriving DecidableEq, Repr

/-- A raw conversion of one thermal sensor: its temperature in 1/16 °C, or a code at an end of the range. [DESIGN CHOICE, log 7, safe] -/
inductive Conv where
  | temp (t : Int)
  | railLow
  | railHigh
deriving DecidableEq, Repr

/-- A decoding hypothesis as a deep decoder runs it: iterations to its success, unsatisfied checks after the first
and after the ABANDON_ITER-th iteration, the hard decisions at its end (4,608 bytes, first bit first), and bits changed from the first ones. [DESIGN CHOICE, log 7, safe] -/
structure HypRun where
  iters     : Nat
  unsat1    : Nat
  unsatAb   : Nat
  hard      : List Byte
  corrected : Nat
deriving DecidableEq, Repr

/-- The effect of one measurement unit of a calibration run (R195, R198): the item of Table 7.1, the first head it
covers, and the values measured. [DESIGN CHOICE, log 7, safe] -/
structure CalUnit where
  item   : Fin 6
  head   : Fin 64
  unit   : Nat
  values : List Int
  temp   : Int
deriving DecidableEq, Repr

/-- An access of the host to the doorbell space of a link, BAR2 or the doorbell window: a read, or a write of 4 or 8 bytes (R246,
R255). -/
inductive BarAccess where
  | read
  | write4 (v : Word)
  | write8 (v : BitVec 64)
deriving DecidableEq, Repr

/-- A Mornis CONNECT as it arrives (Table 9.4), with the port, the VLAN tag, the source and the device address it arrived on. -/
structure ConnectMsg where
  port     : Fin 2
  vlan     : Option (BitVec 12)
  srcAddr  : Nat
  dstAddr  : BitVec 128
  srcPort  : BitVec 16
  version  : BitVec 8
  pmtu     : BitVec 8
  respRes  : BitVec 8
  nonce    : BitVec 32
  hostQpn  : BitVec 24
  hostPsn  : BitVec 24
  asq      : BitVec 64
  acq      : BitVec 64
  asqs     : BitVec 16
  acqs     : BitVec 16
  ringRkey : BitVec 32
  notifyEn : Bool
deriving DecidableEq, Repr

/-- A sector read on the twin actuator (R211 step 5): at line rate, and by the steps that follow it there. -/
structure TwinRun where
  line   : SectorOutcome
  deep   : DeepRun
  reread : SectorOutcome
  shift  : DeepRun
deriving DecidableEq, Repr

/-- A DISCONNECT: whether the device sends it, and its reason. -/
structure CloseMsg where
  sent   : Bool
  reason : BitVec 8
deriving DecidableEq, Repr

/-- A read's data on its way: whether the host takes it, and the blocks of it that fail at line rate. -/
structure ReadRun where
  hostOk : Bool
  failed : List (Fin 2048 × SectorOutcome)
deriving DecidableEq, Repr

/-- An admin command with data, and what the host memory holds where its PRP or SGL list is read. -/
structure AdminCmd where
  cmd  : CmdRef
  list : Option (List Byte)
deriving DecidableEq, Repr

/-- Chunks of a zone that a transfer to the media was for. -/
structure ZoneFault where
  zone   : Nat
  chunks : List Nat
deriving DecidableEq, Repr

/-- The commands: one constructor per row of the table of operations and events. [DESIGN CHOICE, log 7, safe] [DESIGN CHOICE, log 81, unsafe] -/
inductive Instr where
  -- registers, guard, lock, indirect window (02)
  | registerWrite (init : Initiator) (addr : BitVec 24) (size : Size) (data : BitVec 64)
  | sqStatusWrite (init : Initiator) (addr : BitVec 24) (data : Word)
  | loRegisterRead (init : Initiator) (addr : BitVec 24) (size : Size)
  | loRegisterWrite (init : Initiator) (addr : BitVec 24) (data : Word)
  | hiRegisterWrite (init : Initiator) (addr : BitVec 24) (data : Word)
  | aliasWrite (init : Initiator) (addr : BitVec 24) (data : Word)
  | guardTgtWrite (init : Initiator) (data : Word)
  | guardValWrite (init : Initiator) (data : Word)
  | guardInvWrite (init : Initiator) (data : Word)
  | guardWindowExpiry
  | sysLockWrite (init : Initiator) (data : Word)
  | indDataRead (init : Initiator) (answer : Option (BitVec 16 × Bool))
  | indDataWrite (init : Initiator) (data : Word)
  | indWriteDone (answered : Bool)
  -- data flows (01)
  | laneDramStallCut (lane : Fin 16)
  | sectorReread (lane : Fin 16)
  | lateGrantRetry (act : Fin 4) (path : PathRun)
  -- geometry and ebb mode (03)
  | ebbWedgeEval (act : Fin 4) (turn : EbbTurn)
  | ebbRoundBoundary (act : Fin 4) (turn : EbbTurn)
  | tideHiCommit (init : Initiator) (act : Fin 4) (group : Fin 4) (seg : Fin 256) (data : Word)
  | tideInhibitExpiry (act : Fin 4) (group : Fin 4)
  -- lanes (04)
  | lnRateWrite (init : Initiator) (lane : Fin 16) (data : Word)
  | lnRateApply (lane : Fin 16)
  | synthLock (write : Bool) (idx : Fin 16)
  | laneDataPwrSet (init : Initiator) (lane : Fin 16)
  | lanePowerUpReady (lane : Fin 16)
  | laneTransferStart (lane : Fin 16) (xfer : LaneXfer)
  | frameArrival (lane : Fin 16) (arr : Arrival)
  | globalIteration (lane : Fin 16) (hard : List Byte)
  | captureWriteStart
  | captureRecordDone (samples : List (BitVec 7 × BitVec 7))
  | lnCapFreeWrite (init : Initiator) (lane : Fin 16) (data : Word)
  | lnFailRead (init : Initiator) (lane : Fin 16)
  -- deep decoders (04)
  | ddJobTake
  | ddRecordLoad (dd : Fin 4)
  | ddSyncSearch (dd : Fin 4) (early : BitVec 224)
  | ddHypothesisEnd (dd : Fin 4) (run : HypRun)
  | ddJobComplete (dd : Fin 4)
  | ddResultRelease (dd : Fin 4)
  -- write paths and assist (05)
  | waGo (init : Initiator) (act : Fin 4) (data : Word)
  | writePathStart (act : Fin 4) (path : PathRun)
  | wdrvIdleDisable (act : Fin 4) (path : Fin 4)
  | assistBiasSend (act : Fin 4) (slot : Fin 16)
  | assistWarmDone (act : Fin 4) (slot : Fin 16)
  | assistArmSend (act : Fin 4)
  | assistBiasHoldExpiry (act : Fin 4) (slot : Fin 16)
  | asPwrWrite (init : Initiator) (act : Fin 4) (slot : Fin 16) (zone : Fin 32) (data : Word)
  | armIdleExpiry (act : Fin 4) (slot : Fin 16)
  | feHeartbeat (act : Fin 4) (id : BitVec 16) (crcOk : Bool)
  | feLinkEnable (init : Initiator) (act : Fin 4) (data : Word) (id : IdAnswer)
  | writeTransferEnd (act : Fin 4) (path : PathRun)
  | writeUnderrun (act : Fin 4) (path : PathRun) (last : Nat)
  | underrunRestart (act : Fin 4) (path : PathRun)
  | writeInhibitBegin (act : Fin 4) (reason : Inhibit) (wedge : BitVec 10) (head : Fin 64) (w : WriteRun)
  | feFaultAssert (act : Fin 4)
  | waKillWrite (init : Initiator) (act : Fin 4) (data : Word)
  | inhibitVerifyRead (act : Fin 4) (frames : List (Fin 4 × Arrival × Nat × Fin 9))
  | inhibitRewrite (act : Fin 4)
  -- Headland engines (06)
  | coefMemoryWrite (init : Initiator) (act : Fin 4) (offset : BitVec 16) (data : Word)
  | coefHoldRelease (init : Initiator) (act : Fin 4)
  | pmDataWrite (init : Initiator) (act : Fin 4) (data : Word)
  | cfgTokenRun (act : Fin 4) (rec : Bool)
  | curTokenRun (act : Fin 4) (tick : Fin 8) (ecc : Option Nat) (rec : Bool)
  | srvTokenRun (act : Fin 4) (tok : SrvToken) (ecc : Option Nat)
  | prfTokenRun (act : Fin 4) (wedge : BitVec 10) (ecc : Option Nat)
  | hlLoad (init : Initiator) (act : Fin 4)
  | hlUnload (init : Initiator) (act : Fin 4)
  | vcCurrentFrame (act : Fin 4) (value : BitVec 16) (crcOk : Bool)
  | vcStatusFrame (act : Fin 4) (value : BitVec 16) (crcOk : Bool)
  | parkTimeout (act : Fin 4)
  | msSenseFrame (act : Fin 4) (slot : Fin 16) (value : BitVec 16) (crcOk : Bool)
  | msTempFrame (act : Fin 4) (value : BitVec 16) (crcOk : Bool)
  | hlFlagsWrite (init : Initiator) (act : Fin 4) (data : Word)
  | rampGo (init : Initiator) (act : Fin 4) (data : Word)
  -- calibration (07)
  | calibrate (cmd : CmdRef)
  | calMeasureUnit (act : Fin 4) (unit : CalUnit)
  | calUnitAbandon (act : Fin 4)
  | calCommit (checkOk : Bool)
  -- media recovery (08)
  | ladderDeep (head : Fin 64) (band : Nat) (sector : Nat) (run : DeepRun)
  | ladderReread (head : Fin 64) (band : Nat) (sector : Nat) (passes : List SectorOutcome)
  | ladderShift (head : Fin 64) (band : Nat) (sector : Nat) (run : DeepRun)
  | ladderParity (head : Fin 64) (band : Nat) (sector : Nat) (lost : List Nat) (crcOk : Bool)
  | ladderTwin (head : Fin 64) (band : Nat) (sector : Nat) (twin : TwinRun)
  | relocateConventional (head : Fin 64) (band : Nat) (sector : Nat) (readBack : List Bool)
  | pendingSpareWrite (head : Fin 64) (band : Nat) (readBack : List Bool)
  | patrolRevolution (act : Fin 4) (reads : List SectorOutcome)
  | zoneStateSave (zone : Nat)
  | cutWriteScan (zone : Nat) (reads : List (List (SectorOutcome × Bool)))
  | trackBeforeEndRead (zone : Nat) (failed : List (Fin 4 × Nat × SectorOutcome))
  | parityReadBack (zone : Nat) (pos : Fin 4) (run : Nat) (failed : List Nat)
  -- host rings (09)
  | ccEnWrite (init : Initiator) (fn : Fin 2) (data : Word)
  | controllerReset (link : Fin 512)
  | ccShnWrite (init : Initiator) (fn : Fin 2) (data : Word)
  | sqTailDoorbell (link : Fin 512) (off : Nat) (acc : BarAccess)
  | cqHeadDoorbell (link : Fin 512) (off : Nat) (acc : BarAccess)
  | sqFetch (entries : Option (List (List Byte)))
  | completionPost (cmd : CmdRef)
  | coalesceTimerExpiry (link : Fin 512) (cqid : Nat)
  | pcieHotReset (port : Fin 2)
  | pcieLinkDown (port : Fin 2)
  | perstAssert (port : Fin 2)
  | connect (msg : ConnectMsg)
  | ready (link : Fin 512) (nonce : BitVec 32)
  | readyTimeout (link : Fin 512)
  | reset (link : Fin 512) (nonce : BitVec 32)
  | disconnect (link : Fin 512) (msg : CloseMsg) (nonce : BitVec 32)
  | discAck (link : Fin 512) (nonce : BitVec 32)
  | disconnectTimeout (link : Fin 512)
  | keepalive (link : Fin 512)
  | rcRetryExhausted (link : Fin 512)
  | writeDataPull (cmd : CmdRef) (data : Option (List Byte))
  | readDataPlace (cmd : CmdRef) (go : ReadRun) (task : Option (Fin 8 × Nat))
  | cePacketReceive (link : Fin 512)
  | cnpReceive (link : Fin 512)
  | rateRecoveryTimer (link : Fin 512)
  | pfcPauseSend (port : Fin 2)
  | pfcPauseRelease (port : Fin 2)
  | pfcFrameReceive (port : Fin 2) (prios : BitVec 8) (pause : Bool)
  | neighbourAnswer (port : Fin 2) (kind : Fin 4) (addr : BitVec 128) (request : List Byte)
  | frameDrop (port : Fin 2) (frame : List Byte)
  | createIoCq (cmd : CmdRef)
  | createIoSq (cmd : CmdRef)
  | deleteIoCq (cmd : CmdRef)
  | deleteIoSq (cmd : CmdRef)
  | abort (cmd : CmdRef)
  -- commands and zones (10)
  | getLogPage (cmd : AdminCmd)
  | identify (cmd : AdminCmd)
  | setArbitration (cmd : CmdRef)
  | setPowerManagement (cmd : CmdRef)
  | setTemperatureThreshold (cmd : CmdRef)
  | setVolatileWriteCache (cmd : CmdRef)
  | setNumberOfQueues (cmd : CmdRef)
  | setInterruptCoalescing (cmd : CmdRef)
  | setInterruptVectorConfig (cmd : CmdRef)
  | setAsyncEventConfig (cmd : CmdRef)
  | setApst (cmd : AdminCmd) (data : Option (List Byte))
  | setTimestamp (cmd : AdminCmd) (data : Option (List Byte))
  | getFeatures (cmd : AdminCmd)
  | asyncEventRequest (cmd : CmdRef)
  | namespaceCreate (cmd : AdminCmd) (data : Option (List Byte))
  | namespaceFormatDone (nsid : Nat)
  | namespaceDelete (cmd : CmdRef)
  | firmwareCommit (cmd : CmdRef)
  | firmwareActivate (cmd : CmdRef)
  | firmwareImageDownload (cmd : AdminCmd) (data : Option (List Byte))
  | recorderStatus (cmd : AdminCmd)
  | recorderArm (cmd : Option CmdRef)
  | recorderTrigger (src : Fin 7) (act : Fin 4) (cmd : Option CmdRef)
  | recorderStop (cmd : Option CmdRef)
  | recorderRelease (cmd : Option CmdRef)
  | recorderHeld
  | keyLoad (cmd : AdminCmd) (data : Option (List Byte))
  | keyClear (cmd : CmdRef)
  | unsupportedOpcode (cmd : CmdRef)
  | flush (cmd : CmdRef)
  | write (cmd : CmdRef) (list : Option (List Byte))
  | read (cmd : CmdRef) (list : Option (List Byte))
  | zoneAppend (cmd : CmdRef) (list : Option (List Byte))
  | deriveRead (cmd : CmdRef) (list : Option (List Byte)) (recipe : Option (List Byte))
  | writeCommit (cmd : CmdRef)
  | bufferRunToMedia (zone : Nat) (pos : Fin 4) (run : Nat)
  | writeBufferAgeExpiry (zone : Nat)
  | writeFaultRetry (fault : ZoneFault)
  | zoneClose (cmd : CmdRef)
  | zoneFinish (cmd : CmdRef)
  | zoneOpen (cmd : CmdRef)
  | zoneReset (cmd : CmdRef)
  | zoneOffline (cmd : CmdRef)
  | zoneActionEffect (cmd : CmdRef)
  | zoneMgmtReceive (cmd : CmdRef) (list : Option (List Byte))
  -- Shoal (11)
  | shoalSubmit (init : Initiator) (pool : Fin 8) (data : Word)
  | engineTakeTask (eng : Fin 64)
  | stealAttempt (eng : Fin 64)
  | sectDec (eng : Fin 64)
  | sectEnc (eng : Fin 64)
  | parGen (eng : Fin 64)
  | parRebuild (eng : Fin 64)
  | derive (eng : Fin 64)
  | deriveCheckOnly (eng : Fin 64)
  | segment (eng : Fin 64)
  | digest (eng : Fin 64)
  | crc (eng : Fin 64)
  | taskComplete (eng : Fin 64)
  | taskDeadlineExpiry (eng : Fin 64)
  | reissueBufferDrain (pool : Fin 8)
  | engineReset (init : Initiator) (data : Word)
  | engineResetDone (eng : Fin 64)
  | fenceClear (init : Initiator) (data : Word)
  | keySelWrite (init : Initiator) (data : Word)
  | keyDataWrite (init : Initiator) (data : Word)
  | deriveHoldExpiry (idx : Nat)
  -- memory and cache (12)
  | memTrainGo (init : Initiator) (data : Word)
  | memTrainDone (pass : BitVec 4)
  | dqsRetrack (sub : Fin 4)
  | memoryRead (cls : Fin 4) (addr : BitVec 36) (flip : List Byte)
  | memoryWrite (addr : BitVec 36) (data : List Byte)
  | partialWrite (addr : BitVec 36) (data : List Byte) (flip : List Byte)
  | memCeFreeWrite (init : Initiator) (data : Word)
  | memFillGo (init : Initiator) (data : Word)
  | memFillDone
  | memScrubGo (init : Initiator) (data : Word)
  | scrubStep (flip : List Byte)
  | cacheRequest (req : Requester) (addr : BitVec 36) (alloc : Bool) (wr : Option (List Byte)) (err : CacheErr)
  | cacheFillComplete (addr : BitVec 36)
  | cacheWritebackAccept
  | cacheClean (init : Initiator) (data : Word)
  | cacheInvalidate (init : Initiator) (data : Word)
  | cacheCleanInvalidate (init : Initiator) (data : Word)
  | cacheCleanAll (init : Initiator) (data : Word)
  | cacheCleanInvalidateAll (init : Initiator) (data : Word)
  | cacheMaintInvalidOp (init : Initiator) (data : Word)
  | maintDone
  | cacheWayDisable (way : Fin 16)
  | cacheInitDone
  -- clocks, reset, bring-up (13, 18)
  | porstNAssert (short : Bool)
  | porstNRelease (slotId : BitVec 6) (refsel : Bool) (bootMode : BitVec 2)
  | resetNAssert (short : Bool)
  | resetNRelease
  | supplyMonitorFall (rail : Rail)
  | supplyMonitorRise (rail : Rail)
  | refGood
  | refLost
  | pllLock
  | pllFail
  | clockGoodAssert (fam : Family)
  | clockGoodFall (fam : Family)
  | levelRelease
  | warmAssert
  | warmSourceRelease
  | hostAssert
  | hostRelease
  | domainOffWrite (init : Initiator) (idx : Fin 4) (data : Word)
  | domainRelease (dom : Fin 100)
  | optionLoadDone (sfdp : Option (BitVec 9 × Bool))
  | rstSwWrite (init : Initiator) (data : Word)
  | watchdogKick (init : Initiator) (data : Word)
  | watchdogExpiry
  | padRelease (init : Initiator) (data : Word)
  | bootRomRun (trained : BitVec 4)
  | bootUartImage (image : List Byte)
  | coreGo (init : Initiator) (data : Word)
  -- heat, power, starts (14)
  | thermalConversion (convs : List Conv)
  | tripRecordWrite (wait : TripWait) (readBackOk : Bool) (suspended : Bool)
  | graceExpiry
  | headSensorTimeout (act : Fin 4)
  | apstIdleExpiry
  | bwRequest (cls : StartClass) (idx : Fin 64)
  | bwHoldEnd (rail : Fin 4)
  | bwSwreqWrite (init : Initiator) (data : Word)
  | spinStaggerExpiry
  | bwMaxwaitWrite (init : Initiator) (data : Word)
  -- I3C, NVS, time (15)
  | entdaa (addr : BitVec 7)
  | rstdaa
  | enec (events : BitVec 8)
  | disec (events : BitVec 8)
  | getpid
  | getbcr
  | getdcr
  | getstatus
  | setmwl (len : BitVec 16)
  | setmrl (len : BitVec 16)
  | getmwl
  | getmrl
  | unsupportedCcc (code : BitVec 8)
  | privateWrite (addr : BitVec 7) (bytes : List Byte)
  | privateRead (addr : BitVec 7)
  | leaseLapse
  | hotJoinRequest
  | nvsRead (init : Initiator) (data : Word)
  | nvsProgram (init : Initiator) (data : Word)
  | nvsErase4k (init : Initiator) (data : Word)
  | nvsErase64k (init : Initiator) (data : Word)
  | nvsBadOp (init : Initiator) (data : Word)
  | nvsCommandDone (ready : Bool)
  | timHostCommit (init : Initiator) (data : Word)
  -- recorder, replay, debug (16)
  | replayGo (init : Initiator) (data : Word)
  | replayTick (cur srv prf : Option Nat)
  | extest
  | samplePreload (shift : List Bool)
  | idcode
  | bypass (code : BitVec 8)
  | dbgAccess (op : BitVec 2) (addr : BitVec 22) (data : Word)
  | dbgCoreHaltWrite (init : Initiator) (data : Word)
  -- motor serial port, pads, ports (17, 05, 09)
  | mpdCmdWrite (init : Initiator) (data : Word)
  | mpdDone (rdata : BitVec 16) (crcOk : Bool)
  | mpdFault
  | padFeWrite (init : Initiator) (data : Word)
  | feFaultDeassert (act : Fin 4)
  | ethLinkUp (port : Fin 2)
  | ethLinkDown (port : Fin 2)
  | trstNAssert
deriving DecidableEq, Repr

end Sys2Proof
end

