-- ==== Sys2Proof/Decode.lean ====
section
/-! DEFINITION. The command a word of the opcode table spells. The table gives no row of this block any bits: commands come over
the register fabric, the pins and the links, and not as instruction words. -/

namespace Sys2Proof

/-- The command an `nbits`-bit word spells: none, since no row of the table has bits. [DESIGN CHOICE, log 2, unsafe] -/
def decodeTableWord (_nbits _w : Nat) : Option Instr := none

end Sys2Proof
end

