-- ==== Sys2Proof/Config.lean ====
section
/-! DEFINITION. What one die or one board fixes, and the free values: constants with no body, of which no proof can
know anything. -/

namespace Sys2Proof

/-- One operation of the Headland datapath as a program run executes it, on sixteen operand registers and the accumulator (R152).
`lit` brings in a token field, a memory word, a latched register or a constant. -/
inductive DpOp where
  | lit (d : Fin 16) (v : BitVec 32)
  | add (d a b : Fin 16)
  | sub (d a b : Fin 16)
  | clear
  | mac (a b : Fin 16)
  | store (d : Fin 16) (shift : Fin 32)
  | integ (d a limit : Fin 16)
  | save (word : BitVec 11) (a : Fin 16)
  | outVc (a : Fin 16)
  | outArm (a : Fin 16)
  | outMa (slot a : Fin 16)
deriving DecidableEq, Repr, Inhabited

/-- Everything a program run may depend on (R158): the kind and fields of its token, the program memory, the coefficient, runout,
state and tide memories by offset, and the values latched with the token. -/
structure MicroIn where
  kind    : Nat
  token   : List Int
  pm      : List (Nat × Nat)
  mem     : List (Nat × Nat)
  latched : List Int
deriving DecidableEq, Repr, Inhabited

/-- A program run: the datapath operations it executes, and the MEDIA cycles it takes. -/
structure MicroOut where
  ops    : List DpOp
  cycles : Nat
deriving DecidableEq, Repr, Inhabited

end Sys2Proof

namespace Sys2Proof.Config

/-- The 2,048 bytes of the fuse space of one die: KEYHASH, UID and factory data (R531, Table 2.18). [DESIGN CHOICE, log 6, safe] -/
opaque fuse : Nat → Byte

/-- A read of the NOR controller space 0x5 at an offset: a value firmware must not rely on (R533). [DESIGN CHOICE, log 6, safe] -/
opaque norCtl : Nat → BitVec 32

/-- The n-th fresh free value: what the spec leaves undefined or unstated is read from here, one number per use. [DESIGN CHOICE, log 5, safe] -/
opaque free : Nat → Nat

/-- The 80 stored bytes (64 data, 16 check) of a DRAM word that nothing has written since training number `g`
(R363, R368: data and check bits are arbitrary). [DESIGN CHOICE, log 6, safe] -/
opaque dramPattern (g word : Nat) : List Byte

/-- What the part reports in the bytes of an identify structure or log page whose value the manual does not state: structure
(0 controller, 1 namespace, 2 zoned namespace, 3 SMART), NSID, byte. [DESIGN CHOICE, log 6, safe] -/
opaque ident (page nsid byte : Nat) : Byte

/-- The Headland program: its microinstruction set is not part of the manual, so what a run executes is an unknown function of what
it may depend on (R158). [DESIGN CHOICE, log 61, safe] -/
opaque micro : MicroIn → MicroOut

/-- WIN in the deep decoders' own search for the marks, which the manual does not give (R110). [DESIGN CHOICE, log 119, safe] -/
opaque ddWin : Nat

/-- KFF as firmware derives it from a KT (Table 7.1): the manual gives no formula. [DESIGN CHOICE, log 118, safe] -/
opaque ktKff : BitVec 32 → BitVec 32

/-- KOA as firmware derives it from a KT (Table 7.1). [DESIGN CHOICE, log 118, safe] -/
opaque ktKoa : BitVec 32 → BitVec 32

/-- The displacement the program models for a slot's microactuator from its drive codes, 1/256 track (06, Loops): the slot stands in
`latched`. [DESIGN CHOICE, log 61, safe] -/
opaque mdl : MicroIn → Int

end Sys2Proof.Config
end

