-- ==== Sys2Proof/Machine/RegTable.lean ====
section
/-! DEFINITION. The register map: every register of the spec's register tables (Tables 2.7 to 2.17, 3.9 to 3.15, 4.9 to
4.28, 5.8 to 5.20, 6.11 to 6.27, 7.8, 9.16 to 9.27, 11.11 to 11.20, 12.9 to 12.19, 13.10 to 13.13, 14.9 to 14.18,
15.8 to 15.13, 16.7 to 16.13, 17.12 to 17.15) with its offset in its block, its copies, its reset word and its fields by
type (R30), and each register's BAR0 offset by name. -/

namespace Sys2Proof.Machine

/-- Field types of Table 2.3. RZ is what no field covers. -/
inductive FType where
  | rw | ro | wo | sq | gd | ct | hw
deriving DecidableEq, Repr

/-- One field: its type and bits, whether it is kept through WARM and HOST (R32) and whether it takes its value from
the option block (R401). -/
structure Field where
  ty   : FType
  hi   : Nat
  lo   : Nat
  kept : Bool
  opt  : Bool
deriving DecidableEq, Repr

/-- A plain field. -/
def fd (t : FType) (hi lo : Nat) : Field := ⟨t, hi, lo, false, false⟩
/-- A field marked "kept". -/
def fdK (t : FType) (hi lo : Nat) : Field := ⟨t, hi, lo, true, false⟩
/-- A field marked "opt". -/
def fdO (t : FType) (hi lo : Nat) : Field := ⟨t, hi, lo, false, true⟩

/-- Whether a register stands alone or is the low or high word of a 64-bit pair (R47). -/
inductive Pair where
  | one | lo | hi
deriving DecidableEq, Repr

/-- A register: name, offset in its block, copies (count and stride, widest stride first), reset word, place in a
64-bit pair, fields. -/
structure RegDef where
  name   : String
  off    : Nat
  dims   : List (Nat × Nat)
  rst    : Word
  pair   : Pair
  fields : List Field
deriving DecidableEq, Repr

/-- The bits of one field. -/
def Field.mask (x : Field) : Word := fldMask x.hi x.lo

/-- The bits of the fields a predicate picks. -/
def RegDef.maskOf (d : RegDef) (p : Field → Bool) : Word :=
  d.fields.foldl (fun m x => if p x then m ||| x.mask else m) 0

/-- The bits of the fields of one type. -/
def RegDef.tyMask (d : RegDef) (t : FType) : Word := d.maskOf (fun x => x.ty == t)

/-- The bits some field covers (the others are RZ). -/
def RegDef.defMask (d : RegDef) : Word := d.maskOf (fun _ => true)

/-- A register that holds GD fields (R31). -/
def RegDef.guarded (d : RegDef) : Bool := d.fields.any (fun x => x.ty == .gd)

/-- The blocks of Table 2.1, the ACTn blocks cut as R23 places them. -/
inductive Blk where
  | sys | rst | thm | pwr | mem | cch | shl | hqe | net | pci
  | hl (a : Nat) | lane (g : Nat) | wr (a : Nat) | fe (a : Nat)
  | dec | wrk | mgt | nvs | tim | dbg | hole
deriving DecidableEq, Repr

/-- The block of a BAR0 offset and the offset in it (Table 2.1, R23). -/
def blkOf (x : Nat) : Blk × Nat :=
  if x < 0x10000 then (.sys, x)
  else if x < 0x20000 then (.rst, x - 0x10000)
  else if x < 0x30000 then (.thm, x - 0x20000)
  else if x < 0x40000 then (.pwr, x - 0x30000)
  else if x < 0x50000 then (.mem, x - 0x40000)
  else if x < 0x60000 then (.cch, x - 0x50000)
  else if x < 0x80000 then (.shl, x - 0x60000)
  else if x < 0xA0000 then (.hqe, x - 0x80000)
  else if x < 0xB0000 then (.net, x - 0xA0000)
  else if x < 0xC0000 then (.pci, x - 0xB0000)
  else if x < 0x100000 then (.hole, x)
  else if x < 0x200000 then
    let a := (x - 0x100000) / 0x40000
    let o := (x - 0x100000) % 0x40000
    if o < 0x10000 then (.hl a, o)
    else if o < 0x20000 then (.lane (4 * a + (o - 0x10000) / 0x4000), (o - 0x10000) % 0x4000)
    else if o < 0x30000 then (.wr a, o - 0x20000)
    else (.fe a, o - 0x30000)
  else if x < 0x300000 then (.dec, x - 0x200000)
  else if x < 0x400000 then (.wrk, x - 0x300000)
  else if x < 0x410000 then (.mgt, x - 0x400000)
  else if x < 0x420000 then (.nvs, x - 0x410000)
  else if x < 0x430000 then (.tim, x - 0x420000)
  else if x < 0x440000 then (.dbg, x - 0x430000)
  else (.hole, x)

/-- Registers of the SYS block. -/
def sysRegs : List RegDef := [
  ⟨"SYS_ID", 0x0, [], 0x5A3E6440, .one, [fd .ro 31 0]⟩,
  ⟨"SYS_REV", 0x4, [], 0x200, .one, [fd .ro 15 8, fd .ro 7 0]⟩,
  ⟨"SYS_CAP0", 0x8, [], 0x40401004, .one, [fd .ro 31 24, fd .ro 23 16, fd .ro 15 8, fd .ro 3 0]⟩,
  ⟨"SYS_CAP1", 0xC, [], 0x10000200, .one, [fd .ro 31 16, fd .ro 15 0]⟩,
  ⟨"SYS_UID_LO", 0x10, [], 0x0, .lo, [fd .ro 31 0]⟩,
  ⟨"SYS_UID_HI", 0x14, [], 0x0, .hi, [fd .ro 31 0]⟩,
  ⟨"SYS_GUARD_TGT", 0x20, [], 0x0, .one, [fd .rw 23 2]⟩,
  ⟨"SYS_GUARD_VAL", 0x24, [], 0x0, .one, [fd .wo 31 0]⟩,
  ⟨"SYS_GUARD_INV", 0x28, [], 0x0, .one, [fd .wo 31 0]⟩,
  ⟨"SYS_GUARD_STAT", 0x2C, [], 0x0, .one, [fd .sq 31 24, fd .ro 23 20, fd .ro 10 8, fd .ro 1 1, fd .sq 0 0]⟩,
  ⟨"SYS_LOCK", 0x30, [], 0x0, .one, [fd .rw 16 16, fd .rw 15 0]⟩,
  ⟨"SYS_DBG_EN", 0x38, [], 0x0, .one, [fdO .gd 1 1, fdO .gd 0 0]⟩,
  ⟨"SYS_ERR_STAT", 0x40, [], 0x0, .one, [fd .sq 31 24, fd .sq 2 2, fd .sq 1 1, fd .sq 0 0]⟩,
  ⟨"SYS_ERR_ADDR", 0x44, [], 0x0, .one, [fd .ro 27 24, fd .ro 23 0]⟩,
  ⟨"SYS_IND_ADDR", 0x100, [], 0x0, .one, [fd .rw 31 28, fd .rw 23 2]⟩,
  ⟨"SYS_IND_DATA", 0x104, [], 0x0, .one, [fd .rw 31 0]⟩,
  ⟨"SYS_IND_STAT", 0x108, [], 0x0, .one, [fd .sq 31 24, fd .sq 2 2, fd .sq 1 1, fd .ro 0 0]⟩,
  ⟨"SYS_SCRATCH", 0x50, [(4, 0x4)], 0x0, .one, [fdK .rw 31 0]⟩]

/-- Registers of the RST block, part 1. -/
def rstRegs1 : List RegDef := [
  ⟨"CLK_CFG", 0x0, [], 0x0, .one, [fdO .gd 0 0]⟩,
  ⟨"CLK_STAT", 0x4, [], 0x0, .one, [fd .sq 31 24, fd .sq 9 9, fd .ro 8 8, fd .ro 7 7, fd .ro 6 6, fd .ro 5 1, fd .sq 0 0]⟩,
  ⟨"RST_STAT", 0x40, [], 0x0, .one, [fd .sq 31 24, fd .ro 17 16, fd .ro 15 8, fd .sq 1 1, fd .sq 0 0]⟩,
  ⟨"RST_GAP", 0x44, [], 0x0, .one, [fdO .ro 12 0]⟩,
  ⟨"OPT_STAT", 0x48, [], 0x0, .one, [fdK .ct 31 24, fd .ro 17 9, fd .ro 1 1, fd .ro 0 0]⟩,
  ⟨"RST_SW", 0x50, [], 0x0, .one, [fd .wo 31 16, fd .wo 1 1, fd .wo 0 0]⟩,
  ⟨"RST_SELF", 0x54, [], 0x0, .one, [fd .gd 0 0]⟩,
  ⟨"RST_WDOG", 0x58, [], 0x0, .one, [fdO .gd 31 31, fdO .gd 15 0]⟩,
  ⟨"RST_WDOG_KICK", 0x5C, [], 0x0, .one, [fd .wo 15 0]⟩,
  ⟨"RST_PAD", 0x60, [], 0x0, .one, [fdK .ro 1 1, fd .wo 0 0]⟩,
  ⟨"RST_BOOT", 0x64, [], 0x0, .one, [fdK .rw 31 28, fdK .rw 27 26, fdK .rw 25 25, fdK .rw 15 0]⟩,
  ⟨"RST_CORE_ENTRY_LO", 0x70, [], 0x0, .lo, [fd .rw 31 2]⟩,
  ⟨"RST_CORE_ENTRY_HI", 0x74, [], 0x0, .hi, [fd .rw 3 0]⟩,
  ⟨"RST_CORE_GO", 0x78, [], 0x0, .one, [fd .wo 3 0]⟩,
  ⟨"PAD_SLEW", 0x1000, [], 0x0, .one, [fdO .rw 19 18, fdO .rw 17 16, fdO .rw 15 14, fdO .rw 13 12, fdO .rw 11 10, fdO .rw 9 2, fdO .rw 1 0]⟩,
  ⟨"PAD_FE", 0x1004, [], 0x0, .one, [fd .rw 16 16, fd .ro 8 8, fd .ro 7 4, fd .rw 3 0]⟩,
  ⟨"GPIO_DIR", 0x1008, [], 0x0, .one, [fd .rw 31 0]⟩,
  ⟨"GPIO_OUT", 0x100C, [], 0x0, .one, [fd .rw 31 0]⟩,
  ⟨"GPIO_IN", 0x1010, [], 0x0, .one, [fd .ro 31 0]⟩,
  ⟨"GPIO_PDEN", 0x1014, [], 0xFFFFFFFF, .one, [fd .rw 31 0]⟩,
  ⟨"PAD_STAT", 0x1018, [], 0x0, .one, [fd .sq 31 24, fd .sq 2 2, fd .sq 1 1, fd .sq 0 0]⟩,
  ⟨"MPD_CTL", 0x1020, [], 0x1, .one, [fd .rw 8 8, fd .rw 1 0]⟩,
  ⟨"MPD_CMD", 0x1024, [], 0x0, .one, [fd .wo 31 24, fd .wo 23 16, fd .wo 15 0]⟩,
  ⟨"MPD_RDATA", 0x1028, [], 0x0, .one, [fd .ro 17 17, fd .ro 16 16, fd .ro 15 0]⟩]

/-- Registers of the RST block, part 2. -/
def rstRegs2 : List RegDef := [
  ⟨"CLK_DOM_OFF", 0x10, [(3, 0x4)], 0x0, .one, [fd .rw 31 0]⟩,
  ⟨"CLK_DOM_OFF3", 0x1C, [], 0x0, .one, [fd .rw 3 0]⟩]

/-- Registers of the RST block. -/
def rstRegs : List RegDef := rstRegs1 ++ rstRegs2

/-- Registers of the THM block. -/
def thmRegs : List RegDef := [
  ⟨"THM_CTL", 0x0, [], 0x0, .one, [fdO .rw 1 0]⟩,
  ⟨"THM_EXCL", 0x4, [], 0x0, .one, [fdO .gd 23 0]⟩,
  ⟨"THM_GRACE", 0x14, [], 0x0, .one, [fdO .gd 9 0]⟩,
  ⟨"THM_BRK_CFG", 0x18, [], 0x0, .one, [fdO .gd 15 8, fdO .gd 7 0]⟩,
  ⟨"THM_STAT", 0x20, [], 0x0, .one, [fd .sq 31 24, fd .ro 15 14, fd .ro 13 12, fd .ro 11 11, fd .ro 10 10, fd .sq 6 6, fd .sq 5 5, fd .sq 4 4, fd .sq 3 3, fd .sq 2 2, fd .sq 1 1]⟩,
  ⟨"THM_HOT", 0x24, [], 0x0, .one, [fd .ro 20 16, fd .ro 15 0]⟩,
  ⟨"THM_BROKEN", 0x28, [], 0x0, .one, [fd .ro 29 0]⟩,
  ⟨"THM_ENF_CNT", 0x30, [], 0x0, .one, [fdK .ct 31 0]⟩,
  ⟨"THM_THR", 0x8, [(3, 0x4)], 0x0, .one, [fdO .gd 23 16, fdO .gd 15 8, fdO .gd 7 0]⟩,
  ⟨"THM_SENSE", 0x100, [(30, 0x4)], 0x0, .one, [fd .ro 31 31, fd .ro 30 30, fd .ro 15 0]⟩]

/-- Registers of the PWR block. -/
def pwrRegs : List RegDef := [
  ⟨"BW_CTL", 0x0, [], 0x0, .one, [fdO .gd 16 16, fdO .gd 15 0]⟩,
  ⟨"BW_SLOT", 0x4, [], 0x0, .one, [fd .ro 31 26, fdO .rw 0 0]⟩,
  ⟨"BW_SWREQ", 0x80, [], 0x0, .one, [fd .wo 15 8, fd .wo 2 0]⟩,
  ⟨"BW_SWSTAT", 0x84, [], 0x0, .one, [fd .ro 1 1, fd .ro 0 0]⟩,
  ⟨"BW_STAT", 0x90, [], 0x0, .one, [fd .sq 31 24, fd .sq 2 2, fd .sq 1 1, fd .sq 0 0]⟩,
  ⟨"BW_GRANT_CNT", 0xA0, [], 0x0, .one, [fdK .ct 31 0]⟩,
  ⟨"BW_WAIT_CNT", 0xA4, [], 0x0, .one, [fdK .ct 31 0]⟩,
  ⟨"BW_MAXWAIT", 0xA8, [], 0x0, .one, [fd .ro 31 0]⟩,
  ⟨"BW_BUDGET", 0x10, [(4, 0x4)], 0x0, .one, [fdO .gd 15 0]⟩,
  ⟨"BW_FREE", 0x20, [(4, 0x4)], 0x0, .one, [fd .ro 16 0]⟩,
  ⟨"BW_CLASS", 0x40, [(5, 0x8)], 0x0, .one, [fdO .gd 31 30, fdO .gd 29 28, fdO .gd 20 20, fdO .gd 19 0]⟩,
  ⟨"BW_COST", 0x44, [(5, 0x8)], 0x0, .one, [fdO .gd 15 0]⟩]

/-- Registers of the MEM block, part 1. -/
def memRegs1 : List RegDef := [
  ⟨"MEM_CFG", 0x0, [], 0x0, .one, [fdO .gd 5 4, fdO .gd 3 3, fdO .gd 2 2]⟩,
  ⟨"MEM_SIZE", 0x4, [], 0x0, .one, [fd .ro 6 0]⟩,
  ⟨"MEM_ARB", 0x8, [], 0x0, .one, [fdO .rw 23 16, fdO .rw 15 8, fdO .rw 7 0]⟩,
  ⟨"MEM_TRAIN", 0xC, [], 0x0, .one, [fdO .rw 31 16, fd .wo 0 0]⟩,
  ⟨"MEM_TRAIN_STAT", 0x10, [], 0x0, .one, [fd .ro 31 31, fd .ro 7 4, fd .ro 3 0]⟩,
  ⟨"MEM_STAT", 0x20, [], 0x0, .one, [fd .sq 31 24, fd .sq 5 5, fd .sq 4 4, fd .sq 3 3, fd .sq 2 2, fd .sq 1 1, fd .sq 0 0]⟩,
  ⟨"MEM_UE_LO", 0x28, [], 0x0, .lo, [fdK .ro 31 6]⟩,
  ⟨"MEM_UE_HI", 0x2C, [], 0x0, .hi, [fdK .ro 31 31, fdK .ro 29 20, fdK .ro 18 16, fdK .ro 3 0]⟩,
  ⟨"MEM_AERR_LO", 0x30, [], 0x0, .lo, [fd .ro 31 6]⟩,
  ⟨"MEM_AERR_HI", 0x34, [], 0x0, .hi, [fd .ro 3 0]⟩,
  ⟨"MEM_CE_VALID", 0x40, [], 0x0, .one, [fd .ro 31 0]⟩,
  ⟨"MEM_CE_FREE", 0x44, [], 0x0, .one, [fd .wo 31 0]⟩,
  ⟨"MEM_CE_OVF_CNT", 0x48, [], 0x0, .one, [fdK .ct 31 0]⟩,
  ⟨"MEM_FILL_BASE_LO", 0x50, [], 0x0, .lo, [fd .rw 31 6]⟩,
  ⟨"MEM_FILL_BASE_HI", 0x54, [], 0x0, .hi, [fd .rw 4 0]⟩,
  ⟨"MEM_FILL_LEN_LO", 0x58, [], 0x0, .lo, [fd .rw 31 6]⟩,
  ⟨"MEM_FILL_LEN_HI", 0x5C, [], 0x0, .hi, [fd .rw 4 0]⟩,
  ⟨"MEM_FILL_PAT_LO", 0x60, [], 0x0, .lo, [fd .rw 31 0]⟩,
  ⟨"MEM_FILL_PAT_HI", 0x64, [], 0x0, .hi, [fd .rw 31 0]⟩,
  ⟨"MEM_FILL_CTL", 0x68, [], 0x0, .one, [fd .ro 1 1, fd .wo 0 0]⟩,
  ⟨"MEM_SCRUB_BASE_LO", 0x80, [], 0x0, .lo, [fd .rw 31 6]⟩,
  ⟨"MEM_SCRUB_BASE_HI", 0x84, [], 0x0, .hi, [fd .rw 4 0]⟩,
  ⟨"MEM_SCRUB_LEN_LO", 0x88, [], 0x0, .lo, [fd .rw 31 6]⟩,
  ⟨"MEM_SCRUB_LEN_HI", 0x8C, [], 0x0, .hi, [fd .rw 4 0]⟩]

/-- Registers of the MEM block, part 2. -/
def memRegs2 : List RegDef := [
  ⟨"MEM_SCRUB_CTL", 0x90, [], 0x0, .one, [fd .ro 1 1, fd .wo 0 0, fdO .rw 31 16]⟩,
  ⟨"MEM_SCRUB_WORDS_LO", 0x98, [], 0x0, .lo, [fd .ro 31 0]⟩,
  ⟨"MEM_SCRUB_WORDS_HI", 0x9C, [], 0x0, .hi, [fd .ro 31 0]⟩,
  ⟨"MEM_SCRUB_CE", 0xA0, [], 0x0, .one, [fd .ro 31 0]⟩,
  ⟨"MEM_SCRUB_FIRST_LO", 0xA8, [], 0x0, .lo, [fd .ro 31 6]⟩,
  ⟨"MEM_SCRUB_FIRST_HI", 0xAC, [], 0x0, .hi, [fd .ro 3 0]⟩,
  ⟨"MEM_SCRUB_LAST_LO", 0xB0, [], 0x0, .lo, [fd .ro 31 6]⟩,
  ⟨"MEM_SCRUB_LAST_HI", 0xB4, [], 0x0, .hi, [fd .ro 3 0]⟩,
  ⟨"MEM_CE_ADDR_LO", 0x1000, [(32, 0x10)], 0x0, .lo, [fd .ro 31 6]⟩,
  ⟨"MEM_CE_ADDR_HI", 0x1004, [(32, 0x10)], 0x0, .hi, [fd .ro 3 0]⟩,
  ⟨"MEM_CE_INFO", 0x1008, [(32, 0x10)], 0x0, .one, [fd .ro 31 24, fd .ro 23 20, fd .ro 19 16, fd .ro 10 8]⟩,
  ⟨"MEM_CE_CNT", 0x2000, [(256, 0x4)], 0x0, .one, [fdK .ct 31 0]⟩]

/-- Registers of the MEM block. -/
def memRegs : List RegDef := memRegs1 ++ memRegs2

/-- Registers of the CCH block. -/
def cchRegs : List RegDef := [
  ⟨"CCH_CTL", 0x0, [], 0x0, .one, [fdO .rw 6 1, fdO .rw 0 0]⟩,
  ⟨"CCH_WAY_DIS", 0x4, [], 0x0, .one, [fdK .ro 15 0]⟩,
  ⟨"CCH_MAINT_ADDR_LO", 0x8, [], 0x0, .lo, [fd .rw 31 6]⟩,
  ⟨"CCH_MAINT_ADDR_HI", 0xC, [], 0x0, .hi, [fd .rw 3 0]⟩,
  ⟨"CCH_MAINT_CTL", 0x10, [], 0x0, .one, [fd .ro 31 31, fd .rw 23 4, fd .rw 3 1, fd .wo 0 0]⟩,
  ⟨"CCH_WAY_CFG", 0x14, [], 0x0, .one, [fdO .gd 7 0]⟩,
  ⟨"CCH_STAT", 0x20, [], 0x0, .one, [fd .sq 31 24, fd .sq 4 4, fd .sq 3 3, fd .sq 2 2, fd .sq 1 1, fd .sq 0 0]⟩,
  ⟨"CCH_HIT_CNT", 0x80, [], 0x0, .one, [fdK .ct 31 0]⟩,
  ⟨"CCH_MISS_CNT", 0x84, [], 0x0, .one, [fdK .ct 31 0]⟩,
  ⟨"CCH_WB_CNT", 0x88, [], 0x0, .one, [fdK .ct 31 0]⟩,
  ⟨"CCH_NOALLOC_CNT", 0x8C, [], 0x0, .one, [fdK .ct 31 0]⟩,
  ⟨"CCH_WAY_ERR_CNT", 0x40, [(16, 0x4)], 0x0, .one, [fdK .ct 31 0]⟩]

/-- Registers of the SHL block. -/
def shlRegs : List RegDef := [
  ⟨"SHL_CTL", 0x0, [], 0x0, .one, [fd .ro 1 1, fd .rw 0 0]⟩,
  ⟨"SHL_CFG", 0x4, [], 0x0, .one, [fdO .gd 8 8, fdO .gd 1 0]⟩,
  ⟨"SHL_DL01", 0x8, [], 0x0, .one, [fdO .gd 31 16, fdO .gd 15 0]⟩,
  ⟨"SHL_DL23", 0xC, [], 0x0, .one, [fdO .gd 31 16, fdO .gd 15 0]⟩,
  ⟨"SHL_HOLD", 0x10, [], 0x0, .one, [fdO .rw 31 16, fdO .rw 15 0]⟩,
  ⟨"SHL_STAT", 0x20, [], 0x0, .one, [fd .sq 31 24, fd .sq 6 6, fd .sq 5 5, fd .sq 4 4, fd .sq 3 3, fd .sq 2 2, fd .sq 1 1, fd .sq 0 0]⟩,
  ⟨"SHL_FENCED_LO", 0x28, [], 0x0, .lo, [fd .ro 31 0]⟩,
  ⟨"SHL_FENCED_HI", 0x2C, [], 0x0, .hi, [fd .ro 31 0]⟩,
  ⟨"SHL_FENCE_CLR_LO", 0x30, [], 0x0, .lo, [fd .wo 31 0]⟩,
  ⟨"SHL_FENCE_CLR_HI", 0x34, [], 0x0, .hi, [fd .wo 31 0]⟩,
  ⟨"SHL_ENG_RST_LO", 0x38, [], 0x0, .lo, [fd .wo 31 0]⟩,
  ⟨"SHL_ENG_RST_HI", 0x3C, [], 0x0, .hi, [fd .wo 31 0]⟩,
  ⟨"SHL_KEY_SEL", 0x40, [], 0x0, .one, [fd .wo 23 16, fd .wo 9 0]⟩,
  ⟨"SHL_KEY_DATA", 0x44, [], 0x0, .one, [fd .wo 31 0]⟩,
  ⟨"SHL_TASK_CNT", 0x100, [], 0x0, .one, [fdK .ct 31 0]⟩,
  ⟨"SHL_STEAL_CNT", 0x104, [], 0x0, .one, [fdK .ct 31 0]⟩,
  ⟨"SHL_XSTEAL_CNT", 0x108, [], 0x0, .one, [fdK .ct 31 0]⟩,
  ⟨"SHL_FENCE_CNT", 0x10C, [], 0x0, .one, [fdK .ct 31 0]⟩,
  ⟨"SHL_STALE_CNT", 0x110, [], 0x0, .one, [fdK .ct 31 0]⟩,
  ⟨"SHL_REISSUE_CNT", 0x114, [], 0x0, .one, [fdK .ct 31 0]⟩,
  ⟨"SHL_SUBMIT_LO", 0x80, [(8, 0x8)], 0x0, .lo, [fd .wo 31 6]⟩,
  ⟨"SHL_SUBMIT_HI", 0x84, [(8, 0x8)], 0x0, .hi, [fd .wo 3 0]⟩,
  ⟨"SHL_POOL", 0xC0, [(8, 0x4)], 0x0, .one, [fd .ro 31 24, fd .ro 23 16, fd .ro 10 0]⟩,
  ⟨"SHL_ENG", 0x200, [(64, 0x4)], 0x0, .one, [fd .ro 31 30, fd .ro 23 16, fd .ro 15 0]⟩]

/-- Registers of the HQE block. -/
def hqeRegs : List RegDef := [
  ⟨"HQE_CTL", 0x0, [], 0x0, .one, [fd .rw 1 1, fd .rw 0 0]⟩,
  ⟨"HQE_SLOTS", 0x4, [], 0x0, .one, [fdO .gd 31 16, fdO .gd 4 0]⟩,
  ⟨"HQE_ARB", 0x8, [], 0x3, .one, [fd .rw 31 24, fd .rw 23 16, fd .rw 15 8, fd .rw 2 0]⟩,
  ⟨"HQE_STAT", 0x10, [], 0x0, .one, [fd .sq 31 24, fd .sq 2 2, fd .sq 1 1, fd .sq 0 0]⟩,
  ⟨"HQE_USE", 0x14, [], 0x0, .one, [fd .ro 31 15, fd .ro 12 0]⟩,
  ⟨"HQE_FETCH_CNT", 0x20, [], 0x0, .one, [fdK .ct 31 0]⟩,
  ⟨"HQE_CQE_CNT", 0x24, [], 0x0, .one, [fdK .ct 31 0]⟩,
  ⟨"HQE_ABORT_CNT", 0x28, [], 0x0, .one, [fdK .ct 31 0]⟩,
  ⟨"HQE_DBERR_CNT", 0x2C, [], 0x0, .one, [fdK .ct 31 0]⟩,
  ⟨"HQE_LINK_SEL", 0x100, [], 0x0, .one, [fd .rw 8 0]⟩,
  ⟨"HQE_LINK_INFO", 0x104, [], 0x0, .one, [fd .ro 31 30, fd .ro 29 29, fd .ro 28 18, fd .ro 16 0]⟩]

/-- Registers of the NET block. -/
def netRegs : List RegDef := [
  ⟨"NET_CTL", 0x0, [(2, 0x100)], 0x0, .one, [fdO .rw 7 6, fdO .rw 1 1, fd .rw 0 0]⟩,
  ⟨"NET_STAT", 0x4, [(2, 0x100)], 0x0, .one, [fd .sq 31 24, fd .ro 15 15, fd .sq 2 2, fd .sq 1 1, fd .sq 0 0]⟩,
  ⟨"NET_MAC_LO", 0x8, [(2, 0x100)], 0x0, .lo, [fdO .rw 31 0]⟩,
  ⟨"NET_MAC_HI", 0xC, [(2, 0x100)], 0x0, .hi, [fdO .rw 15 0]⟩,
  ⟨"NET_VLAN", 0x10, [(2, 0x100)], 0x0, .one, [fdO .rw 12 12, fdO .rw 11 0]⟩,
  ⟨"NET_IPVAL", 0x14, [(2, 0x100)], 0x0, .one, [fd .rw 3 0]⟩,
  ⟨"NET_RXF_CNT", 0x70, [(2, 0x100)], 0x0, .one, [fdK .ct 31 0]⟩,
  ⟨"NET_TXF_CNT", 0x74, [(2, 0x100)], 0x0, .one, [fdK .ct 31 0]⟩,
  ⟨"NET_FEC_CNT", 0x78, [(2, 0x100)], 0x0, .one, [fdK .ct 31 0]⟩,
  ⟨"NET_DROP_CNT", 0x7C, [(2, 0x100)], 0x0, .one, [fdK .ct 31 0]⟩,
  ⟨"NET_IP", 0x20, [(2, 0x100), (4, 0x10), (4, 0x4)], 0x0, .one, [fd .rw 31 0]⟩,
  ⟨"NET_MCTL", 0x400, [], 0x0, .one, [fdO .gd 31 16, fdO .gd 9 0]⟩,
  ⟨"NET_QOS", 0x404, [], 0x0, .one, [fdO .rw 26 24, fdO .rw 21 16, fdO .rw 15 8, fdO .rw 0 0]⟩,
  ⟨"NET_CC", 0x408, [], 0x0, .one, [fdO .rw 23 16, fdO .rw 15 8, fdO .rw 7 0]⟩,
  ⟨"NET_RC", 0x40C, [], 0x0, .one, [fdO .rw 19 16, fdO .rw 12 8, fdO .rw 7 0]⟩,
  ⟨"NET_GSTAT", 0x410, [], 0x0, .one, [fd .sq 31 24, fd .sq 3 3, fd .sq 2 2, fd .sq 1 1, fd .sq 0 0]⟩,
  ⟨"NET_LINKS", 0x414, [], 0x0, .one, [fd .ro 9 0]⟩,
  ⟨"NET_CNP_CNT", 0x420, [], 0x0, .one, [fdK .ct 31 0]⟩,
  ⟨"NET_PFC_CNT", 0x424, [], 0x0, .one, [fdK .ct 31 0]⟩,
  ⟨"NET_REJ_CNT", 0x428, [], 0x0, .one, [fdK .ct 31 0]⟩]

/-- Registers of the PCI block. -/
def pciRegs : List RegDef := [
  ⟨"CAP_LO", 0x0, [(2, 0x1000)], 0x3C030FFF, .lo, [fd .ro 31 24, fd .ro 18 17, fd .ro 16 16, fd .ro 15 0]⟩,
  ⟨"CAP_HI", 0x4, [(2, 0x1000)], 0x821, .hi, [fd .ro 12 5, fd .ro 4 4, fd .ro 3 0]⟩,
  ⟨"VS", 0x8, [(2, 0x1000)], 0x20000, .one, [fd .ro 31 0]⟩,
  ⟨"CC", 0x14, [(2, 0x1000)], 0x0, .one, [fd .rw 23 20, fd .rw 19 16, fd .rw 15 14, fd .rw 13 11, fd .rw 10 7, fd .rw 6 4, fd .rw 0 0]⟩,
  ⟨"CSTS", 0x1C, [(2, 0x1000)], 0x0, .one, [fd .ro 3 2, fd .ro 1 1, fd .ro 0 0]⟩,
  ⟨"AQA", 0x24, [(2, 0x1000)], 0x0, .one, [fd .rw 27 16, fd .rw 11 0]⟩,
  ⟨"ASQ_LO", 0x28, [(2, 0x1000)], 0x0, .lo, [fd .rw 31 12]⟩,
  ⟨"ASQ_HI", 0x2C, [(2, 0x1000)], 0x0, .hi, [fd .rw 31 0]⟩,
  ⟨"ACQ_LO", 0x30, [(2, 0x1000)], 0x0, .lo, [fd .rw 31 12]⟩,
  ⟨"ACQ_HI", 0x34, [(2, 0x1000)], 0x0, .hi, [fd .rw 31 0]⟩,
  ⟨"PCI_CTL", 0x2000, [], 0x0, .one, [fdO .gd 2 2, fdO .gd 1 0]⟩,
  ⟨"PCI_STAT", 0x2004, [], 0x0, .one, [fd .sq 31 24, fd .ro 11 9, fd .ro 8 6, fd .ro 5 4, fd .sq 1 1, fd .sq 0 0]⟩,
  ⟨"PCI_CERR_CNT", 0x2008, [], 0x0, .one, [fdK .ct 31 0]⟩]

/-- Registers of the HL block, part 1. -/
def hlRegs1 : List RegDef := [
  ⟨"HL_CTL", 0x0, [], 0x0, .one, [fd .rw 16 16, fd .ro 14 12, fd .rw 11 10, fd .wo 9 9, fd .wo 8 8, fd .rw 3 3, fd .rw 2 2, fd .rw 1 1, fd .rw 0 0]⟩,
  ⟨"HL_FLAGS", 0x4, [], 0x0, .one, [fd .sq 31 24, fd .sq 9 9, fd .sq 8 8, fd .sq 7 7, fd .sq 6 6, fd .sq 5 5, fd .sq 4 4, fd .sq 3 3, fd .sq 2 2, fd .sq 1 1, fd .sq 0 0]⟩,
  ⟨"HL_FAIL", 0x8, [], 0x0, .one, [fd .ro 31 28, fd .ro 27 22, fd .ro 21 12]⟩,
  ⟨"HL_SAT_SRC", 0xC, [], 0x0, .one, [fd .ro 16 16, fd .ro 15 0]⟩,
  ⟨"HL_SUP", 0x10, [], 0x0, .one, [fdO .gd 31 24, fdO .gd 23 20, fdO .gd 15 8, fdO .gd 7 0]⟩,
  ⟨"HL_OUTLIM", 0x14, [], 0x0, .one, [fdO .gd 31 16, fdO .gd 15 0]⟩,
  ⟨"HL_PARK", 0x18, [], 0x0, .one, [fdO .gd 7 0]⟩,
  ⟨"HL_SPIN", 0x1C, [], 0x0, .one, [fdO .gd 31 16, fdO .gd 9 0]⟩,
  ⟨"PG_TGT", 0x20, [], 0x0, .one, [fd .rw 23 0]⟩,
  ⟨"PG_VMAX", 0x24, [], 0x0, .one, [fdO .gd 14 0]⟩,
  ⟨"PG_AMAX", 0x28, [], 0x0, .one, [fdO .gd 19 0]⟩,
  ⟨"PG_JMAX", 0x2C, [], 0x0, .one, [fdO .gd 19 0]⟩,
  ⟨"PG_TRK_LO", 0x30, [], 0x0, .one, [fdO .gd 23 0]⟩,
  ⟨"PG_TRK_HI", 0x34, [], 0x0, .one, [fdO .gd 23 0]⟩,
  ⟨"PG_POS", 0x38, [], 0x0, .one, [fd .ro 31 0]⟩,
  ⟨"PG_STAT", 0x3C, [], 0x0, .one, [fd .ro 31 16, fd .ro 2 0]⟩,
  ⟨"HL_PM_ADDR", 0x50, [], 0x0, .one, [fd .rw 13 0]⟩,
  ⟨"HL_PM_DATA_LO", 0x54, [], 0x0, .lo, [fd .rw 31 0]⟩,
  ⟨"HL_PM_DATA_HI", 0x58, [], 0x0, .hi, [fd .rw 31 0]⟩,
  ⟨"HL_TOK_CNT", 0x60, [], 0x0, .one, [fdK .ct 31 0]⟩,
  ⟨"HL_MISS_CNT", 0x64, [], 0x0, .one, [fdK .ct 31 0]⟩,
  ⟨"HL_WARN_CNT", 0x68, [], 0x0, .one, [fdK .ct 31 0]⟩,
  ⟨"HL_CRC_CNT", 0x6C, [], 0x0, .one, [fdK .ct 31 16, fdK .ct 15 0]⟩,
  ⟨"HL_CYC_MAX", 0x70, [], 0x0, .one, [fd .ro 15 0]⟩]

/-- Registers of the HL block, part 2. -/
def hlRegs2 : List RegDef := [
  ⟨"HL_RAMP_CTL", 0x80, [], 0x400, .one, [fd .rw 20 16, fd .rw 15 4, fd .ro 1 1, fd .wo 0 0]⟩,
  ⟨"HL_RAMP_STAT", 0x84, [], 0x0, .one, [fd .sq 31 24, fd .sq 2 2, fd .sq 1 1, fd .sq 0 0]⟩,
  ⟨"HL_RAMP_STEP", 0x88, [], 0x0, .one, [fd .ro 11 0]⟩,
  ⟨"GEO_FMT", 0xC000, [], 0x0, .one, [fd .gd 26 16, fd .gd 13 0]⟩,
  ⟨"GEO_TRK", 0xC004, [], 0x20000000, .one, [fd .gd 31 28, fd .gd 23 0]⟩,
  ⟨"EBB_CFG", 0xC008, [], 0x0, .one, [fdO .gd 31 24, fdO .gd 23 16, fdO .gd 14 8, fdO .gd 6 0]⟩,
  ⟨"EBB_STROKE", 0xC00C, [], 0x0, .one, [fdO .gd 15 0]⟩,
  ⟨"GEO_POP", 0xC010, [], 0x200000, .one, [fd .rw 21 20, fd .rw 19 16, fd .rw 15 0]⟩,
  ⟨"HL_RAMP_ADDR", 0x100, [(16, 0x8)], 0x0, .one, [fd .rw 16 16, fd .rw 15 2]⟩,
  ⟨"HL_RAMP_TGT", 0x104, [(16, 0x8)], 0x0, .one, [fd .rw 31 0]⟩,
  ⟨"HL_MA_REQ", 0x400, [(16, 0x10)], 0x0, .one, [fd .ro 15 0]⟩,
  ⟨"HL_DRIFT", 0x404, [(16, 0x10)], 0x0, .one, [fd .ro 15 0]⟩,
  ⟨"HL_MA_OUT", 0x408, [(16, 0x10)], 0x0, .one, [fd .ro 15 0]⟩,
  ⟨"HL_HEAD_ERR", 0x40C, [(16, 0x10)], 0x0, .one, [fd .ro 15 0]⟩,
  ⟨"HL_STATE_RAM", 0x2000, [(2048, 0x4)], 0x0, .one, [fd .rw 31 0]⟩,
  ⟨"HL_COEF_RAM", 0x4000, [(2048, 0x4)], 0x0, .one, [fd .rw 31 0]⟩,
  ⟨"HL_RRO_RAM", 0x6000, [(6144, 0x4)], 0x0, .one, [fd .rw 31 0]⟩,
  ⟨"EBB_STAT", 0xC020, [(4, 0x4)], 0xF000, .one, [fd .sq 31 24, fd .ro 15 12, fd .ro 11 8, fd .ro 5 4, fd .sq 2 2, fd .sq 1 1, fd .sq 0 0]⟩,
  ⟨"EBB_DIFF", 0xC030, [(4, 0x4)], 0x0, .one, [fd .ro 15 0]⟩,
  ⟨"EBB_ENTRIES", 0xC040, [(4, 0x4)], 0x0, .one, [fdK .ct 31 0]⟩,
  ⟨"EBB_REVS", 0xC050, [(4, 0x4)], 0x0, .one, [fdK .ct 31 0]⟩,
  ⟨"TIDE_LO", 0xD000, [(1024, 0x8)], 0x0, .lo, [fd .rw 31 16, fd .rw 15 0]⟩,
  ⟨"TIDE_HI", 0xD004, [(1024, 0x8)], 0x0, .hi, [fd .rw 31 16, fd .rw 15 0]⟩]

/-- Registers of the HL block. -/
def hlRegs : List RegDef := hlRegs1 ++ hlRegs2

/-- Registers of the LANE block, part 1. -/
def laneRegs1 : List RegDef := [
  ⟨"LN_CTL", 0x0, [], 0x400, .one, [fd .rw 15 15, fd .rw 11 10, fd .rw 1 1, fd .rw 0 0]⟩,
  ⟨"LN_RATE", 0x4, [], 0x0, .one, [fd .ro 31 31, fd .rw 22 0]⟩,
  ⟨"LN_SYNC", 0x8, [], 0x200300, .one, [fd .rw 21 16, fd .rw 12 8]⟩,
  ⟨"LN_SKEW", 0xC, [], 0x0, .one, [fd .rw 10 0]⟩,
  ⟨"LN_ITER", 0x10, [], 0xC, .one, [fd .rw 3 0]⟩,
  ⟨"LN_ADAPT", 0x14, [], 0x28668A40, .one, [fd .rw 31 24, fd .rw 23 20, fd .rw 19 16, fd .rw 15 12, fd .rw 11 8, fd .rw 7 4]⟩,
  ⟨"LN_SEED0", 0x18, [], 0x50500000, .one, [fd .rw 31 24, fd .rw 23 16, fd .rw 15 8, fd .rw 7 0]⟩,
  ⟨"LN_SEED1", 0x1C, [], 0x0, .one, [fd .rw 15 8, fd .rw 7 0]⟩,
  ⟨"LN_CUR0", 0x20, [], 0x0, .one, [fd .ro 31 0]⟩,
  ⟨"LN_CUR1", 0x24, [], 0x0, .one, [fd .ro 15 0]⟩,
  ⟨"LN_TIMING", 0x28, [], 0x0, .one, [fd .ro 15 0]⟩,
  ⟨"LN_STAT", 0x40, [], 0x0, .one, [fd .sq 31 24, fd .sq 5 5, fd .sq 4 4, fd .sq 3 3, fd .sq 2 2, fd .sq 1 1, fd .sq 0 0]⟩,
  ⟨"LN_SYNC_LAST", 0x44, [], 0x0, .one, [fd .ro 31 29, fd .ro 28 21, fd .ro 20 15, fd .ro 14 9, fd .ro 8 8]⟩,
  ⟨"LN_FAIL_LO", 0x48, [], 0x0, .lo, [fd .ro 31 17, fd .ro 16 0]⟩,
  ⟨"LN_FAIL_HI", 0x4C, [], 0x0, .hi, [fd .ro 31 31, fd .ro 30 28, fd .ro 27 24, fd .ro 23 20, fd .ro 19 17, fd .ro 16 16, fd .ro 15 10]⟩,
  ⟨"LN_CAP_BASE_LO", 0x50, [], 0x0, .lo, [fd .rw 31 12]⟩,
  ⟨"LN_CAP_BASE_HI", 0x54, [], 0x0, .hi, [fd .rw 3 0]⟩,
  ⟨"LN_CAP_SLOTS", 0x58, [], 0x0, .one, [fd .ro 7 0]⟩,
  ⟨"LN_CAP_FREE", 0x5C, [], 0x0, .one, [fd .wo 7 0]⟩,
  ⟨"LN_CAP_RANGE", 0x60, [], 0x0, .one, [fd .rw 19 17, fd .rw 16 0]⟩,
  ⟨"LN_SECT_CNT", 0xA0, [], 0x0, .one, [fdK .ct 31 0]⟩,
  ⟨"LN_ITER_CNT", 0xA4, [], 0x0, .one, [fdK .ct 31 0]⟩,
  ⟨"LN_FAIL_CNT", 0xA8, [], 0x0, .one, [fdK .ct 31 0]⟩,
  ⟨"LN_TA_CNT", 0xAC, [], 0x0, .one, [fdK .ct 31 0]⟩]

/-- Registers of the LANE block, part 2. -/
def laneRegs2 : List RegDef := [
  ⟨"LN_CASE_CNT", 0x80, [(6, 0x4)], 0x0, .one, [fdK .ct 31 0]⟩,
  ⟨"LN_EQ_TAP5", 0x114, [], 0x100, .one, [fd .ro 27 16, fd .rw 11 0]⟩,
  ⟨"LN_EQ_TAP17", 0x144, [], 0x100, .one, [fd .ro 27 16, fd .rw 11 0]⟩,
  ⟨"LN_EQ_TAP", 0x100, [(24, 0x4)], 0x0, .one, [fd .ro 27 16, fd .rw 11 0]⟩,
  ⟨"LN_TARGET0", 0x180, [], 0x80, .one, [fd .rw 11 0]⟩,
  ⟨"LN_TARGET1", 0x184, [], 0x180, .one, [fd .rw 11 0]⟩,
  ⟨"LN_TARGET2", 0x188, [], 0x200, .one, [fd .rw 11 0]⟩,
  ⟨"LN_TARGET3", 0x18C, [], 0x180, .one, [fd .rw 11 0]⟩,
  ⟨"LN_TARGET4", 0x190, [], 0x80, .one, [fd .rw 11 0]⟩]

/-- Registers of the LANE block. -/
def laneRegs : List RegDef := laneRegs1 ++ laneRegs2

/-- Registers of the WR block. -/
def wrRegs : List RegDef := [
  ⟨"WP_CTL", 0x0, [(4, 0x100)], 0x0, .one, [fd .rw 9 5, fd .ro 4 3, fd .ro 2 2, fd .rw 0 0]⟩,
  ⟨"WP_RATE", 0x4, [(4, 0x100)], 0x0, .one, [fd .ro 31 31, fd .rw 22 0]⟩,
  ⟨"WP_PRECOMP", 0x8, [(4, 0x100)], 0x0, .one, [fd .rw 17 12, fd .rw 11 6, fd .rw 5 0]⟩,
  ⟨"WP_GATE", 0xC, [(4, 0x100)], 0x1040, .one, [fd .rw 15 8, fd .rw 7 0]⟩,
  ⟨"WP_SRC_LO", 0x10, [(4, 0x100)], 0x0, .lo, [fd .rw 31 6]⟩,
  ⟨"WP_SRC_HI", 0x14, [(4, 0x100)], 0x0, .hi, [fd .rw 3 0]⟩,
  ⟨"WP_LOC", 0x18, [(4, 0x100)], 0x0, .one, [fd .rw 31 17, fd .rw 16 0]⟩,
  ⟨"WP_CNT", 0x1C, [(4, 0x100)], 0x0, .one, [fd .rw 31 16, fd .rw 15 0]⟩,
  ⟨"WP_DONE", 0x20, [(4, 0x100)], 0x20000, .one, [fd .ro 31 31, fd .ro 17 17, fd .ro 16 0]⟩,
  ⟨"WP_SECT_CNT", 0x24, [(4, 0x100)], 0x0, .one, [fdK .ct 31 0]⟩,
  ⟨"WA_GO", 0x800, [], 0x0, .one, [fd .wo 3 0]⟩,
  ⟨"WA_CFG", 0x804, [], 0x84A00, .one, [fd .gd 23 16, fd .gd 15 12, fd .gd 11 11, fd .gd 10 8]⟩,
  ⟨"WA_ASSIST", 0x808, [], 0x0, .one, [fdO .gd 31 31, fdO .gd 30 20, fdO .gd 19 12, fdO .gd 11 0]⟩,
  ⟨"WA_ASSIST2", 0x80C, [], 0x0, .one, [fdO .gd 31 24, fdO .gd 23 16, fdO .gd 15 8, fdO .gd 7 0]⟩,
  ⟨"WA_KILL", 0x810, [], 0x0, .one, [fd .rw 0 0]⟩,
  ⟨"WA_STAT", 0x820, [], 0x0, .one, [fd .sq 31 24, fd .sq 5 5, fd .sq 4 4, fd .sq 3 3, fd .sq 2 2, fd .sq 1 1, fd .sq 0 0]⟩,
  ⟨"WA_INH_LAST", 0x824, [], 0x0, .one, [fd .ro 31 28, fd .ro 27 18, fd .ro 17 12]⟩,
  ⟨"WA_INH_CNT", 0x828, [], 0x0, .one, [fdK .ct 31 0]⟩,
  ⟨"AS_ONTIME_LO", 0x1000, [(16, 0x10)], 0x0, .lo, [fdK .ct 31 0]⟩,
  ⟨"AS_ONTIME_HI", 0x1004, [(16, 0x10)], 0x0, .hi, [fdK .ct 31 0]⟩,
  ⟨"AS_WARM_CNT", 0x1008, [(16, 0x10)], 0x0, .one, [fdK .ct 31 0]⟩,
  ⟨"AS_STATE", 0x100C, [(16, 0x10)], 0x0, .one, [fd .ro 1 0]⟩,
  ⟨"AS_PWR", 0x4000, [(16, 0x80), (32, 0x4)], 0x0, .one, [fd .rw 11 0]⟩]

/-- Registers of the FE block. -/
def feRegs : List RegDef := [
  ⟨"FE_CTL", 0x0, [], 0xA00, .one, [fd .rw 15 8, fd .rw 2 1, fd .rw 0 0]⟩,
  ⟨"FE_STAT", 0x4, [], 0x0, .one, [fd .sq 31 24, fd .sq 2 2, fd .sq 1 1, fd .sq 0 0]⟩,
  ⟨"FE_CRC_CNT", 0x8, [], 0x0, .one, [fdK .ct 31 0]⟩]

/-- Registers of the DEC block. -/
def decRegs : List RegDef := [
  ⟨"DEC_CTL", 0x0, [], 0xF, .one, [fd .rw 3 0]⟩,
  ⟨"DEC_JQ_BASE_LO", 0x8, [], 0x0, .lo, [fd .rw 31 6]⟩,
  ⟨"DEC_JQ_BASE_HI", 0xC, [], 0x0, .hi, [fd .rw 3 0]⟩,
  ⟨"DEC_JQ_SIZE", 0x10, [], 0x10, .one, [fd .rw 10 0]⟩,
  ⟨"DEC_JQ_TAIL", 0x14, [], 0x0, .one, [fd .rw 9 0]⟩,
  ⟨"DEC_JQ_HEAD", 0x18, [], 0x0, .one, [fd .hw 9 0]⟩,
  ⟨"DEC_CQ_BASE_LO", 0x20, [], 0x0, .lo, [fd .rw 31 6]⟩,
  ⟨"DEC_CQ_BASE_HI", 0x24, [], 0x0, .hi, [fd .rw 3 0]⟩,
  ⟨"DEC_CQ_SIZE", 0x28, [], 0x10, .one, [fd .rw 10 0]⟩,
  ⟨"DEC_CQ_TAIL", 0x2C, [], 0x0, .one, [fd .hw 9 0]⟩,
  ⟨"DEC_CQ_HEAD", 0x30, [], 0x0, .one, [fd .rw 9 0]⟩,
  ⟨"DEC_STAT", 0x40, [], 0x0, .one, [fd .sq 31 24, fd .sq 2 2, fd .sq 1 1, fd .sq 0 0]⟩,
  ⟨"DEC_JOB_CNT", 0x80, [], 0x0, .one, [fdK .ct 31 0]⟩,
  ⟨"DEC_OK_CNT", 0x84, [], 0x0, .one, [fdK .ct 31 0]⟩,
  ⟨"DEC_FAIL_CNT", 0x88, [], 0x0, .one, [fdK .ct 31 0]⟩,
  ⟨"DEC_ITER_CNT", 0x8C, [], 0x0, .one, [fdK .ct 31 0]⟩,
  ⟨"DEC_DD_STAT", 0x50, [(4, 0x4)], 0x0, .one, [fd .ro 31 31, fd .ro 30 24, fd .ro 23 20, fd .ro 9 0]⟩]

/-- Registers of the WRK block. -/
def wrkRegs : List RegDef := [
  ⟨"WRK_CTL", 0x0, [], 0x0, .one, [fd .rw 15 8, fd .rw 7 4, fd .rw 3 3, fd .wo 2 0]⟩,
  ⟨"WRK_POST", 0x4, [], 0xFD20, .one, [fd .rw 23 0]⟩,
  ⟨"WRK_TRIG", 0x8, [], 0x0, .one, [fd .ro 9 8, fd .ro 4 2, fd .ro 1 0]⟩,
  ⟨"WRK_TRIG_TICK", 0xC, [], 0x0, .one, [fd .ro 31 0]⟩,
  ⟨"WRK_STAT", 0x10, [], 0x0, .one, [fd .sq 31 24, fd .sq 3 3, fd .sq 2 2, fd .sq 1 1, fd .sq 0 0]⟩,
  ⟨"WRK_RP_CTL", 0x200, [], 0x0, .one, [fd .rw 5 4, fd .ro 1 1, fd .wo 0 0]⟩,
  ⟨"WRK_RP_SRC_LO", 0x204, [], 0x0, .lo, [fd .rw 31 6]⟩,
  ⟨"WRK_RP_SRC_HI", 0x208, [], 0x0, .hi, [fd .rw 3 0]⟩,
  ⟨"WRK_RP_CNT", 0x20C, [], 0x0, .one, [fd .rw 31 0]⟩,
  ⟨"WRK_RP_CFG_LO", 0x210, [], 0x0, .lo, [fd .rw 31 6]⟩,
  ⟨"WRK_RP_CFG_HI", 0x214, [], 0x0, .hi, [fd .rw 3 0]⟩,
  ⟨"WRK_RP_CFGCNT", 0x218, [], 0x0, .one, [fd .rw 31 0]⟩,
  ⟨"WRK_RP_STAT", 0x220, [], 0x0, .one, [fd .ro 7 3, fd .ro 2 0]⟩,
  ⟨"WRK_RP_POS", 0x224, [], 0x0, .one, [fd .ro 31 0]⟩,
  ⟨"WRK_DROP_CNT", 0x20, [(4, 0x4)], 0x0, .one, [fdK .ct 31 0]⟩,
  ⟨"WRK_RBASE_LO", 0x100, [(9, 0x10)], 0x0, .lo, [fd .rw 31 12]⟩,
  ⟨"WRK_RBASE_HI", 0x104, [(9, 0x10)], 0x0, .hi, [fd .rw 3 0]⟩,
  ⟨"WRK_RSIZE", 0x108, [(9, 0x10)], 0x0, .one, [fd .rw 31 12]⟩,
  ⟨"WRK_RPTR", 0x10C, [(9, 0x10)], 0x0, .one, [fd .hw 31 0]⟩]

/-- Registers of the MGT block. -/
def mgtRegs : List RegDef := [
  ⟨"MGT_CTL", 0x0, [], 0x0, .one, [fdO .gd 15 8, fdO .gd 1 1]⟩,
  ⟨"MGT_STAT", 0x4, [], 0x0, .one, [fd .sq 31 24, fd .ro 15 15, fd .ro 14 8, fd .sq 3 3, fd .sq 2 2, fd .sq 1 1, fd .sq 0 0]⟩,
  ⟨"MGT_PID_LO", 0x8, [], 0x0, .lo, [fd .ro 31 0]⟩,
  ⟨"MGT_PID_HI", 0xC, [], 0x0, .hi, [fd .ro 15 0]⟩,
  ⟨"MGT_SLOT", 0x10, [], 0x0, .one, [fd .ro 5 0]⟩,
  ⟨"MGT_ENCL_STAT", 0x14, [], 0x0, .one, [fd .rw 31 0]⟩,
  ⟨"MGT_EN", 0x18, [], 0x0, .one, [fd .rw 0 0]⟩,
  ⟨"MGT_RENEW_CNT", 0x20, [], 0x0, .one, [fdK .ct 31 0]⟩,
  ⟨"MGT_HJ_CNT", 0x24, [], 0x0, .one, [fdK .ct 31 0]⟩]

/-- Registers of the NVS block. -/
def nvsRegs : List RegDef := [
  ⟨"NVS_CTL", 0x0, [], 0x7D, .one, [fd .rw 7 0]⟩,
  ⟨"NVS_PROT", 0x4, [], 0x0, .one, [fdO .gd 0 0]⟩,
  ⟨"NVS_CMD", 0x8, [], 0x0, .one, [fd .wo 2 0]⟩,
  ⟨"NVS_ADDR", 0xC, [], 0x0, .one, [fd .rw 27 0]⟩,
  ⟨"NVS_DRAM_LO", 0x10, [], 0x0, .lo, [fd .rw 31 6]⟩,
  ⟨"NVS_DRAM_HI", 0x14, [], 0x0, .hi, [fd .rw 3 0]⟩,
  ⟨"NVS_LEN", 0x18, [], 0x0, .one, [fd .rw 24 6]⟩,
  ⟨"NVS_STAT", 0x20, [], 0x0, .one, [fd .sq 31 24, fd .ro 15 15, fd .ro 14 12, fd .sq 1 1, fd .sq 0 0]⟩,
  ⟨"NVS_SIZE", 0x24, [], 0x0, .one, [fd .ro 8 0]⟩,
  ⟨"NVS_PROG_CNT", 0x30, [], 0x0, .one, [fdK .ct 31 0]⟩,
  ⟨"NVS_ERASE_CNT", 0x34, [], 0x0, .one, [fdK .ct 31 0]⟩]

/-- Registers of the TIM block. -/
def timRegs : List RegDef := [
  ⟨"TIM_US_LO", 0x0, [], 0x0, .lo, [fd .ro 31 0]⟩,
  ⟨"TIM_US_HI", 0x4, [], 0x0, .hi, [fd .ro 31 0]⟩,
  ⟨"TIM_HOST_LO", 0x8, [], 0x0, .lo, [fd .rw 31 0]⟩,
  ⟨"TIM_HOST_HI", 0xC, [], 0x0, .hi, [fd .ro 31 31, fd .ro 30 30, fd .rw 15 0]⟩,
  ⟨"TIM_BASE_LO", 0x10, [], 0x0, .lo, [fd .ro 31 0]⟩,
  ⟨"TIM_BASE_HI", 0x14, [], 0x0, .hi, [fd .ro 31 0]⟩]

/-- Registers of the DBG block. -/
def dbgRegs : List RegDef := [
  ⟨"DBG_CORE", 0x0, [], 0x0, .one, [fd .ro 7 4, fd .rw 3 0]⟩,
  ⟨"DBG_IDCODE", 0x4, [], 0x16440B47, .one, [fd .ro 31 0]⟩]

/-- The register table of a block. -/
def blkRegs : Blk → List RegDef
  | .sys => sysRegs
  | .rst => rstRegs
  | .thm => thmRegs
  | .pwr => pwrRegs
  | .mem => memRegs
  | .cch => cchRegs
  | .shl => shlRegs
  | .hqe => hqeRegs
  | .net => netRegs
  | .pci => pciRegs
  | .hl _ => hlRegs
  | .lane _ => laneRegs
  | .wr _ => wrRegs
  | .fe _ => feRegs
  | .dec => decRegs
  | .wrk => wrkRegs
  | .mgt => mgtRegs
  | .nvs => nvsRegs
  | .tim => timRegs
  | .dbg => dbgRegs
  | .hole => []

/-- An offset is one of the copies a list of (count, stride) pairs lays out. -/
def dimsHit : List (Nat × Nat) → Nat → Bool
  | [], o => o == 0
  | (c, s) :: ds, o => o / s < c && dimsHit ds (o % s)

/-- The register at an offset in its block. -/
def RegDef.hit (d : RegDef) (o : Nat) : Bool := d.off ≤ o && dimsHit d.dims (o - d.off)

/-- The register at a word-aligned BAR0 offset, if one is there. -/
def regDef (x : Nat) : Option RegDef := (blkRegs (blkOf x).1).find? (fun d => d.hit (blkOf x).2)

/-- The word a register holds at reset (zero where the tables give none). [DESIGN CHOICE, log 10, unsafe] -/
def resetWord (x : Nat) : Word :=
  match regDef x with
  | some d => d.rst
  | none => 0

/-- The bits of a register that hardware and plain writes may change: neither RZ nor GD (R30). -/
def liveMask (x : Nat) : Word :=
  match regDef x with
  | some d => d.maskOf (fun y => y.ty != .gd)
  | none => 0

/-- The GD bits of a register (R30). -/
def guardMask (x : Nat) : Word :=
  match regDef x with
  | some d => d.tyMask .gd
  | none => 0

end Sys2Proof.Machine
end

