-- ==== Sys2Proof/Machine/Regs.lean ====
section
/-! DEFINITION. The BAR0 offset of every register by its name in the spec (R23 for the ACTn blocks). A global lane g is lane
g mod 4 of actuator g / 4. -/

namespace Sys2Proof

/-- BAR0 offset of SYS_ID. -/
def Reg.SYS_ID : Nat := 0x0
/-- BAR0 offset of SYS_REV. -/
def Reg.SYS_REV : Nat := 0x4
/-- BAR0 offset of SYS_CAP0. -/
def Reg.SYS_CAP0 : Nat := 0x8
/-- BAR0 offset of SYS_CAP1. -/
def Reg.SYS_CAP1 : Nat := 0xC
/-- BAR0 offset of SYS_UID_LO. -/
def Reg.SYS_UID_LO : Nat := 0x10
/-- BAR0 offset of SYS_UID_HI. -/
def Reg.SYS_UID_HI : Nat := 0x14
/-- BAR0 offset of SYS_GUARD_TGT. -/
def Reg.SYS_GUARD_TGT : Nat := 0x20
/-- BAR0 offset of SYS_GUARD_VAL. -/
def Reg.SYS_GUARD_VAL : Nat := 0x24
/-- BAR0 offset of SYS_GUARD_INV. -/
def Reg.SYS_GUARD_INV : Nat := 0x28
/-- BAR0 offset of SYS_GUARD_STAT. -/
def Reg.SYS_GUARD_STAT : Nat := 0x2C
/-- BAR0 offset of SYS_LOCK. -/
def Reg.SYS_LOCK : Nat := 0x30
/-- BAR0 offset of SYS_DBG_EN. -/
def Reg.SYS_DBG_EN : Nat := 0x38
/-- BAR0 offset of SYS_ERR_STAT. -/
def Reg.SYS_ERR_STAT : Nat := 0x40
/-- BAR0 offset of SYS_ERR_ADDR. -/
def Reg.SYS_ERR_ADDR : Nat := 0x44
/-- BAR0 offset of SYS_IND_ADDR. -/
def Reg.SYS_IND_ADDR : Nat := 0x100
/-- BAR0 offset of SYS_IND_DATA. -/
def Reg.SYS_IND_DATA : Nat := 0x104
/-- BAR0 offset of SYS_IND_STAT. -/
def Reg.SYS_IND_STAT : Nat := 0x108
/-- BAR0 offset of SYS_SCRATCH. -/
def Reg.SYS_SCRATCH (i : Nat) : Nat := 0x50 + i * 0x4
/-- BAR0 offset of CLK_CFG. -/
def Reg.CLK_CFG : Nat := 0x10000
/-- BAR0 offset of CLK_STAT. -/
def Reg.CLK_STAT : Nat := 0x10004
/-- BAR0 offset of RST_STAT. -/
def Reg.RST_STAT : Nat := 0x10040
/-- BAR0 offset of RST_GAP. -/
def Reg.RST_GAP : Nat := 0x10044
/-- BAR0 offset of OPT_STAT. -/
def Reg.OPT_STAT : Nat := 0x10048
/-- BAR0 offset of RST_SW. -/
def Reg.RST_SW : Nat := 0x10050
/-- BAR0 offset of RST_SELF. -/
def Reg.RST_SELF : Nat := 0x10054
/-- BAR0 offset of RST_WDOG. -/
def Reg.RST_WDOG : Nat := 0x10058
/-- BAR0 offset of RST_WDOG_KICK. -/
def Reg.RST_WDOG_KICK : Nat := 0x1005C
/-- BAR0 offset of RST_PAD. -/
def Reg.RST_PAD : Nat := 0x10060
/-- BAR0 offset of RST_BOOT. -/
def Reg.RST_BOOT : Nat := 0x10064
/-- BAR0 offset of RST_CORE_ENTRY_LO. -/
def Reg.RST_CORE_ENTRY_LO : Nat := 0x10070
/-- BAR0 offset of RST_CORE_ENTRY_HI. -/
def Reg.RST_CORE_ENTRY_HI : Nat := 0x10074
/-- BAR0 offset of RST_CORE_GO. -/
def Reg.RST_CORE_GO : Nat := 0x10078
/-- BAR0 offset of PAD_SLEW. -/
def Reg.PAD_SLEW : Nat := 0x11000
/-- BAR0 offset of PAD_FE. -/
def Reg.PAD_FE : Nat := 0x11004
/-- BAR0 offset of GPIO_DIR. -/
def Reg.GPIO_DIR : Nat := 0x11008
/-- BAR0 offset of GPIO_OUT. -/
def Reg.GPIO_OUT : Nat := 0x1100C
/-- BAR0 offset of GPIO_IN. -/
def Reg.GPIO_IN : Nat := 0x11010
/-- BAR0 offset of GPIO_PDEN. -/
def Reg.GPIO_PDEN : Nat := 0x11014
/-- BAR0 offset of PAD_STAT. -/
def Reg.PAD_STAT : Nat := 0x11018
/-- BAR0 offset of MPD_CTL. -/
def Reg.MPD_CTL : Nat := 0x11020
/-- BAR0 offset of MPD_CMD. -/
def Reg.MPD_CMD : Nat := 0x11024
/-- BAR0 offset of MPD_RDATA. -/
def Reg.MPD_RDATA : Nat := 0x11028
/-- BAR0 offset of CLK_DOM_OFF. -/
def Reg.CLK_DOM_OFF (i : Nat) : Nat := 0x10010 + i * 0x4
/-- BAR0 offset of CLK_DOM_OFF3. -/
def Reg.CLK_DOM_OFF3 : Nat := 0x1001C
/-- BAR0 offset of THM_CTL. -/
def Reg.THM_CTL : Nat := 0x20000
/-- BAR0 offset of THM_EXCL. -/
def Reg.THM_EXCL : Nat := 0x20004
/-- BAR0 offset of THM_GRACE. -/
def Reg.THM_GRACE : Nat := 0x20014
/-- BAR0 offset of THM_BRK_CFG. -/
def Reg.THM_BRK_CFG : Nat := 0x20018
/-- BAR0 offset of THM_STAT. -/
def Reg.THM_STAT : Nat := 0x20020
/-- BAR0 offset of THM_HOT. -/
def Reg.THM_HOT : Nat := 0x20024
/-- BAR0 offset of THM_BROKEN. -/
def Reg.THM_BROKEN : Nat := 0x20028
/-- BAR0 offset of THM_ENF_CNT. -/
def Reg.THM_ENF_CNT : Nat := 0x20030
/-- BAR0 offset of THM_THR. -/
def Reg.THM_THR (i : Nat) : Nat := 0x20008 + i * 0x4
/-- BAR0 offset of THM_SENSE. -/
def Reg.THM_SENSE (i : Nat) : Nat := 0x20100 + i * 0x4
/-- BAR0 offset of BW_CTL. -/
def Reg.BW_CTL : Nat := 0x30000
/-- BAR0 offset of BW_SLOT. -/
def Reg.BW_SLOT : Nat := 0x30004
/-- BAR0 offset of BW_SWREQ. -/
def Reg.BW_SWREQ : Nat := 0x30080
/-- BAR0 offset of BW_SWSTAT. -/
def Reg.BW_SWSTAT : Nat := 0x30084
/-- BAR0 offset of BW_STAT. -/
def Reg.BW_STAT : Nat := 0x30090
/-- BAR0 offset of BW_GRANT_CNT. -/
def Reg.BW_GRANT_CNT : Nat := 0x300A0
/-- BAR0 offset of BW_WAIT_CNT. -/
def Reg.BW_WAIT_CNT : Nat := 0x300A4
/-- BAR0 offset of BW_MAXWAIT. -/
def Reg.BW_MAXWAIT : Nat := 0x300A8
/-- BAR0 offset of BW_BUDGET. -/
def Reg.BW_BUDGET (i : Nat) : Nat := 0x30010 + i * 0x4
/-- BAR0 offset of BW_FREE. -/
def Reg.BW_FREE (i : Nat) : Nat := 0x30020 + i * 0x4
/-- BAR0 offset of BW_CLASS. -/
def Reg.BW_CLASS (i : Nat) : Nat := 0x30040 + i * 0x8
/-- BAR0 offset of BW_COST. -/
def Reg.BW_COST (i : Nat) : Nat := 0x30044 + i * 0x8
/-- BAR0 offset of MEM_CFG. -/
def Reg.MEM_CFG : Nat := 0x40000
/-- BAR0 offset of MEM_SIZE. -/
def Reg.MEM_SIZE : Nat := 0x40004
/-- BAR0 offset of MEM_ARB. -/
def Reg.MEM_ARB : Nat := 0x40008
/-- BAR0 offset of MEM_TRAIN. -/
def Reg.MEM_TRAIN : Nat := 0x4000C
/-- BAR0 offset of MEM_TRAIN_STAT. -/
def Reg.MEM_TRAIN_STAT : Nat := 0x40010
/-- BAR0 offset of MEM_STAT. -/
def Reg.MEM_STAT : Nat := 0x40020
/-- BAR0 offset of MEM_UE_LO. -/
def Reg.MEM_UE_LO : Nat := 0x40028
/-- BAR0 offset of MEM_UE_HI. -/
def Reg.MEM_UE_HI : Nat := 0x4002C
/-- BAR0 offset of MEM_AERR_LO. -/
def Reg.MEM_AERR_LO : Nat := 0x40030
/-- BAR0 offset of MEM_AERR_HI. -/
def Reg.MEM_AERR_HI : Nat := 0x40034
/-- BAR0 offset of MEM_CE_VALID. -/
def Reg.MEM_CE_VALID : Nat := 0x40040
/-- BAR0 offset of MEM_CE_FREE. -/
def Reg.MEM_CE_FREE : Nat := 0x40044
/-- BAR0 offset of MEM_CE_OVF_CNT. -/
def Reg.MEM_CE_OVF_CNT : Nat := 0x40048
/-- BAR0 offset of MEM_FILL_BASE_LO. -/
def Reg.MEM_FILL_BASE_LO : Nat := 0x40050
/-- BAR0 offset of MEM_FILL_BASE_HI. -/
def Reg.MEM_FILL_BASE_HI : Nat := 0x40054
/-- BAR0 offset of MEM_FILL_LEN_LO. -/
def Reg.MEM_FILL_LEN_LO : Nat := 0x40058
/-- BAR0 offset of MEM_FILL_LEN_HI. -/
def Reg.MEM_FILL_LEN_HI : Nat := 0x4005C
/-- BAR0 offset of MEM_FILL_PAT_LO. -/
def Reg.MEM_FILL_PAT_LO : Nat := 0x40060
/-- BAR0 offset of MEM_FILL_PAT_HI. -/
def Reg.MEM_FILL_PAT_HI : Nat := 0x40064
/-- BAR0 offset of MEM_FILL_CTL. -/
def Reg.MEM_FILL_CTL : Nat := 0x40068
/-- BAR0 offset of MEM_SCRUB_BASE_LO. -/
def Reg.MEM_SCRUB_BASE_LO : Nat := 0x40080
/-- BAR0 offset of MEM_SCRUB_BASE_HI. -/
def Reg.MEM_SCRUB_BASE_HI : Nat := 0x40084
/-- BAR0 offset of MEM_SCRUB_LEN_LO. -/
def Reg.MEM_SCRUB_LEN_LO : Nat := 0x40088
/-- BAR0 offset of MEM_SCRUB_LEN_HI. -/
def Reg.MEM_SCRUB_LEN_HI : Nat := 0x4008C
/-- BAR0 offset of MEM_SCRUB_CTL. -/
def Reg.MEM_SCRUB_CTL : Nat := 0x40090
/-- BAR0 offset of MEM_SCRUB_WORDS_LO. -/
def Reg.MEM_SCRUB_WORDS_LO : Nat := 0x40098
/-- BAR0 offset of MEM_SCRUB_WORDS_HI. -/
def Reg.MEM_SCRUB_WORDS_HI : Nat := 0x4009C
/-- BAR0 offset of MEM_SCRUB_CE. -/
def Reg.MEM_SCRUB_CE : Nat := 0x400A0
/-- BAR0 offset of MEM_SCRUB_FIRST_LO. -/
def Reg.MEM_SCRUB_FIRST_LO : Nat := 0x400A8
/-- BAR0 offset of MEM_SCRUB_FIRST_HI. -/
def Reg.MEM_SCRUB_FIRST_HI : Nat := 0x400AC
/-- BAR0 offset of MEM_SCRUB_LAST_LO. -/
def Reg.MEM_SCRUB_LAST_LO : Nat := 0x400B0
/-- BAR0 offset of MEM_SCRUB_LAST_HI. -/
def Reg.MEM_SCRUB_LAST_HI : Nat := 0x400B4
/-- BAR0 offset of MEM_CE_ADDR_LO. -/
def Reg.MEM_CE_ADDR_LO (i : Nat) : Nat := 0x41000 + i * 0x10
/-- BAR0 offset of MEM_CE_ADDR_HI. -/
def Reg.MEM_CE_ADDR_HI (i : Nat) : Nat := 0x41004 + i * 0x10
/-- BAR0 offset of MEM_CE_INFO. -/
def Reg.MEM_CE_INFO (i : Nat) : Nat := 0x41008 + i * 0x10
/-- BAR0 offset of MEM_CE_CNT. -/
def Reg.MEM_CE_CNT (i : Nat) : Nat := 0x42000 + i * 0x4
/-- BAR0 offset of CCH_CTL. -/
def Reg.CCH_CTL : Nat := 0x50000
/-- BAR0 offset of CCH_WAY_DIS. -/
def Reg.CCH_WAY_DIS : Nat := 0x50004
/-- BAR0 offset of CCH_MAINT_ADDR_LO. -/
def Reg.CCH_MAINT_ADDR_LO : Nat := 0x50008
/-- BAR0 offset of CCH_MAINT_ADDR_HI. -/
def Reg.CCH_MAINT_ADDR_HI : Nat := 0x5000C
/-- BAR0 offset of CCH_MAINT_CTL. -/
def Reg.CCH_MAINT_CTL : Nat := 0x50010
/-- BAR0 offset of CCH_WAY_CFG. -/
def Reg.CCH_WAY_CFG : Nat := 0x50014
/-- BAR0 offset of CCH_STAT. -/
def Reg.CCH_STAT : Nat := 0x50020
/-- BAR0 offset of CCH_HIT_CNT. -/
def Reg.CCH_HIT_CNT : Nat := 0x50080
/-- BAR0 offset of CCH_MISS_CNT. -/
def Reg.CCH_MISS_CNT : Nat := 0x50084
/-- BAR0 offset of CCH_WB_CNT. -/
def Reg.CCH_WB_CNT : Nat := 0x50088
/-- BAR0 offset of CCH_NOALLOC_CNT. -/
def Reg.CCH_NOALLOC_CNT : Nat := 0x5008C
/-- BAR0 offset of CCH_WAY_ERR_CNT. -/
def Reg.CCH_WAY_ERR_CNT (i : Nat) : Nat := 0x50040 + i * 0x4
/-- BAR0 offset of SHL_CTL. -/
def Reg.SHL_CTL : Nat := 0x60000
/-- BAR0 offset of SHL_CFG. -/
def Reg.SHL_CFG : Nat := 0x60004
/-- BAR0 offset of SHL_DL01. -/
def Reg.SHL_DL01 : Nat := 0x60008
/-- BAR0 offset of SHL_DL23. -/
def Reg.SHL_DL23 : Nat := 0x6000C
/-- BAR0 offset of SHL_HOLD. -/
def Reg.SHL_HOLD : Nat := 0x60010
/-- BAR0 offset of SHL_STAT. -/
def Reg.SHL_STAT : Nat := 0x60020
/-- BAR0 offset of SHL_FENCED_LO. -/
def Reg.SHL_FENCED_LO : Nat := 0x60028
/-- BAR0 offset of SHL_FENCED_HI. -/
def Reg.SHL_FENCED_HI : Nat := 0x6002C
/-- BAR0 offset of SHL_FENCE_CLR_LO. -/
def Reg.SHL_FENCE_CLR_LO : Nat := 0x60030
/-- BAR0 offset of SHL_FENCE_CLR_HI. -/
def Reg.SHL_FENCE_CLR_HI : Nat := 0x60034
/-- BAR0 offset of SHL_ENG_RST_LO. -/
def Reg.SHL_ENG_RST_LO : Nat := 0x60038
/-- BAR0 offset of SHL_ENG_RST_HI. -/
def Reg.SHL_ENG_RST_HI : Nat := 0x6003C
/-- BAR0 offset of SHL_KEY_SEL. -/
def Reg.SHL_KEY_SEL : Nat := 0x60040
/-- BAR0 offset of SHL_KEY_DATA. -/
def Reg.SHL_KEY_DATA : Nat := 0x60044
/-- BAR0 offset of SHL_TASK_CNT. -/
def Reg.SHL_TASK_CNT : Nat := 0x60100
/-- BAR0 offset of SHL_STEAL_CNT. -/
def Reg.SHL_STEAL_CNT : Nat := 0x60104
/-- BAR0 offset of SHL_XSTEAL_CNT. -/
def Reg.SHL_XSTEAL_CNT : Nat := 0x60108
/-- BAR0 offset of SHL_FENCE_CNT. -/
def Reg.SHL_FENCE_CNT : Nat := 0x6010C
/-- BAR0 offset of SHL_STALE_CNT. -/
def Reg.SHL_STALE_CNT : Nat := 0x60110
/-- BAR0 offset of SHL_REISSUE_CNT. -/
def Reg.SHL_REISSUE_CNT : Nat := 0x60114
/-- BAR0 offset of SHL_SUBMIT_LO. -/
def Reg.SHL_SUBMIT_LO (i : Nat) : Nat := 0x60080 + i * 0x8
/-- BAR0 offset of SHL_SUBMIT_HI. -/
def Reg.SHL_SUBMIT_HI (i : Nat) : Nat := 0x60084 + i * 0x8
/-- BAR0 offset of SHL_POOL. -/
def Reg.SHL_POOL (i : Nat) : Nat := 0x600C0 + i * 0x4
/-- BAR0 offset of SHL_ENG. -/
def Reg.SHL_ENG (i : Nat) : Nat := 0x60200 + i * 0x4
/-- BAR0 offset of HQE_CTL. -/
def Reg.HQE_CTL : Nat := 0x80000
/-- BAR0 offset of HQE_SLOTS. -/
def Reg.HQE_SLOTS : Nat := 0x80004
/-- BAR0 offset of HQE_ARB. -/
def Reg.HQE_ARB : Nat := 0x80008
/-- BAR0 offset of HQE_STAT. -/
def Reg.HQE_STAT : Nat := 0x80010
/-- BAR0 offset of HQE_USE. -/
def Reg.HQE_USE : Nat := 0x80014
/-- BAR0 offset of HQE_FETCH_CNT. -/
def Reg.HQE_FETCH_CNT : Nat := 0x80020
/-- BAR0 offset of HQE_CQE_CNT. -/
def Reg.HQE_CQE_CNT : Nat := 0x80024
/-- BAR0 offset of HQE_ABORT_CNT. -/
def Reg.HQE_ABORT_CNT : Nat := 0x80028
/-- BAR0 offset of HQE_DBERR_CNT. -/
def Reg.HQE_DBERR_CNT : Nat := 0x8002C
/-- BAR0 offset of HQE_LINK_SEL. -/
def Reg.HQE_LINK_SEL : Nat := 0x80100
/-- BAR0 offset of HQE_LINK_INFO. -/
def Reg.HQE_LINK_INFO : Nat := 0x80104
/-- BAR0 offset of NET_CTL. -/
def Reg.NET_CTL (i : Nat) : Nat := 0xA0000 + i * 0x100
/-- BAR0 offset of NET_STAT. -/
def Reg.NET_STAT (i : Nat) : Nat := 0xA0004 + i * 0x100
/-- BAR0 offset of NET_MAC_LO. -/
def Reg.NET_MAC_LO (i : Nat) : Nat := 0xA0008 + i * 0x100
/-- BAR0 offset of NET_MAC_HI. -/
def Reg.NET_MAC_HI (i : Nat) : Nat := 0xA000C + i * 0x100
/-- BAR0 offset of NET_VLAN. -/
def Reg.NET_VLAN (i : Nat) : Nat := 0xA0010 + i * 0x100
/-- BAR0 offset of NET_IPVAL. -/
def Reg.NET_IPVAL (i : Nat) : Nat := 0xA0014 + i * 0x100
/-- BAR0 offset of NET_RXF_CNT. -/
def Reg.NET_RXF_CNT (i : Nat) : Nat := 0xA0070 + i * 0x100
/-- BAR0 offset of NET_TXF_CNT. -/
def Reg.NET_TXF_CNT (i : Nat) : Nat := 0xA0074 + i * 0x100
/-- BAR0 offset of NET_FEC_CNT. -/
def Reg.NET_FEC_CNT (i : Nat) : Nat := 0xA0078 + i * 0x100
/-- BAR0 offset of NET_DROP_CNT. -/
def Reg.NET_DROP_CNT (i : Nat) : Nat := 0xA007C + i * 0x100
/-- BAR0 offset of NET_IP. -/
def Reg.NET_IP (i j k : Nat) : Nat := 0xA0020 + i * 0x100 + j * 0x10 + k * 0x4
/-- BAR0 offset of NET_MCTL. -/
def Reg.NET_MCTL : Nat := 0xA0400
/-- BAR0 offset of NET_QOS. -/
def Reg.NET_QOS : Nat := 0xA0404
/-- BAR0 offset of NET_CC. -/
def Reg.NET_CC : Nat := 0xA0408
/-- BAR0 offset of NET_RC. -/
def Reg.NET_RC : Nat := 0xA040C
/-- BAR0 offset of NET_GSTAT. -/
def Reg.NET_GSTAT : Nat := 0xA0410
/-- BAR0 offset of NET_LINKS. -/
def Reg.NET_LINKS : Nat := 0xA0414
/-- BAR0 offset of NET_CNP_CNT. -/
def Reg.NET_CNP_CNT : Nat := 0xA0420
/-- BAR0 offset of NET_PFC_CNT. -/
def Reg.NET_PFC_CNT : Nat := 0xA0424
/-- BAR0 offset of NET_REJ_CNT. -/
def Reg.NET_REJ_CNT : Nat := 0xA0428
/-- BAR0 offset of CAP_LO. -/
def Reg.CAP_LO (i : Nat) : Nat := 0xB0000 + i * 0x1000
/-- BAR0 offset of CAP_HI. -/
def Reg.CAP_HI (i : Nat) : Nat := 0xB0004 + i * 0x1000
/-- BAR0 offset of VS. -/
def Reg.VS (i : Nat) : Nat := 0xB0008 + i * 0x1000
/-- BAR0 offset of CC. -/
def Reg.CC (i : Nat) : Nat := 0xB0014 + i * 0x1000
/-- BAR0 offset of CSTS. -/
def Reg.CSTS (i : Nat) : Nat := 0xB001C + i * 0x1000
/-- BAR0 offset of AQA. -/
def Reg.AQA (i : Nat) : Nat := 0xB0024 + i * 0x1000
/-- BAR0 offset of ASQ_LO. -/
def Reg.ASQ_LO (i : Nat) : Nat := 0xB0028 + i * 0x1000
/-- BAR0 offset of ASQ_HI. -/
def Reg.ASQ_HI (i : Nat) : Nat := 0xB002C + i * 0x1000
/-- BAR0 offset of ACQ_LO. -/
def Reg.ACQ_LO (i : Nat) : Nat := 0xB0030 + i * 0x1000
/-- BAR0 offset of ACQ_HI. -/
def Reg.ACQ_HI (i : Nat) : Nat := 0xB0034 + i * 0x1000
/-- BAR0 offset of PCI_CTL. -/
def Reg.PCI_CTL : Nat := 0xB2000
/-- BAR0 offset of PCI_STAT. -/
def Reg.PCI_STAT : Nat := 0xB2004
/-- BAR0 offset of PCI_CERR_CNT. -/
def Reg.PCI_CERR_CNT : Nat := 0xB2008
/-- BAR0 offset of HL_CTL. -/
def Reg.HL_CTL (a : Nat) : Nat := 0x100000 + a * 0x40000
/-- BAR0 offset of HL_FLAGS. -/
def Reg.HL_FLAGS (a : Nat) : Nat := 0x100004 + a * 0x40000
/-- BAR0 offset of HL_FAIL. -/
def Reg.HL_FAIL (a : Nat) : Nat := 0x100008 + a * 0x40000
/-- BAR0 offset of HL_SAT_SRC. -/
def Reg.HL_SAT_SRC (a : Nat) : Nat := 0x10000C + a * 0x40000
/-- BAR0 offset of HL_SUP. -/
def Reg.HL_SUP (a : Nat) : Nat := 0x100010 + a * 0x40000
/-- BAR0 offset of HL_OUTLIM. -/
def Reg.HL_OUTLIM (a : Nat) : Nat := 0x100014 + a * 0x40000
/-- BAR0 offset of HL_PARK. -/
def Reg.HL_PARK (a : Nat) : Nat := 0x100018 + a * 0x40000
/-- BAR0 offset of HL_SPIN. -/
def Reg.HL_SPIN (a : Nat) : Nat := 0x10001C + a * 0x40000
/-- BAR0 offset of PG_TGT. -/
def Reg.PG_TGT (a : Nat) : Nat := 0x100020 + a * 0x40000
/-- BAR0 offset of PG_VMAX. -/
def Reg.PG_VMAX (a : Nat) : Nat := 0x100024 + a * 0x40000
/-- BAR0 offset of PG_AMAX. -/
def Reg.PG_AMAX (a : Nat) : Nat := 0x100028 + a * 0x40000
/-- BAR0 offset of PG_JMAX. -/
def Reg.PG_JMAX (a : Nat) : Nat := 0x10002C + a * 0x40000
/-- BAR0 offset of PG_TRK_LO. -/
def Reg.PG_TRK_LO (a : Nat) : Nat := 0x100030 + a * 0x40000
/-- BAR0 offset of PG_TRK_HI. -/
def Reg.PG_TRK_HI (a : Nat) : Nat := 0x100034 + a * 0x40000
/-- BAR0 offset of PG_POS. -/
def Reg.PG_POS (a : Nat) : Nat := 0x100038 + a * 0x40000
/-- BAR0 offset of PG_STAT. -/
def Reg.PG_STAT (a : Nat) : Nat := 0x10003C + a * 0x40000
/-- BAR0 offset of HL_PM_ADDR. -/
def Reg.HL_PM_ADDR (a : Nat) : Nat := 0x100050 + a * 0x40000
/-- BAR0 offset of HL_PM_DATA_LO. -/
def Reg.HL_PM_DATA_LO (a : Nat) : Nat := 0x100054 + a * 0x40000
/-- BAR0 offset of HL_PM_DATA_HI. -/
def Reg.HL_PM_DATA_HI (a : Nat) : Nat := 0x100058 + a * 0x40000
/-- BAR0 offset of HL_TOK_CNT. -/
def Reg.HL_TOK_CNT (a : Nat) : Nat := 0x100060 + a * 0x40000
/-- BAR0 offset of HL_MISS_CNT. -/
def Reg.HL_MISS_CNT (a : Nat) : Nat := 0x100064 + a * 0x40000
/-- BAR0 offset of HL_WARN_CNT. -/
def Reg.HL_WARN_CNT (a : Nat) : Nat := 0x100068 + a * 0x40000
/-- BAR0 offset of HL_CRC_CNT. -/
def Reg.HL_CRC_CNT (a : Nat) : Nat := 0x10006C + a * 0x40000
/-- BAR0 offset of HL_CYC_MAX. -/
def Reg.HL_CYC_MAX (a : Nat) : Nat := 0x100070 + a * 0x40000
/-- BAR0 offset of HL_RAMP_CTL. -/
def Reg.HL_RAMP_CTL (a : Nat) : Nat := 0x100080 + a * 0x40000
/-- BAR0 offset of HL_RAMP_STAT. -/
def Reg.HL_RAMP_STAT (a : Nat) : Nat := 0x100084 + a * 0x40000
/-- BAR0 offset of HL_RAMP_STEP. -/
def Reg.HL_RAMP_STEP (a : Nat) : Nat := 0x100088 + a * 0x40000
/-- BAR0 offset of GEO_FMT. -/
def Reg.GEO_FMT (a : Nat) : Nat := 0x10C000 + a * 0x40000
/-- BAR0 offset of GEO_TRK. -/
def Reg.GEO_TRK (a : Nat) : Nat := 0x10C004 + a * 0x40000
/-- BAR0 offset of EBB_CFG. -/
def Reg.EBB_CFG (a : Nat) : Nat := 0x10C008 + a * 0x40000
/-- BAR0 offset of EBB_STROKE. -/
def Reg.EBB_STROKE (a : Nat) : Nat := 0x10C00C + a * 0x40000
/-- BAR0 offset of GEO_POP. -/
def Reg.GEO_POP (a : Nat) : Nat := 0x10C010 + a * 0x40000
/-- BAR0 offset of HL_RAMP_ADDR. -/
def Reg.HL_RAMP_ADDR (a i : Nat) : Nat := 0x100100 + a * 0x40000 + i * 0x8
/-- BAR0 offset of HL_RAMP_TGT. -/
def Reg.HL_RAMP_TGT (a i : Nat) : Nat := 0x100104 + a * 0x40000 + i * 0x8
/-- BAR0 offset of HL_MA_REQ. -/
def Reg.HL_MA_REQ (a i : Nat) : Nat := 0x100400 + a * 0x40000 + i * 0x10
/-- BAR0 offset of HL_DRIFT. -/
def Reg.HL_DRIFT (a i : Nat) : Nat := 0x100404 + a * 0x40000 + i * 0x10
/-- BAR0 offset of HL_MA_OUT. -/
def Reg.HL_MA_OUT (a i : Nat) : Nat := 0x100408 + a * 0x40000 + i * 0x10
/-- BAR0 offset of HL_HEAD_ERR. -/
def Reg.HL_HEAD_ERR (a i : Nat) : Nat := 0x10040C + a * 0x40000 + i * 0x10
/-- BAR0 offset of HL_STATE_RAM. -/
def Reg.HL_STATE_RAM (a i : Nat) : Nat := 0x102000 + a * 0x40000 + i * 0x4
/-- BAR0 offset of HL_COEF_RAM. -/
def Reg.HL_COEF_RAM (a i : Nat) : Nat := 0x104000 + a * 0x40000 + i * 0x4
/-- BAR0 offset of HL_RRO_RAM. -/
def Reg.HL_RRO_RAM (a i : Nat) : Nat := 0x106000 + a * 0x40000 + i * 0x4
/-- BAR0 offset of EBB_STAT. -/
def Reg.EBB_STAT (a i : Nat) : Nat := 0x10C020 + a * 0x40000 + i * 0x4
/-- BAR0 offset of EBB_DIFF. -/
def Reg.EBB_DIFF (a i : Nat) : Nat := 0x10C030 + a * 0x40000 + i * 0x4
/-- BAR0 offset of EBB_ENTRIES. -/
def Reg.EBB_ENTRIES (a i : Nat) : Nat := 0x10C040 + a * 0x40000 + i * 0x4
/-- BAR0 offset of EBB_REVS. -/
def Reg.EBB_REVS (a i : Nat) : Nat := 0x10C050 + a * 0x40000 + i * 0x4
/-- BAR0 offset of TIDE_LO. -/
def Reg.TIDE_LO (a i : Nat) : Nat := 0x10D000 + a * 0x40000 + i * 0x8
/-- BAR0 offset of TIDE_HI. -/
def Reg.TIDE_HI (a i : Nat) : Nat := 0x10D004 + a * 0x40000 + i * 0x8
/-- BAR0 offset of LN_CTL. -/
def Reg.LN_CTL (g : Nat) : Nat := 0x110000 + g / 4 * 0x40000 + g % 4 * 0x4000
/-- BAR0 offset of LN_RATE. -/
def Reg.LN_RATE (g : Nat) : Nat := 0x110004 + g / 4 * 0x40000 + g % 4 * 0x4000
/-- BAR0 offset of LN_SYNC. -/
def Reg.LN_SYNC (g : Nat) : Nat := 0x110008 + g / 4 * 0x40000 + g % 4 * 0x4000
/-- BAR0 offset of LN_SKEW. -/
def Reg.LN_SKEW (g : Nat) : Nat := 0x11000C + g / 4 * 0x40000 + g % 4 * 0x4000
/-- BAR0 offset of LN_ITER. -/
def Reg.LN_ITER (g : Nat) : Nat := 0x110010 + g / 4 * 0x40000 + g % 4 * 0x4000
/-- BAR0 offset of LN_ADAPT. -/
def Reg.LN_ADAPT (g : Nat) : Nat := 0x110014 + g / 4 * 0x40000 + g % 4 * 0x4000
/-- BAR0 offset of LN_SEED0. -/
def Reg.LN_SEED0 (g : Nat) : Nat := 0x110018 + g / 4 * 0x40000 + g % 4 * 0x4000
/-- BAR0 offset of LN_SEED1. -/
def Reg.LN_SEED1 (g : Nat) : Nat := 0x11001C + g / 4 * 0x40000 + g % 4 * 0x4000
/-- BAR0 offset of LN_CUR0. -/
def Reg.LN_CUR0 (g : Nat) : Nat := 0x110020 + g / 4 * 0x40000 + g % 4 * 0x4000
/-- BAR0 offset of LN_CUR1. -/
def Reg.LN_CUR1 (g : Nat) : Nat := 0x110024 + g / 4 * 0x40000 + g % 4 * 0x4000
/-- BAR0 offset of LN_TIMING. -/
def Reg.LN_TIMING (g : Nat) : Nat := 0x110028 + g / 4 * 0x40000 + g % 4 * 0x4000
/-- BAR0 offset of LN_STAT. -/
def Reg.LN_STAT (g : Nat) : Nat := 0x110040 + g / 4 * 0x40000 + g % 4 * 0x4000
/-- BAR0 offset of LN_SYNC_LAST. -/
def Reg.LN_SYNC_LAST (g : Nat) : Nat := 0x110044 + g / 4 * 0x40000 + g % 4 * 0x4000
/-- BAR0 offset of LN_FAIL_LO. -/
def Reg.LN_FAIL_LO (g : Nat) : Nat := 0x110048 + g / 4 * 0x40000 + g % 4 * 0x4000
/-- BAR0 offset of LN_FAIL_HI. -/
def Reg.LN_FAIL_HI (g : Nat) : Nat := 0x11004C + g / 4 * 0x40000 + g % 4 * 0x4000
/-- BAR0 offset of LN_CAP_BASE_LO. -/
def Reg.LN_CAP_BASE_LO (g : Nat) : Nat := 0x110050 + g / 4 * 0x40000 + g % 4 * 0x4000
/-- BAR0 offset of LN_CAP_BASE_HI. -/
def Reg.LN_CAP_BASE_HI (g : Nat) : Nat := 0x110054 + g / 4 * 0x40000 + g % 4 * 0x4000
/-- BAR0 offset of LN_CAP_SLOTS. -/
def Reg.LN_CAP_SLOTS (g : Nat) : Nat := 0x110058 + g / 4 * 0x40000 + g % 4 * 0x4000
/-- BAR0 offset of LN_CAP_FREE. -/
def Reg.LN_CAP_FREE (g : Nat) : Nat := 0x11005C + g / 4 * 0x40000 + g % 4 * 0x4000
/-- BAR0 offset of LN_CAP_RANGE. -/
def Reg.LN_CAP_RANGE (g : Nat) : Nat := 0x110060 + g / 4 * 0x40000 + g % 4 * 0x4000
/-- BAR0 offset of LN_SECT_CNT. -/
def Reg.LN_SECT_CNT (g : Nat) : Nat := 0x1100A0 + g / 4 * 0x40000 + g % 4 * 0x4000
/-- BAR0 offset of LN_ITER_CNT. -/
def Reg.LN_ITER_CNT (g : Nat) : Nat := 0x1100A4 + g / 4 * 0x40000 + g % 4 * 0x4000
/-- BAR0 offset of LN_FAIL_CNT. -/
def Reg.LN_FAIL_CNT (g : Nat) : Nat := 0x1100A8 + g / 4 * 0x40000 + g % 4 * 0x4000
/-- BAR0 offset of LN_TA_CNT. -/
def Reg.LN_TA_CNT (g : Nat) : Nat := 0x1100AC + g / 4 * 0x40000 + g % 4 * 0x4000
/-- BAR0 offset of LN_CASE_CNT. -/
def Reg.LN_CASE_CNT (g i : Nat) : Nat := 0x110080 + g / 4 * 0x40000 + g % 4 * 0x4000 + i * 0x4
/-- BAR0 offset of LN_EQ_TAP. -/
def Reg.LN_EQ_TAP (g i : Nat) : Nat := 0x110100 + g / 4 * 0x40000 + g % 4 * 0x4000 + i * 0x4
/-- BAR0 offset of LN_TARGET. -/
def Reg.LN_TARGET (g i : Nat) : Nat := 0x110180 + g / 4 * 0x40000 + g % 4 * 0x4000 + i * 0x4
/-- BAR0 offset of WP_CTL. -/
def Reg.WP_CTL (a i : Nat) : Nat := 0x120000 + a * 0x40000 + i * 0x100
/-- BAR0 offset of WP_RATE. -/
def Reg.WP_RATE (a i : Nat) : Nat := 0x120004 + a * 0x40000 + i * 0x100
/-- BAR0 offset of WP_PRECOMP. -/
def Reg.WP_PRECOMP (a i : Nat) : Nat := 0x120008 + a * 0x40000 + i * 0x100
/-- BAR0 offset of WP_GATE. -/
def Reg.WP_GATE (a i : Nat) : Nat := 0x12000C + a * 0x40000 + i * 0x100
/-- BAR0 offset of WP_SRC_LO. -/
def Reg.WP_SRC_LO (a i : Nat) : Nat := 0x120010 + a * 0x40000 + i * 0x100
/-- BAR0 offset of WP_SRC_HI. -/
def Reg.WP_SRC_HI (a i : Nat) : Nat := 0x120014 + a * 0x40000 + i * 0x100
/-- BAR0 offset of WP_LOC. -/
def Reg.WP_LOC (a i : Nat) : Nat := 0x120018 + a * 0x40000 + i * 0x100
/-- BAR0 offset of WP_CNT. -/
def Reg.WP_CNT (a i : Nat) : Nat := 0x12001C + a * 0x40000 + i * 0x100
/-- BAR0 offset of WP_DONE. -/
def Reg.WP_DONE (a i : Nat) : Nat := 0x120020 + a * 0x40000 + i * 0x100
/-- BAR0 offset of WP_SECT_CNT. -/
def Reg.WP_SECT_CNT (a i : Nat) : Nat := 0x120024 + a * 0x40000 + i * 0x100
/-- BAR0 offset of WA_GO. -/
def Reg.WA_GO (a : Nat) : Nat := 0x120800 + a * 0x40000
/-- BAR0 offset of WA_CFG. -/
def Reg.WA_CFG (a : Nat) : Nat := 0x120804 + a * 0x40000
/-- BAR0 offset of WA_ASSIST. -/
def Reg.WA_ASSIST (a : Nat) : Nat := 0x120808 + a * 0x40000
/-- BAR0 offset of WA_ASSIST2. -/
def Reg.WA_ASSIST2 (a : Nat) : Nat := 0x12080C + a * 0x40000
/-- BAR0 offset of WA_KILL. -/
def Reg.WA_KILL (a : Nat) : Nat := 0x120810 + a * 0x40000
/-- BAR0 offset of WA_STAT. -/
def Reg.WA_STAT (a : Nat) : Nat := 0x120820 + a * 0x40000
/-- BAR0 offset of WA_INH_LAST. -/
def Reg.WA_INH_LAST (a : Nat) : Nat := 0x120824 + a * 0x40000
/-- BAR0 offset of WA_INH_CNT. -/
def Reg.WA_INH_CNT (a : Nat) : Nat := 0x120828 + a * 0x40000
/-- BAR0 offset of AS_ONTIME_LO. -/
def Reg.AS_ONTIME_LO (a i : Nat) : Nat := 0x121000 + a * 0x40000 + i * 0x10
/-- BAR0 offset of AS_ONTIME_HI. -/
def Reg.AS_ONTIME_HI (a i : Nat) : Nat := 0x121004 + a * 0x40000 + i * 0x10
/-- BAR0 offset of AS_WARM_CNT. -/
def Reg.AS_WARM_CNT (a i : Nat) : Nat := 0x121008 + a * 0x40000 + i * 0x10
/-- BAR0 offset of AS_STATE. -/
def Reg.AS_STATE (a i : Nat) : Nat := 0x12100C + a * 0x40000 + i * 0x10
/-- BAR0 offset of AS_PWR. -/
def Reg.AS_PWR (a i j : Nat) : Nat := 0x124000 + a * 0x40000 + i * 0x80 + j * 0x4
/-- BAR0 offset of FE_CTL. -/
def Reg.FE_CTL (a : Nat) : Nat := 0x130000 + a * 0x40000
/-- BAR0 offset of FE_STAT. -/
def Reg.FE_STAT (a : Nat) : Nat := 0x130004 + a * 0x40000
/-- BAR0 offset of FE_CRC_CNT. -/
def Reg.FE_CRC_CNT (a : Nat) : Nat := 0x130008 + a * 0x40000
/-- BAR0 offset of DEC_CTL. -/
def Reg.DEC_CTL : Nat := 0x200000
/-- BAR0 offset of DEC_JQ_BASE_LO. -/
def Reg.DEC_JQ_BASE_LO : Nat := 0x200008
/-- BAR0 offset of DEC_JQ_BASE_HI. -/
def Reg.DEC_JQ_BASE_HI : Nat := 0x20000C
/-- BAR0 offset of DEC_JQ_SIZE. -/
def Reg.DEC_JQ_SIZE : Nat := 0x200010
/-- BAR0 offset of DEC_JQ_TAIL. -/
def Reg.DEC_JQ_TAIL : Nat := 0x200014
/-- BAR0 offset of DEC_JQ_HEAD. -/
def Reg.DEC_JQ_HEAD : Nat := 0x200018
/-- BAR0 offset of DEC_CQ_BASE_LO. -/
def Reg.DEC_CQ_BASE_LO : Nat := 0x200020
/-- BAR0 offset of DEC_CQ_BASE_HI. -/
def Reg.DEC_CQ_BASE_HI : Nat := 0x200024
/-- BAR0 offset of DEC_CQ_SIZE. -/
def Reg.DEC_CQ_SIZE : Nat := 0x200028
/-- BAR0 offset of DEC_CQ_TAIL. -/
def Reg.DEC_CQ_TAIL : Nat := 0x20002C
/-- BAR0 offset of DEC_CQ_HEAD. -/
def Reg.DEC_CQ_HEAD : Nat := 0x200030
/-- BAR0 offset of DEC_STAT. -/
def Reg.DEC_STAT : Nat := 0x200040
/-- BAR0 offset of DEC_JOB_CNT. -/
def Reg.DEC_JOB_CNT : Nat := 0x200080
/-- BAR0 offset of DEC_OK_CNT. -/
def Reg.DEC_OK_CNT : Nat := 0x200084
/-- BAR0 offset of DEC_FAIL_CNT. -/
def Reg.DEC_FAIL_CNT : Nat := 0x200088
/-- BAR0 offset of DEC_ITER_CNT. -/
def Reg.DEC_ITER_CNT : Nat := 0x20008C
/-- BAR0 offset of DEC_DD_STAT. -/
def Reg.DEC_DD_STAT (i : Nat) : Nat := 0x200050 + i * 0x4
/-- BAR0 offset of WRK_CTL. -/
def Reg.WRK_CTL : Nat := 0x300000
/-- BAR0 offset of WRK_POST. -/
def Reg.WRK_POST : Nat := 0x300004
/-- BAR0 offset of WRK_TRIG. -/
def Reg.WRK_TRIG : Nat := 0x300008
/-- BAR0 offset of WRK_TRIG_TICK. -/
def Reg.WRK_TRIG_TICK : Nat := 0x30000C
/-- BAR0 offset of WRK_STAT. -/
def Reg.WRK_STAT : Nat := 0x300010
/-- BAR0 offset of WRK_RP_CTL. -/
def Reg.WRK_RP_CTL : Nat := 0x300200
/-- BAR0 offset of WRK_RP_SRC_LO. -/
def Reg.WRK_RP_SRC_LO : Nat := 0x300204
/-- BAR0 offset of WRK_RP_SRC_HI. -/
def Reg.WRK_RP_SRC_HI : Nat := 0x300208
/-- BAR0 offset of WRK_RP_CNT. -/
def Reg.WRK_RP_CNT : Nat := 0x30020C
/-- BAR0 offset of WRK_RP_CFG_LO. -/
def Reg.WRK_RP_CFG_LO : Nat := 0x300210
/-- BAR0 offset of WRK_RP_CFG_HI. -/
def Reg.WRK_RP_CFG_HI : Nat := 0x300214
/-- BAR0 offset of WRK_RP_CFGCNT. -/
def Reg.WRK_RP_CFGCNT : Nat := 0x300218
/-- BAR0 offset of WRK_RP_STAT. -/
def Reg.WRK_RP_STAT : Nat := 0x300220
/-- BAR0 offset of WRK_RP_POS. -/
def Reg.WRK_RP_POS : Nat := 0x300224
/-- BAR0 offset of WRK_DROP_CNT. -/
def Reg.WRK_DROP_CNT (i : Nat) : Nat := 0x300020 + i * 0x4
/-- BAR0 offset of WRK_RBASE_LO. -/
def Reg.WRK_RBASE_LO (i : Nat) : Nat := 0x300100 + i * 0x10
/-- BAR0 offset of WRK_RBASE_HI. -/
def Reg.WRK_RBASE_HI (i : Nat) : Nat := 0x300104 + i * 0x10
/-- BAR0 offset of WRK_RSIZE. -/
def Reg.WRK_RSIZE (i : Nat) : Nat := 0x300108 + i * 0x10
/-- BAR0 offset of WRK_RPTR. -/
def Reg.WRK_RPTR (i : Nat) : Nat := 0x30010C + i * 0x10
/-- BAR0 offset of MGT_CTL. -/
def Reg.MGT_CTL : Nat := 0x400000
/-- BAR0 offset of MGT_STAT. -/
def Reg.MGT_STAT : Nat := 0x400004
/-- BAR0 offset of MGT_PID_LO. -/
def Reg.MGT_PID_LO : Nat := 0x400008
/-- BAR0 offset of MGT_PID_HI. -/
def Reg.MGT_PID_HI : Nat := 0x40000C
/-- BAR0 offset of MGT_SLOT. -/
def Reg.MGT_SLOT : Nat := 0x400010
/-- BAR0 offset of MGT_ENCL_STAT. -/
def Reg.MGT_ENCL_STAT : Nat := 0x400014
/-- BAR0 offset of MGT_EN. -/
def Reg.MGT_EN : Nat := 0x400018
/-- BAR0 offset of MGT_RENEW_CNT. -/
def Reg.MGT_RENEW_CNT : Nat := 0x400020
/-- BAR0 offset of MGT_HJ_CNT. -/
def Reg.MGT_HJ_CNT : Nat := 0x400024
/-- BAR0 offset of NVS_CTL. -/
def Reg.NVS_CTL : Nat := 0x410000
/-- BAR0 offset of NVS_PROT. -/
def Reg.NVS_PROT : Nat := 0x410004
/-- BAR0 offset of NVS_CMD. -/
def Reg.NVS_CMD : Nat := 0x410008
/-- BAR0 offset of NVS_ADDR. -/
def Reg.NVS_ADDR : Nat := 0x41000C
/-- BAR0 offset of NVS_DRAM_LO. -/
def Reg.NVS_DRAM_LO : Nat := 0x410010
/-- BAR0 offset of NVS_DRAM_HI. -/
def Reg.NVS_DRAM_HI : Nat := 0x410014
/-- BAR0 offset of NVS_LEN. -/
def Reg.NVS_LEN : Nat := 0x410018
/-- BAR0 offset of NVS_STAT. -/
def Reg.NVS_STAT : Nat := 0x410020
/-- BAR0 offset of NVS_SIZE. -/
def Reg.NVS_SIZE : Nat := 0x410024
/-- BAR0 offset of NVS_PROG_CNT. -/
def Reg.NVS_PROG_CNT : Nat := 0x410030
/-- BAR0 offset of NVS_ERASE_CNT. -/
def Reg.NVS_ERASE_CNT : Nat := 0x410034
/-- BAR0 offset of TIM_US_LO. -/
def Reg.TIM_US_LO : Nat := 0x420000
/-- BAR0 offset of TIM_US_HI. -/
def Reg.TIM_US_HI : Nat := 0x420004
/-- BAR0 offset of TIM_HOST_LO. -/
def Reg.TIM_HOST_LO : Nat := 0x420008
/-- BAR0 offset of TIM_HOST_HI. -/
def Reg.TIM_HOST_HI : Nat := 0x42000C
/-- BAR0 offset of TIM_BASE_LO. -/
def Reg.TIM_BASE_LO : Nat := 0x420010
/-- BAR0 offset of TIM_BASE_HI. -/
def Reg.TIM_BASE_HI : Nat := 0x420014
/-- BAR0 offset of DBG_CORE. -/
def Reg.DBG_CORE : Nat := 0x430000
/-- BAR0 offset of DBG_IDCODE. -/
def Reg.DBG_IDCODE : Nat := 0x430004

end Sys2Proof
end

