-- ==== Sys2Proof/Machine/State.lean ====
section
/-! DEFINITION. The state of the DX6440: plain data, one structure per block. Every register word of BAR0 lives in `State.regs`
under its BAR0 offset; what no register shows lives in `Dyn`. -/

namespace Sys2Proof.Machine

/-- No command stops the machine, so there is no fault (R28: every access completes; 05 to 16: errors are recorded). [DEDUCED, log 9, safe] -/
inductive Fault where
  /-- Raised by nobody: kept so that the type is not empty. Safe. -/
  | none
deriving DecidableEq, Repr

/-- Why a command has no meaning in the model. [DEDUCED, log 9, safe] -/
inductive Refusal where
  /-- Raised by an arm of exec whose command has no meaning yet. Safe: the run stops. -/
  | notModelled (mnemonic : String)
deriving DecidableEq, Repr

/-- A character of the 8b/10b microactuator streams and voice-coil links (R168). -/
inductive LinkChar where
  | k28_5
  | data (b : Byte)
deriving DecidableEq, Repr

/-- What leaves the device, newest first in `State.out`. [DESIGN CHOICE, log 8, safe] [DESIGN CHOICE, log 74, unsafe] [DESIGN CHOICE, log 75, unsafe] -/
inductive Output where
  /-- The value a register read returned to its initiator (R24, R25). -/
  | readData (init : Initiator) (addr : Nat) (value : Nat)
  /-- What a DRAM read returned to its requester: the word's address and data, or none with an error response (R355). -/
  | memData (addr : Nat) (data : Option (List Byte))
  /-- A frame of six characters on an actuator's microactuator stream; between frames the stream carries K28.5 (Tables 6.6, 6.7). -/
  | msFrame (act : Nat) (chars : List LinkChar)
  /-- A frame of six characters on an actuator's voice-coil link (Tables 6.6 and 6.7). -/
  | vcFrame (act : Nat) (chars : List LinkChar)
  /-- An actuator's SRV_TRIG takes a level (R489). -/
  | srvTrig (act : Nat) (high : Bool)
  /-- The gate of an actuator's path rises or falls: `bits` channel bits before the first bit written, or after the last (R123). -/
  | gate (act path : Nat) (high : Bool) (bits : Nat)
  /-- What a path writes between two edges of its gate: each channel bit with the delay of its transition in 1/64 bit (R67, R122). -/
  | written (act path : Nat) (bits : List (Bool × Nat))
  /-- A frame the device sends on a front-end link (R135), byte by byte. -/
  | feFrame (act : Nat) (bytes : List Byte)
  /-- A completion entry written to a link's completion queue, at its host address, on Mornis with the key for rings (R242, R244). -/
  | cqe (link cqid addr : Nat) (key : Option Nat) (bytes : List Byte)
  /-- Data placed in a piece of the data buffer of a command, at its host address, on Mornis with its key (R257, R278). -/
  | hostData (link sqid cid addr : Nat) (key : Option Nat) (bytes : List Byte)
  /-- A read the device makes of host memory: link, address, on Mornis the key, bytes (R256, R257). -/
  | hostRead (link addr : Nat) (key : Option Nat) (n : Nat)
  /-- An MSI-X message of a PCIe function: vector, and the address and data its table entry gives (R248, Table 9.2). -/
  | msix (fn vec addr data : Nat)
  /-- What a read in the doorbell space of a link returns (R246, Table 9.2). -/
  | barData (link off value : Nat)
  /-- Mornis traffic on an Ethernet port, with its VLAN tag if it carries one, its priority, its DSCP and its ECN field (R260, R261). -/
  | eth (port : Nat) (vlan : Option Nat) (prio dscp ecn : Nat) (what : Output)
  /-- A SEND of a Mornis link (Table 9.3). -/
  | send (link : Nat) (bytes : List Byte)
  /-- A datagram from the control port of an Ethernet port to an address and UDP port (Table 9.4). -/
  | datagram (port addr udp : Nat) (bytes : List Byte)
  /-- A congestion notification packet of a link (R262). -/
  | cnp (link : Nat)
  /-- A priority flow control frame: priority, and whether it pauses or releases (R261). -/
  | pfc (port prio : Nat) (pause : Bool)
  /-- An answer to ARP (0), neighbour solicitation (1), ICMP echo (2) or ICMPv6 echo (3) for an address: the MAC address or
  the echoed bytes (Table 9.5). -/
  | answer (port kind addr : Nat) (bytes : List Byte)
  /-- The I3C target answers a CCC or a private transfer: acknowledged or not, and the bytes it returns (R440, R447). -/
  | i3c (ack : Bool) (bytes : List Byte)
  /-- A Hot-Join request (R444). -/
  | hotJoin
  /-- An interrupt to MC0 (R422). -/
  | interrupt
  /-- A motor serial frame as the device sends it (R493). -/
  | motor (bytes : List Byte)
  /-- The buffer memory's pins: the level of MEMc_RESET_N, whether MEMcs_CK runs, whether MEMcs_CS_N is held high (R498). -/
  | memPins (resetN ckRuns csHeld : Bool)
  /-- The option loader's low pulse of 10 µs on XSPI_RST_N (R453, R486). -/
  | norReset
  /-- Bits shifted out of the test access port, first bit first (R476). -/
  | tdo (bits : List Bool)
deriving DecidableEq, Repr

/-- The guarded-write machinery beside SYS_GUARD_STAT (R36-R38): the VALUE recorded in the open sequence, and whether the
owner's last sequence failed with cause 1 and no SYS_GUARD_TGT write has come since. -/
structure Guard where
  val  : Option Word := none
  late : Bool := false
deriving DecidableEq, Repr

/-- SYS (02): the guard, the shadows and stages of R47-R49 by initiator ID (register address, word), and the posted
indirect write in progress (R44: space, offset, value). -/
structure SysD where
  guard  : Guard := {}
  shadow : List (Option (Nat × Word)) := List.replicate 7 none
  stage  : List (Option (Nat × Word)) := List.replicate 7 none
  ind    : Option (Nat × Nat × Word) := none
deriving DecidableEq, Repr

/-- A raised or asserted reset source with the sub-code and initiator RST_CAUSE records (R402, Table 13.7). -/
structure Raise where
  src  : Source
  sub  : Nat
  init : Nat := 0
deriving DecidableEq, Repr

/-- A management core (R406, R408, R410, R479). -/
inductive CoreSt where
  | waiting | running | halted
deriving DecidableEq, Repr

/-- Clocks and reset (13). -/
structure RstD where
  /-- Levels D0-D8 held in reset, bit k for Dk (RST_STAT.HELD shows 1-8). -/
  held     : BitVec 9 := 0x1FF
  /-- Domains of Table 13.2 held through CLK_DOM_OFF, or cleared there and not yet released (R391). -/
  domHeld  : BitVec 101 := 0
  /-- Sources raised whose assertion is the next WARM_ASSERT or HOST_ASSERT. -/
  raised   : List Raise := []
  /-- Sources asserted. -/
  asserted : List Raise := [⟨.por, 1, 0⟩]
  /-- The source whose release sequence is in progress (R397, R402); none once it has completed. -/
  seq      : Option Source := some .por
  /-- The reference is qualified (R385). -/
  refGood  : Bool := false
  pllLock  : Bool := false
  /-- Clock-good of CORE, MGMT, MEM, MEDIA, PERIPH: bits 4 down to 0. -/
  good     : BitVec 5 := 0
  /-- Option loading between the release of D2 and its completion (R399). -/
  optLoad  : Bool := false
  /-- Option loading has completed since D2 was released. -/
  optDone  : Bool := false
  optRam   : List Byte := []
  /-- The NOR's capacity in MiB, as SFDP gave it at the last load (0 none). -/
  norMib   : Nat := 0
  slotId   : BitVec 6 := 0
  refsel   : Bool := false
  bootMode : BitVec 2 := 0
  /-- When the watchdog's count last started from zero, in µs (R404). -/
  wdStart  : Nat := 0
  cores    : List CoreSt := List.replicate 4 .waiting
  /-- The boot ROM is due on MC0 (R406). -/
  bootDue  : Bool := false
  /-- The ROM waits for a UART image (R408). -/
  uartWait : Bool := false
  /-- SSC in use, taken at the release of D1 (R388). -/
  sscUse   : Bool := false
  /-- Stopped by a trip (R423). -/
  beached  : Bool := false
  /-- FAULT_N is asserted, and whether for PLL_FAIL alone (R387, R408, R423). -/
  faultN   : Bool := false
  faultPll : Bool := false
  /-- Registers whose balls are held, with the words their balls hold (R405). -/
  padHeld  : List (Nat × Word) := []
  /-- A HOST source has asserted and D8 has not been released since (HOST_DONE, Table 13.12). -/
  hostSeen : Bool := false
  /-- The debug access port has released MC0 since D4 was released (R408). -/
  dbgGo    : Bool := false
  /-- When firmware last started, in µs (R457). -/
  bootUs   : Nat := 0
  /-- Writes made to the NOR controller's own registers since D2 was last released (R533): offset and word, newest first. -/
  norCtl   : List (Nat × Word) := []
deriving DecidableEq, Repr

/-- Buffer memory (12): how often D3 has been reset (unwritten words differ each time, R368), and the scrubber's next
address and end (R369), and the level of MEMc_RESET_N, which training releases (R498). -/
structure MemD where
  gen    : Nat := 0
  scrub  : Option (Nat × Nat) := none
  resetN : Bool := false
deriving DecidableEq, Repr

/-- A valid cache line: its line number (address / 64), way, whether dirty, its 64 bytes (R371). -/
structure CLine where
  line  : Nat
  way   : Nat
  dirty : Bool
  data  : List Byte
deriving DecidableEq, Repr

/-- A fill in progress: line, way, and the write of the request that missed (offset in the line and bytes) (R373, R378). -/
structure CFill where
  line : Nat
  way  : Nat
  wr   : Option (Nat × List Byte)
  req  : Requester
deriving DecidableEq, Repr

/-- A write stream of the streaming-store detector: requester, next line, lines so far (R374). -/
structure CStream where
  req  : Requester
  next : Nat
  run  : Nat
deriving DecidableEq, Repr

/-- The system cache (12): initialised since D5's release (R381), lines, pseudo-LRU trees by set (15 bits, unlisted 0), fills
in progress, victims not yet accepted by the controller (R377), streams newest first, ways due to be disabled (R380). -/
structure CchD where
  ready   : Bool := false
  lines   : List CLine := []
  trees   : List (Nat × Nat) := []
  filling : List CFill := []
  evict   : List (Nat × List Byte) := []
  streams : List CStream := []
  due     : List Nat := []
  /-- The maintenance operation in progress: OP, first line, lines (R375). -/
  maint   : Option (Nat × Nat × Nat) := none
deriving DecidableEq, Repr

/-- A stripe group in ebb mode (R77-R80): which position pairs with 0 at depth 2, wedges the offset has stayed at or below the
release threshold, revolutions since entry; the track and wedge the rounds of the present span begin at, and the sector in band the
first set of the cycle reached (R79); and the write inhibit of R75. -/
structure EbbG where
  split   : Nat := 1
  dwell   : Nat := 0
  revs    : Nat := 0
  start   : Option (Nat × Nat) := none
  span    : Nat := 0
  tideInh : Bool := false
deriving DecidableEq, Repr

/-- An entry of the Alignment log page (R312, Table 10.10). -/
structure AlignEnt where
  time  : Nat
  nsid  : Nat
  event : Nat
  depth : Nat
  reason : Nat
  group : Nat
  zslba : Nat
  revs  : Nat
deriving DecidableEq, Repr

/-- A ramp entry in progress: offset in the actuator's range, halves, start S, target T (R202). -/
structure RampEnt where
  off    : Nat
  halves : Bool
  start  : Word
  target : Word
deriving DecidableEq, Repr

/-- What the recorder gathers for the loop record of the current tick (R463, Table 16.1). -/
structure LoopAcc where
  live    : Bool := false
  tick    : Nat := 0
  phase   : Nat := 0
  curOk   : Bool := false
  current : Int := 0
  vcmd    : Int := 0
  srv     : Option (List Byte) := none
  prf     : Option Nat := none
  prfFirst : Bool := false
  sense   : List Int := []
  chars   : List Byte := []
  resid   : Int := 0
  cfgN    : Nat := 0
  others  : Nat := 0
deriving DecidableEq, Repr

/-- A Headland engine (06, 07): profile p, v, a in tracks with 24 fraction bits; tide centre c and per-position b in 1/256
track; observer estimate in 1/256 track with 30 fraction bits. -/
structure HlD where
  p : Int := 0
  v : Int := 0
  a : Int := 0
  c : Int := 0
  /-- The group and active set c was last computed for, and c still moves towards its value (R165). -/
  sel : Nat := 15
  slew : Bool := false
  xh : Int := 0
  vh : Int := 0
  /-- Consecutive residuals above T2; decoded samples within T1 while PLAUS inhibits. -/
  t2run : Nat := 0
  relRun : Nat := 0
  plausInh : Bool := false
  missRun : Nat := 0
  curMiss : Nat := 0
  /-- The latest valid CURRENT value, and whether it came since the last CUR token (R171). -/
  current : Int := 0
  curFresh : Bool := false
  /-- SENSE values by slot as received, and as latched by the last PRF token. -/
  sense : List Int := List.replicate 16 0
  senseL : List Int := List.replicate 16 0
  /-- Unclamped set-points of the last 64 wedges by slot (R164), newest first, each with the wedges that have passed since. -/
  reqWin : List (List (Nat × Int)) := List.replicate 16 []
  /-- z - c - p of the last 64 samples by slot (R162), newest first. -/
  zWin : List (List Int) := List.replicate 16 []
  /-- The w of the consecutive decoded wedges by position, at most the last 4 (R174), newest first. -/
  loadW : List (List Int) := List.replicate 4 []
  /-- Consecutive wedges within OFFTRK_Q6 by position (R126, R145); the last wedge was not decoded (SERVO_MISS). -/
  onTrk : List Nat := List.replicate 4 0
  missed : List Bool := List.replicate 4 false
  /-- The sequence number of the next token, and of the one that runs (Tables 6.4 and 6.6). -/
  seqNo : Nat := 0
  tokNo : Nat := 0
  /-- The arm compensator's output and the voice-coil code as the program last put them out (R166). -/
  arm : Int := 0
  vcmd : Int := 0
  /-- An unload has been ordered and no token has run since (R186). -/
  unlNew : Bool := false
  /-- Wedges since a slot's DRIVE code was clamped, up to 64 (MA_LIMIT of Table 3.7). -/
  satAge : List Nat := List.replicate 16 64
  /-- Cycles of this wedge interval (HL_CYC_MAX). -/
  cycles : Nat := 0
  /-- CFG tokens not yet run: offset and value (64 bits for a tide entry) (R155, R157). -/
  queue : List (Nat × Nat) := []
  /-- Writes buffered while COEF_HOLD is 1 (R155). -/
  hold : List (Nat × Nat) := []
  /-- Program memory words written since reset, by index, rising. -/
  pm : List (Nat × Nat) := []
  /-- The microcode is stopped by a failure until EN is written 0 and then 1 (R185). -/
  stopped : Bool := false
  /-- UNLOAD has been sent since the last load (R171). -/
  sentUnload : Bool := false
  /-- Waiting for PARKED: 0 no, 1 frames running, 2 link silent (R185). -/
  park : Nat := 0
  ramp : List RampEnt := []
  rampK : Nat := 0
  rampN : Nat := 0
  ebb : List EbbG := List.replicate 4 {}
  acc : LoopAcc := {}
deriving DecidableEq, Repr

/-- The Wrack recorder and replay (16): what is armed, TICK, records still to write after a trigger, triggers ignored, drops
since arming, DROPPED pending, records written by ring, trigger time and source, snapshots (the words of coefficient and state
memory and latched registers), held capture slots by lane, and the replay's next record. -/
structure WrkD where
  mask    : Nat := 0
  journal : Bool := false
  tick    : List Nat := List.replicate 4 0
  post    : Nat := 0
  lost    : Nat := 0
  drops   : List Nat := List.replicate 4 0
  dropped : List Bool := List.replicate 4 false
  counts  : List Nat := List.replicate 9 0
  trigTime : Nat := 0
  trigSrc : Option Nat := none
  snaps   : List (List (Nat × Word)) := List.replicate 4 []
  held    : List Nat := List.replicate 16 0
  replay  : Option Nat := none
deriving DecidableEq, Repr

/-- A start request in Breakwater's queue, with its class's settings as they stood when it arrived (R431). -/
structure BwReq where
  cls  : Nat
  idx  : Nat
  rail : Nat
  prio : Nat
  cost : Nat
  /-- Hold in 0.1 µs. -/
  hold : Nat
  /-- Arrival in µs. -/
  at_  : Nat
  /-- Raised through BW_SWREQ (R434). -/
  sw   : Bool
  /-- A SPIN that waits for its stagger delay (R435). -/
  stag : Bool
deriving DecidableEq, Repr

/-- Tokens a grant holds: rail, tokens, end of the hold in 0.1 µs (R431). -/
structure BwHold where
  rail : Nat
  cost : Nat
  till : Nat
deriving DecidableEq, Repr

/-- Breakwater (14): starts raised and not granted (R537), the queue in arrival order, holds, grants the requesters have not
used yet, the first SPIN since POR or PIN still to come and its stagger delay passed, D1's release (µs) after that reset. -/
structure PwrD where
  raised  : List (Nat × Nat) := []
  queue   : List BwReq := []
  holds   : List BwHold := []
  granted : List (Nat × Nat) := []
  spin1   : Bool := true
  stagOk  : Bool := false
  d1us    : Option Nat := none
  /-- Power state and the last operational one (R427, R429). -/
  ps      : Nat := 0
  lastOp  : Nat := 0
deriving DecidableEq, Repr

/-- A frame in a lane's decode buffer, or waiting to be captured: arrival number over all lanes, what is read (R97, Table 4.5),
the sync result of Table 4.3 with the accepted positions, iterations spent, and the lane's values at frame end. -/
structure LFrame where
  no     : Nat
  head   : Nat
  band   : Nat
  sector : Nat
  epoch  : Nat
  kind   : Nat
  buf    : Nat
  cas    : Nat
  d      : Int
  distA  : Nat
  distB  : Nat
  posA   : Option Int
  posB   : Option Int
  iter   : Nat
  spans  : List (Nat × Nat)
  wedge  : Option (Nat × Nat)
  start  : Int
  eras   : List (Nat × Nat)
  par    : Bool := false
  rate   : Nat
  skew   : Nat
  freq   : Nat
  cur0   : Word
  cur1   : Word
  taps   : List Nat
  reason : Nat := 0
deriving DecidableEq, Repr

/-- A channel lane (04): a deferred LN_RATE word (R87), the data path ready (R88), the transfer with its next sector, sectors a cut
transfer has left (R16), skew in use (R89), undecided frames oldest first (R95), sectors DRAM has not accepted (R16), the frame
waiting for capture and its slot (R100), the failure FIFO (R102), armed passes captured (R99). -/
structure LaneD where
  rateNew : Option Word := none
  ready   : Bool := false
  xfer    : Option LaneXfer := none
  next    : Nat := 0
  resume  : Option LaneXfer := none
  skew    : Nat := 0
  frames  : List LFrame := []
  outq    : List (Nat × List Byte) := []
  cap     : Option (Nat × LFrame) := none
  fails   : List (Word × Word) := []
  /-- LN_FAIL has held an entry since reset. -/
  seen    : Bool := false
  pass    : Nat := 0
deriving DecidableEq, Repr

/-- The lanes' shared state: frames arrived so far, and the lane whose record the capture writer writes (R101). -/
structure ChanD where
  lanes   : List LaneD := List.replicate 16 {}
  frames  : Nat := 0
  writing : Option Nat := none
deriving DecidableEq, Repr

/-- A start a deep decoder tries, with the reference it comes from (Table 4.7, REF). -/
structure DdStart where
  start : Int
  ref   : Nat
deriving DecidableEq, Repr

/-- What a deep decoder reports: STATUS, HYP, REF, ITERATIONS, CORRECTED, UNSAT, CHECK, and the output to write. -/
structure DdResult where
  status : Nat
  hyp    : Int := 0
  ref    : Nat := 0
  iters  : Nat := 0
  corr   : Nat := 0
  unsat  : Nat := 0
  check  : Nat := 0
  out    : Option (List Byte) := none
deriving DecidableEq, Repr

/-- A deep decoder's job (R106-R114): ring index, descriptor, headers loaded, search due, starts still to try, hypothesis in
progress with its number, ended hypotheses with their unsatisfied checks, the final pass, and its result. -/
structure DdJob where
  index : Nat
  desc  : List Byte
  heads : List (List Byte) := []
  /-- The erasure list, the codeword starts of the records' own references, and the codeword bits set to zero soft input in the
  hypothesis that runs, by the list and by record (R109). -/
  eras  : List (Nat × Nat) := []
  refs  : List Int := []
  zeroed : List (List (Nat × Nat)) := []
  search : Bool := false
  base  : Int := 0
  todo  : List DdStart := []
  cur   : Option DdStart := none
  no    : Nat := 0
  ended : List (DdStart × Nat) := []
  final : Bool := false
  iters : Nat := 0
  result : Option DdResult := none
  /-- The completion ring was found full (R114). -/
  stuck : Bool := false
deriving DecidableEq, Repr

/-- The deep decoders (04): the job of each, and the passes made through the completion ring. -/
structure DecD where
  jobs : List (Option DdJob) := List.replicate 4 none
  pass : Nat := 0
deriving DecidableEq, Repr

/-- A sector on the media: head, band, sector in band, its 4,112 stored bytes (user bytes and metadata, or P or Q), and
whether the frame was cut off (R142, R232). -/
structure MSec where
  head   : Nat
  band   : Nat
  sector : Nat
  info   : List Byte
  cut    : Bool := false
deriving DecidableEq, Repr

/-- A relocation table entry (Table 8.4). -/
structure Reloc where
  head   : Nat
  band   : Nat
  sector : Nat
  spare  : Nat
  state  : Nat
  step   : Nat
  zp     : Bool
deriving DecidableEq, Repr

/-- The saved state of a shingled zone on the reserved tracks (R231): zone, state, epoch, write pointer. -/
structure ZoneSave where
  zone  : Nat
  state : Nat
  epoch : Nat
  wp    : Nat
deriving DecidableEq, Repr

/-- What the media hold, through every reset: sectors, newest first; bands filled with zeros with their epoch (R274); band media
write pointers (R142); saved zones (R231); the relocation table, by head, band and sector, and the two copies of its journal, newest
record first (R228); each band's spare pointer (R223, R224); where each actuator's patrol pass stands (R229). -/
structure MediaD where
  secs  : List MSec := []
  zero  : List (Nat × Nat × Nat) := []
  ptr   : List (Nat × Nat × Nat) := []
  saved : List ZoneSave := []
  table : List Reloc := []
  jrnA  : List (List Byte) := []
  jrnB  : List (List Byte) := []
  spares : List (Nat × Nat × Nat) := []
  patrol : List Nat := List.replicate 4 0
deriving DecidableEq, Repr

/-- A write path (05): next sector, sectors left, next slot's address; a stop after an underrun that waits for its restart
(R144); the driver kept on for one revolution after a transfer (R127); the path belongs to the transfer in progress. -/
structure PathD where
  next    : Nat := 0
  left    : Nat := 0
  src     : Nat := 0
  restart : Bool := false
  idleDrv : Bool := false
  on      : Bool := false
  /-- The gate is high (R123). -/
  wg      : Bool := false
deriving DecidableEq, Repr

/-- The write block and front-end link of an actuator (05): its paths, the transfer's group and retries, an inhibit event that
waits for its rewrite and for its verify (R146), write drivers enabled at the front end, the ID read at link enable, bad
heartbeats in a row (R136), the power codes last sent (R132), FE_FAULT_N asserted. -/
structure WaD where
  paths  : List PathD := List.replicate 4 {}
  group  : Nat := 0
  retry  : Nat := 0
  cut    : Bool := false
  verify : Bool := false
  drv    : Nat := 0
  feId   : Nat := 0
  bad    : Nat := 0
  codes  : List (Option Nat) := List.replicate 16 none
  /-- The group whose heads are selected at the front end (R85). -/
  headSel : Option Nat := none
  faultN : Bool := false
deriving DecidableEq, Repr

/-- A task as Shoal holds it (R324, R330): an identity while in flight, the pool it was taken from, its descriptor (GEN
apart), its generation, reissues so far, and for a SEGMENT its parent's identity and its number (R348). -/
structure STask where
  id   : Nat
  pool : Nat
  desc : List Byte
  gen  : Nat
  re   : Nat := 0
  seg  : Option (Nat × Nat) := none
deriving DecidableEq, Repr

/-- A task an engine runs: its key as copied (R338), the STATUS and RESULT it ends with, segments still to push (R348), and the
segment the engine runs itself in between. -/
structure SRun where
  task : STask
  key  : List Byte := []
  res  : Option (Nat × Nat) := none
  push : List Nat := []
  sub  : Option STask := none
deriving DecidableEq, Repr

/-- A DERIVE that has split (R348, R349): its task, the engine that took it, its recipe, the keys copied by slot, and STATUS and
RESULT of each segment. -/
structure SParent where
  task   : STask
  engine : Nat
  recipe : List Byte
  keys   : List (Nat × List Byte)
  segs   : List (Option (Nat × Nat))
deriving DecidableEq, Repr

/-- An engine (R320-R336): deque head first, its run, its 128 KiB of local memory from address 0 on (none until the engine has written
it whole with zeros and valid check bits, R321; bytes past the list are zero), fenced, reset since it was fenced, the
reissue that waits for its pool's FIFO (R333), asleep, place in the sweep, engine last stolen from (R328), last OPCODE and GEN. -/
structure SEng where
  deque : List STask := []
  run   : Option SRun := none
  mem   : Option (List Byte) := none
  fenced : Bool := false
  reset : Bool := false
  wait  : Option STask := none
  asleep : Bool := false
  sweep : Nat := 0
  last  : Nat := 0
  op    : Nat := 0
  gen   : Nat := 0
deriving DecidableEq, Repr

/-- The engine has not yet written its local memory whole (R321). -/
def SEng.clearing (x : SEng) : Bool := x.mem.isNone

/-- Bytes of an engine's local memory (R320). -/
def SEng.local (x : SEng) (o n : Nat) : List Byte :=
  (((x.mem.getD []).drop o).take n) ++ List.replicate (n - (((x.mem.getD []).drop o).take n).length) 0

/-- A derive source held (R350): namespace, first block, NLB (zero-based), and the data. -/
structure SHold where
  nsid : Nat
  lba  : Nat
  nlb  : Nat
  data : List Byte
deriving DecidableEq, Repr

/-- Shoal (11): engines, pool FIFOs head first, split DERIVEs, identities and generations in flight (R335), the next identity,
key slots (R337), slots bound as media keys with their namespace (R318), the key being written (slot, length, bytes). -/
structure ShlD where
  engs  : List SEng := (List.range 64).map (fun e => { last := e })
  fifos : List (List STask) := List.replicate 8 []
  parents : List SParent := []
  flight : List (Nat × Nat) := []
  next  : Nat := 0
  keys  : List (Nat × List Byte) := []
  bound : List (Nat × Nat) := []
  sel   : Option (Nat × Nat × List Byte) := none
  /-- Derive sources held (R350), the one taken last at the end. -/
  holds : List SHold := []
deriving DecidableEq, Repr

/-- Always-on state (R393, Tables 13.11, 14.13, R459): RST_CAUSE and RST_COUNT, the trip registers, the host timestamp with its
base, SET and SYNCH, the NOR operation the NVS engine has issued and the NOR has not reported done (OP, address), and the
erase suspend SFDP reported. -/
structure AonD where
  cause : Word := 0x10100000
  count : Nat := 0
  tripLatch : Word := 0
  tripNext : Word := 0
  tripStat : Word := 0
  host  : Nat := 0
  base  : Nat := 0
  set   : Bool := false
  synch : Bool := false
  norOp : Option (Nat × Nat) := none
  suspend : Bool := false
  /-- A trip's record is still to be written (R424); the microsecond of the trip and the thermal level before it (Table 14.3). -/
  tripDue : Bool := false
  tripUs  : Nat := 0
  tripLvl : Nat := 0
deriving DecidableEq, Repr

/-- The NVS engine's running command (R451): OP, and the cause it is to fail with; a PROGRAM still waits for its data, as the memory
controller holds its reads (R356). -/
structure NvsD where
  cmd  : Option (Nat × Nat) := none
  wait : Bool := false
deriving DecidableEq, Repr

/-- The I3C target (R440-R447): the index written last, Hot-Join disabled by DISEC, a Hot-Join due, last renewal (µs), maximum
lengths. -/
structure MgtD where
  index : Nat := 0
  hjOff : Bool := false
  hjDue : Bool := false
  renew : Nat := 0
  mwl   : Nat := 16
  mrl   : Nat := 16
deriving DecidableEq, Repr

/-- A thermal sensor's checks (R416): last raw conversion, how often it has repeated, conversions beyond both neighbours. -/
structure ThmS where
  raw : Option Int := none
  rep : Nat := 0
  nbr : Nat := 0
deriving DecidableEq, Repr

/-- The thermal monitor (14): sensors 0 to 29, levels entered (bit 0 WARN, 1 THROTTLE, 2 CRITICAL), when enforcement was last
released (µs), and which of the host's thresholds are crossed, by TMPSEL (R421). -/
structure ThmD where
  sens  : List ThmS := List.replicate 30 {}
  lvl   : Nat := 0
  rel   : Option Nat := none
  above : List Bool := List.replicate 7 false
  below : List Bool := List.replicate 7 false
deriving DecidableEq, Repr

/-- A submission queue of a link (R241, R242): sizes in entries. -/
structure SubQ where
  qid  : Nat
  base : Nat
  size : Nat
  head : Nat := 0
  tail : Nat := 0
  cqid : Nat := 0
  prio : Nat := 0
  closing : Bool := false
deriving DecidableEq, Repr

/-- A completion queue of a link (R244): host's head, next entry, phase tag. -/
structure CplQ where
  qid  : Nat
  base : Nat
  size : Nat
  head : Nat := 0
  tail : Nat := 0
  phase : Bool := true
  ien  : Bool := false
  iv   : Nat := 0
deriving DecidableEq, Repr

/-- Entries written since an interrupt or NOTIFY was last sent, and when the oldest was (R248, R258): keyed by vector on PCIe,
by completion queue on Mornis. -/
structure Coal where
  key   : Nat
  count : Nat
  since : Nat
deriving DecidableEq, Repr

/-- A host link: one NVMe controller (R238-R262). `st` is STATE of HQE_LINK_INFO. -/
structure Link where
  id   : Nat
  pcie : Bool
  st   : Nat
  sqs  : List SubQ := []
  cqs  : List CplQ := []
  /-- Reserved pairs besides the admin pair, and the queues granted (R240). -/
  grant : Nat := 0
  nsqa : Nat := 0
  ncqa : Nat := 0
  numq : Bool := false
  thr  : Nat := 0
  time : Nat := 0
  cd   : List Nat := []
  aec  : Nat := 0
  /-- Events that wait for a request (R247), as Dword 0 values, and event types masked until their page is read (R5). -/
  evts : List Nat := []
  mask : List Nat := []
  changed : List Nat := []
  coal : List Coal := []
  /-- CC.EN has gone from 1 to 0, or a hot reset has come, and the controller reset has yet to run (R303). -/
  resetDue : Bool := false
  port : Nat := 0
  src  : Nat := 0
  /-- The device address its CONNECT arrived on (R250). -/
  dst  : Nat := 0
  udp  : Nat := 0
  nonce : Nat := 0
  accept : List Byte := []
  notify : Bool := false
  rkey : Nat := 0
  pmtu : Nat := 0
  respRes : Nat := 0
  qpn  : Nat := 0
  psn  : Nat := 0
  asq  : Nat := 0
  acq  : Nat := 0
  asqs : Nat := 0
  acqs : Nat := 0
  /-- Send rate in units of 1 / (100 × 2^64) of the port rate (R262), and when a CNP was last sent. -/
  rate : Nat := 100 * 2 ^ 64
  cnpAt : Option Nat := none
  /-- A DISCONNECT has been sent (1) or received (2) and the context is still held (R252). -/
  disc : Nat := 0
deriving DecidableEq, Repr

/-- A completion's status and dwords 0 and 1. -/
structure Cpl where
  sct : Nat := 0
  sc  : Nat := 0
  dw0 : Nat := 0
  dw1 : Nat := 0
deriving DecidableEq, Repr

/-- What a fetched command is doing: nothing yet; a write or append (first block, blocks, append, FUA, data once all of it is
pulled); a read; a derive read with its recipe and OLEN; a zone action on device zones; a Flush with the last commit it covers; an
event request; a namespace being formatted; a feature that waits for the empty write buffer; a firmware activation; a
calibration; the deletion of a submission queue; an Abort that has removed the command with a fetch number; a
namespace deletion that waits for commands in flight. -/
inductive HWork where
  | idle
  | wr (nsid lba n : Nat) (append fua : Bool) (data : Option (List Byte))
  | rd (nsid lba n : Nat) (lr : Bool)
  | drd (nsid lba n : Nat) (recipe : List Byte) (olen : Nat)
  | zact (op : Nat) (zones : List Nat)
  | fl (nsid : Nat) (mark : Nat)
  | aer
  | fmt (nsid : Nat)
  | wce
  | fw (slot : Nat) (stage : Nat)
  | cal
  | delSq (qid : Nat)
  | abt (target : Nat)
  | nsdel (nsid : Nat)
deriving DecidableEq, Repr

/-- A piece of a command's data buffer: host address, on Mornis its key, bytes (R257, R281, R282). -/
structure Piece where
  addr : Nat
  key  : Option Nat
  len  : Nat
deriving DecidableEq, Repr

/-- A command in a slot (R241), in fetch order `no`, with the write commit count when it was fetched. -/
structure HCmd where
  link : Nat
  sqid : Nat
  cid  : Nat
  no   : Nat
  sqe  : List Byte
  mark : Nat
  work : HWork := .idle
  done : Option Cpl := none
  /-- No completion is to be posted (R265). -/
  orphan : Bool := false
  /-- The pieces of its data buffer, once its data pointer has been checked. -/
  dptr : List Piece := []
  /-- The first transfer of a FUA write's data has failed (R290). -/
  retry : Bool := false
deriving DecidableEq, Repr

/-- The host queue engine and transport (09): links, commands in fetch order, round robin positions of the admin, urgent, high,
medium and low classes as (link, QID), turns left in the round, pauses sent by port, priorities paused by port, what waits for a paused
port with its link, oldest first; MSI-X table entries written by 1,024 × function + vector, and the pending ones (Table 9.2). -/
structure HqD where
  links : List Link := []
  cmds  : List HCmd := []
  next  : Nat := 0
  rr    : List (Nat × Nat) := List.replicate 5 (0, 0)
  left  : List Nat := [0, 0, 0]
  pausing : List Bool := [false, false]
  paused : List Nat := [0, 0]
  txq   : List (Nat × Nat × Output) := []
  msix  : List (Nat × List Byte) := []
  pend  : List Nat := []
  /-- A firmware activation has stopped fetching (R305). -/
  hold  : Bool := false
deriving DecidableEq, Repr

/-- A namespace (R271-R277): zones are device zones in order; `st` is 0 while it is formatted, 1 in service, 2 once its deletion
has begun. -/
structure Ns where
  nsid : Nat
  csi  : Nat
  enc  : Bool
  zones : List Nat
  st   : Nat
deriving DecidableEq, Repr

/-- A zone of a zoned namespace (R292-R294): state code of Table 8.4's standard (1 Empty, 2 Implicitly Opened, 3 Explicitly Opened,
4 Closed, 13 Read Only, 14 Full, 15 Offline), write pointer in blocks, order of its last write, a save of it due
(R231). -/
structure Zone where
  zone : Nat
  st   : Nat
  wp   : Nat
  used : Nat
  due  : Bool
deriving DecidableEq, Repr

/-- A block in the write buffer (R284-R290): device zone, block in zone, data, commit number, time (µs), and whether the one further
transfer of R290 is due or running. -/
structure WBlk where
  zone : Nat
  blk  : Nat
  data : List Byte
  no   : Nat
  at_  : Nat
  retry : Bool := false
deriving DecidableEq, Repr

/-- An entry of the Unflushed Loss page (Table 10.5). -/
structure LossEnt where
  zone  : Nat
  nsid  : Nat
  kind  : Nat
  cause : Nat
  zslba : Nat
  first : Nat
  lost  : Nat
  span  : Nat
deriving DecidableEq, Repr

/-- What the namespaces are, on reserved tracks: namespaces, band epochs by zone. -/
structure NsD where
  ns : List Ns := []
  epochs : List (Nat × Nat) := []
deriving DecidableEq, Repr

/-- Zones and the write buffer, rebuilt by a reset that reaches D7: zones, buffer oldest first, commits so far, WCE (R288), the
power state features (R314), zones whose scan is due with the cause of their reset (R232, R306), zones whose scan has ended
with the track reads still due, and the scanned end of each head on which data lay beyond the saved pointer (R235), conventional zones with lost writes whose loss entry is due (R308). -/
structure ZnD where
  zones : List Zone := []
  buf   : List WBlk := []
  commits : Nat := 0
  wce   : Bool := true
  apste : Bool := false
  apst  : List (Nat × Nat) := List.replicate 32 (0, 0)
  /-- Over and under thresholds set by the host, by TMPSEL, in kelvin (R421). -/
  tOver : List (Option Nat) := List.replicate 7 none
  tUnder : List (Option Nat) := List.replicate 7 none
  scan  : List Nat := []
  track : List (Nat × List (Option Nat)) := []
  cause : Nat := 0
deriving DecidableEq, Repr

/-- The records of R307 and R310, through WARM and HOST resets: shingled zones with their write pointer, conventional zones with
count, lowest and highest block in zone; the Unflushed Loss page's entries, entries that wait, latest cause and time. -/
structure LossD where
  shingled : List (Nat × Nat) := []
  conv  : List (Nat × Nat × Nat × Nat) := []
  page  : List LossEnt := []
  wait  : List LossEnt := []
  cause : Nat := 0
  time  : Nat := 0
deriving DecidableEq, Repr

/-- A recovery ladder in progress (R211): sector, origin (Table 8.6), captures of the sector, the last step ended, retries limited (LR),
the line-rate reason and sync case. -/
structure Ladder where
  head : Nat
  band : Nat
  sector : Nat
  origin : Nat
  lr   : Bool
  caps : Nat
  step : Nat
  reason : Nat
  cas  : Nat
deriving DecidableEq, Repr

/-- A recovery event (Table 8.6). -/
structure RecEvt where
  time : Nat
  lba  : Nat
  nsid : Nat
  head : Nat
  step : Nat
  outcome : Nat
  origin : Nat
  band : Nat
  sector : Nat
  reason : Nat
  cas  : Nat
deriving DecidableEq, Repr

/-- Recovery (08): ladders, sectors recovered for a reader, PENDING data held in DRAM (Table 8.4), the
relocations due with the step that recovered it. The counters of Table 8.5 (LINE_FAIL,
REC_S1 to REC_S5, UNRECOVERED, RELOCATED, NO_SPARE, PATROL_PASSES, CUT_BANDS, TRACK_FAIL), events newest first. -/
structure RecD where
  ladders : List Ladder := []
  got   : List MSec := []
  pend  : List MSec := []
  reloc : List (MSec × Nat) := []
  counts : List Nat := List.replicate 12 0
  events : List RecEvt := []
  nEvents : Nat := 0
deriving DecidableEq, Repr

/-- An entry of the Error Information log: count, SQID, CID, status field, LBA, NSID. -/
structure ErrEnt where
  count : Nat
  sqid : Nat
  cid  : Nat
  status : Nat
  lba  : Nat
  nsid : Nat
deriving DecidableEq, Repr

/-- What the SMART page counts over the device's life (R5): 512-byte units read and written, read and write commands, µs with I/O
commands held, power cycles, unsafe shutdowns, µs at the WARN and at the CRITICAL limit; a shutdown has ended and nothing has been
fetched since. -/
structure SmartD where
  rdUnits : Nat := 0
  wrUnits : Nat := 0
  rdCmds  : Nat := 0
  wrCmds  : Nat := 0
  busy    : Nat := 0
  cycles  : Nat := 0
  unclean : Nat := 0
  warm    : Nat := 0
  crit    : Nat := 0
  clean   : Bool := true
deriving DecidableEq, Repr

/-- Logs and firmware (R219, R305, R311): errors newest first and their number, Media and Data Integrity Errors, the downloaded
image as (offset, bytes) newest first, the slot in use, the SMART counts. -/
structure LogD where
  errs  : List ErrEnt := []
  nErr  : Nat := 0
  media : Nat := 0
  image : List (Nat × List Byte) := []
  slot  : Nat := 0
  smart : SmartD := {}
deriving DecidableEq, Repr

/-- One item of a calibration run at one place (R195, R197): item of Table 7.1, stripe group over all actuators (four times the
actuator for KT), recording zone or segment, units of the measurement in progress so far, the first measurement of a pair, pairs
so far, accepted values by position, positions that failed. -/
structure CalMeas where
  item   : Nat
  group  : Nat
  idx    : Nat
  units  : Nat := 0
  first  : Option (List Int) := none
  pairs  : Nat := 0
  acc    : List (Option (List Int)) := []
  failed : List Nat := []
deriving DecidableEq, Repr

/-- A Calibrate run (R316): the command's fetch number, items, compatibility mode, actuators, what has been measured, temperatures
(sum in 1/16 °C, count). -/
structure CalRun where
  no     : Nat
  items  : Nat
  compat : Bool
  acts   : Nat
  meas   : List CalMeas := []
  temp   : Int := 0
  temps  : Nat := 0
deriving DecidableEq, Repr

/-- The test access port (R476-R478): instruction, boundary cells, and what Capture-DR returns of the last debug access. -/
structure TapD where
  ir    : Nat := 2
  cells : List Bool := []
  data  : Word := 0
  stat  : Nat := 0
deriving DecidableEq, Repr

/-- The motor serial port (R493): the command of the frame in progress; MPD_FAULT_N has fallen (R495). -/
structure MpdD where
  cmd : Option Word := none
  low : Bool := false
deriving DecidableEq, Repr

/-- All state that no BAR0 register shows. [DESIGN CHOICE, log 5, safe] [DESIGN CHOICE, log 79, unsafe] -/
structure Dyn where
  sys : SysD := {}
  rst : RstD := {}
  mem : MemD := {}
  cch : CchD := {}
  hl  : List HlD := List.replicate 4 {}
  wrk : WrkD := {}
  pwr : PwrD := {}
  ch  : ChanD := {}
  dec : DecD := {}
  wa  : List WaD := List.replicate 4 {}
  media : MediaD := {}
  shl : ShlD := {}
  /-- The microsecond counter of AON (R458). -/
  us  : Nat := 0
  /-- Heads firmware has excluded (R196). -/
  excluded : List Nat := []
  /-- Actuators kept parked: no calibration set is loaded, or its KT failed (R194, R196). -/
  keepParked : List Nat := [0, 1, 2, 3]
  /-- The Alignment log, newest first, at most 127 entries, and its TOTAL (R312). -/
  align : List AlignEnt := []
  alignTotal : Nat := 0
  aon : AonD := {}
  nvs : NvsD := {}
  mgt : MgtD := {}
  thm : ThmD := {}
  hq  : HqD := {}
  nsp : NsD := {}
  zn  : ZnD := {}
  loss : LossD := {}
  rcv : RecD := {}
  log : LogD := {}
  cal : Option CalRun := none
  tap : TapD := {}
  mpd : MpdD := {}
deriving DecidableEq, Repr

/-- The machine. -/
structure State where
  /-- Register words by BAR0 offset, rising, none equal to its reset word. -/
  regs    : List (Nat × Word) := []
  /-- Buffer memory by byte address, rising, none equal to what an unlisted byte reads as. -/
  dram    : List Host.Cell := []
  /-- Ranges the fill engine has written, newest first: base, bytes, 64-bit pattern (R367). An unlisted byte of `dram` reads
  as the newest range that covers it, and has not been written since D3's reset where none does. -/
  fills   : List (Nat × Nat × Nat) := []
  /-- NOR by byte address, rising, none equal to 0xFF, which unlisted bytes read as. -/
  nor     : List Host.Cell := []
  dyn     : Dyn := {}
  /-- What has left the device, newest first. -/
  out     : List Output := []
  /-- How many free values have been drawn. -/
  free    : Nat := 0
  /-- Commands waiting, first in, first out. -/
  pending : List Instr := []
deriving DecidableEq, Repr

/-- The machine right after reset: PORST_N low, every level held, every register at its reset word. [DESIGN CHOICE, log 3, unsafe] [DESIGN CHOICE, log 79, unsafe] -/
def State.reset : State := {}

end Sys2Proof.Machine
end

