-- ==== Sys2Proof/Machine/Ops.lean ====
section
/-! DEFINITION. The named operations every meaning is built from. A meaning lists primitive effects (`Eff`), which can change
no GD field and no RZ bit (R30); only the guarded write, resets and option loading may use the effects of `PEff`. -/

namespace Sys2Proof.Machine

/-- What exec answers. -/
abbrev Res := Host.Outcome State Fault Refusal

/-! Sparse stores. -/

/-- A register word: the listed one, or the reset word. -/
def regsGet (l : List (Nat × Word)) (a : Nat) : Word :=
  match l.find? (fun p => p.1 == a) with
  | some p => p.2
  | none => resetWord a

/-- Store a register word, keeping the list rising and free of reset words. -/
def regsPut (l : List (Nat × Word)) (a : Nat) (v : Word) : List (Nat × Word) :=
  l.filter (fun p => p.1 < a) ++ (if v = resetWord a then [] else [(a, v)]) ++ l.filter (fun p => a < p.1)

/-- The byte listed at an address. -/
def cellGet (l : List Host.Cell) (a : Nat) : Option Byte :=
  match l.find? (fun p => p.1 == a) with
  | some p => some p.2
  | none => none

/-- Cells for a run of bytes from an address. -/
def cellsOf (a : Nat) : List Byte → List Host.Cell
  | [] => []
  | b :: bs => (a, b) :: cellsOf (a + 1) bs

/-- Store a run of bytes, keeping the list rising; cells equal to what an unlisted address reads as are not listed. -/
def cellsPut (bg : Nat → Option Byte) (l : List Host.Cell) (a : Nat) (bs : List Byte) : List Host.Cell :=
  l.filter (fun p => p.1 < a) ++ (cellsOf a bs).filter (fun p => bg p.1 != some p.2) ++
    l.filter (fun p => a + bs.length ≤ p.1)

/-- What an unlisted NOR byte reads as: erased. [DESIGN CHOICE, log 3, unsafe] -/
def norBg (_ : Nat) : Option Byte := some 0xFF

/-- What an unlisted byte of buffer memory reads as: the newest fill over it (R367). -/
def fillByte (fills : List (Nat × Nat × Nat)) (a : Nat) : Option Byte :=
  match fills.find? (fun r => r.1 ≤ a && a < r.1 + r.2.1) with
  | some r => some (b8 (r.2.2 / 2 ^ (8 * (a % 8))))
  | none => none

/-- Read a register word (no side effect, no view). -/
def State.reg (s : State) (a : Nat) : Word := regsGet s.regs a

/-- A field of a register. -/
def State.fld (s : State) (a hi lo : Nat) : Nat := (s.reg a).fld hi lo

/-- A bit of a register. -/
def State.bit (s : State) (a i : Nat) : Bool := (s.reg a).bit i

/-- A _LO/_HI pair as one number. -/
def State.pair (s : State) (lo : Nat) : Nat := (s.reg lo).toNat + 2 ^ 32 * (s.reg (lo + 4)).toNat

/-- Store a register word as it stands. -/
def State.putReg (s : State) (a : Nat) (v : Word) : State := { s with regs := regsPut s.regs a v }

/-- A NOR byte: erased bytes read 0xFF. -/
def State.norByte (s : State) (a : Nat) : Byte := ((cellGet s.nor a).or (norBg a)).getD 0

/-- A byte of buffer memory; none where nothing has written since D3's reset. -/
def State.dramByte (s : State) (a : Nat) : Option Byte := (cellGet s.dram a).or (fillByte s.fills a)

/-- The `n` NOR bytes from an offset. -/
def State.norBytes (s : State) (a n : Nat) : List Byte := (List.range n).map (fun i => s.norByte (a + i))

/-! Effects. -/

/-- The primitive effects. [DESIGN CHOICE, log 5, safe] [DESIGN CHOICE, log 8, safe] -/
inductive Eff where
  /-- Hardware or a plain write gives a register a value: GD and RZ bits keep theirs. -/
  | reg (a : Nat) (v : Word)
  /-- The same for bits `[hi:lo]` alone. -/
  | fld (a hi lo : Nat) (v : Nat)
  /-- An event of an SQ register: SEQ steps modulo 256 and the status bits given are set (R34). -/
  | sq (a : Nat) (bits : Word)
  /-- A count of CT type in bits `[hi:lo]` rises and saturates (Table 2.3). -/
  | cnt (a hi lo n : Nat)
  /-- Bytes stored in buffer memory. -/
  | dram (a : Nat) (bs : List Byte)
  /-- The fill engine writes a range with a pattern (R367). -/
  | fill (base n pat : Nat)
  /-- A reset of D3 leaves DRAM contents undefined (R368). -/
  | wipe
  /-- Bytes stored in NOR. -/
  | nor (a : Nat) (bs : List Byte)
  /-- Something leaves the device. -/
  | emit (o : Output)
  /-- A change of the state no register shows. -/
  | upd (g : Dyn → Dyn)
  /-- One free value is drawn. -/
  | draw

/-- A store to a register that leaves GD and RZ bits alone (R30). -/
def State.hwReg (s : State) (a : Nat) (v : Word) : State := s.putReg a ((s.reg a).merge (liveMask a) v)

/-- A saturating count (Table 2.3, CT). -/
def ctAdd (w : Word) (hi lo n : Nat) : Word := w.setFld hi lo (min (w.fld hi lo + n) (2 ^ (hi + 1 - lo) - 1))

/-- An SQ register after an event (R34). [DESIGN CHOICE, log 77, unsafe] -/
def sqEvent (w bits : Word) : Word := (w.setFld 31 24 (w.fld 31 24 + 1)) ||| (bits &&& 0x00FFFFFF)

/-- One effect. -/
def applyEff (s : State) : Eff → State
  | .reg a v => s.hwReg a v
  | .fld a hi lo v => s.hwReg a ((s.reg a).setFld hi lo v)
  | .sq a bits => s.hwReg a (sqEvent (s.reg a) bits)
  | .cnt a hi lo n => s.hwReg a (ctAdd (s.reg a) hi lo n)
  | .dram a bs => { s with dram := cellsPut (fillByte s.fills) s.dram a bs }
  | .fill b n p => { s with dram := s.dram.filter (fun c => c.1 < b || b + n ≤ c.1), fills := (b, n, p) :: s.fills }
  | .wipe => { s with dram := [], fills := [] }
  | .nor a bs => { s with nor := cellsPut norBg s.nor a bs }
  | .emit o => { s with out := o :: s.out }
  | .upd g => { s with dyn := g s.dyn }
  | .draw => { s with free := s.free + 1 }

/-- A list of effects, first to last. -/
def applyAll (s : State) : List Eff → State
  | [] => s
  | e :: es => applyAll (applyEff s e) es

/-- Effects that depend on the state they start from. -/
abbrev Act := State → List Eff

/-- No effect. -/
def skip : Act := fun _ => []

/-- Actions one after another, each seeing the state the earlier ones leave. -/
def seqs : List Act → Act
  | [] => fun _ => []
  | a :: as => fun s => a s ++ seqs as (applyAll s (a s))

/-- An action if a condition holds of the state. -/
def whenA (c : State → Bool) (a : Act) : Act := fun s => if c s then a s else []

/-- An action for each element of a list, one after another. -/
def each {α : Type} (l : List α) (g : α → Act) : Act := seqs (l.map g)

/-- The number of each element with the element. -/
def indexed {α : Type} (l : List α) : List (Nat × α) := (List.range l.length).zip l

/-- Change state that no register shows. -/
def upd (g : Dyn → Dyn) : Act := fun _ => [.upd g]

/-- The answer of a command whose effects are unprivileged. -/
def run (a : Act) (s : State) : Res := .next (applyAll s (a s))

/-! Privileged effects: guarded writes, resets and option loading. -/

/-- The effects only the guard, resets and the option loader have. -/
inductive PEff where
  | eff (e : Eff)
  /-- A guarded write lands: the GD bits take the value (R36). -/
  | gd (a : Nat) (v : Word)
  /-- The registers a predicate picks take their reset words, or all but their kept fields do (R32). -/
  | rst (p : Nat → Bool) (keep : Bool)
  /-- The opt fields of the registers a predicate picks take the option block's values (R401). -/
  | opt (p : Nat → Bool)
  /-- A SYS_LOCK bit is cleared by a reset's reach (R40). -/
  | unlock (bits : Word)

/-- Privileged effects that depend on the state. -/
abbrev PAct := State → List PEff

/-- The bits of a register marked "kept". -/
def keptMask (x : Nat) : Word :=
  match regDef x with
  | some d => d.maskOf (fun y => y.kept)
  | none => 0

/-- The bits of a register marked "opt". -/
def optMask (x : Nat) : Word :=
  match regDef x with
  | some d => d.maskOf (fun y => y.opt)
  | none => 0

/-- One listed register through a reset (R32). [DESIGN CHOICE, log 3, unsafe] [DESIGN CHOICE, log 10, unsafe] -/
def rstEntry (p : Nat → Bool) (keep : Bool) (e : Nat × Word) : Option (Nat × Word) :=
  if p e.1 then
    let w := if keep then (resetWord e.1).merge (keptMask e.1) e.2 else resetWord e.1
    if w = resetWord e.1 then none else some (e.1, w)
  else some e

/-- Record `r` of the option block: register offset and value (Table 13.6). -/
def optRecord (ram : List Byte) (r : Nat) : Nat × Word :=
  (leAt ram (16 + 8 * r) 4 % 2 ^ 24 / 4 * 4, w32 (leAt ram (20 + 8 * r) 4))

/-- The register records the option block holds (Table 13.6). -/
def optRecords (ram : List Byte) : List (Nat × Word) :=
  (List.range (min (leAt ram 0 2) 382)).map (optRecord ram)

/-- One record lands in the opt fields of the register it names (R401). [DESIGN CHOICE, log 10, unsafe] -/
def optPut (p : Nat → Bool) (s : State) (r : Nat × Word) : State :=
  if p r.1 then s.putReg r.1 ((s.reg r.1).merge (optMask r.1) r.2) else s

/-- One privileged effect. -/
def applyPEff (s : State) : PEff → State
  | .eff e => applyEff s e
  | .gd a v => s.putReg a ((s.reg a).merge (guardMask a) v)
  | .rst p keep => { s with regs := s.regs.filterMap (rstEntry p keep) }
  | .opt p => (optRecords s.dyn.rst.optRam).foldl (optPut p) s
  | .unlock bits => s.putReg Reg.SYS_LOCK (s.reg Reg.SYS_LOCK &&& ~~~bits)

/-- A list of privileged effects, first to last. -/
def applyAllP (s : State) : List PEff → State
  | [] => s
  | e :: es => applyAllP (applyPEff s e) es

/-- An unprivileged action among privileged ones. -/
def lift (a : Act) : PAct := fun s => (a s).map .eff

/-- Privileged actions one after another. -/
def seqsP : List PAct → PAct
  | [] => fun _ => []
  | a :: as => fun s => a s ++ seqsP as (applyAllP s (a s))

/-- A privileged action if a condition holds. -/
def whenP (c : State → Bool) (a : PAct) : PAct := fun s => if c s then a s else []

/-- The answer of a command whose effects are privileged. -/
def runP (a : PAct) (s : State) : Res := .next (applyAllP s (a s))

/-! Clock domains, levels and access. -/

/-- The clock domain of a BAR0 offset (Table 13.2, R391, R535); 100 stands for the part of SHL that no CLK_DOM_OFF bit
gates. -/
def domOf (x : Nat) : Nat :=
  match blkOf x with
  | (.sys, _) => 0
  | (.rst, o) => if o < 0x1000 then 0 else 1
  | (.thm, _) => 2
  | (.pwr, _) => 3
  | (.mem, _) => 9
  | (.cch, _) => 20
  | (.shl, o) =>
    if 0x80 ≤ o && o < 0xC0 then 25 + (o - 0x80) / 8
    else if 0xC0 ≤ o && o < 0xE0 then 25 + (o - 0xC0) / 4
    else if 0x200 ≤ o && o < 0x300 then 25 + (o - 0x200) / 32
    else 100
  | (.hqe, _) => 33
  | (.net, _) => 33
  | (.pci, _) => 33
  | (.hl a, _) => 34 + a
  | (.lane g, _) => 38 + g
  | (.wr a, _) => 54 + a
  | (.fe a, _) => 54 + a
  | (.dec, _) => 63
  | (.wrk, _) => 8
  | (.mgt, _) => 19
  | (.nvs, _) => 19
  | (.tim, _) => 19
  | (.dbg, _) => 19
  | (.hole, _) => 0

/-- The release level of a domain (Table 13.2). -/
def domLevel (i : Nat) : Nat :=
  if i ≤ 3 then 1
  else if i = 4 then 2
  else if i ≤ 7 then 4
  else if i = 8 then 7
  else if i ≤ 14 then 3
  else if i ≤ 19 then 4
  else if i ≤ 24 then 5
  else if i ≤ 32 then 6
  else if i = 33 then 8
  else if i ≤ 95 then 7
  else if i ≤ 99 then 8
  else 6

/-- Level Dk is released and the device is not beached (R392, R423). -/
def State.levelUp (s : State) (k : Nat) : Bool := !s.dyn.rst.beached && !s.dyn.rst.held.getLsbD k

/-- A domain runs: its level is released and it is not held through CLK_DOM_OFF (R391). -/
def State.up (s : State) (i : Nat) : Bool := s.levelUp (domLevel i) && !s.dyn.rst.domHeld.getLsbD i

/-! Access errors. -/

/-- Bits of SYS_ERR_STAT. -/
inductive AccErr where
  | unmapped | narrow | inReset
deriving DecidableEq, Repr

/-- The bit of an access error (Table 2.14). -/
def AccErr.bits : AccErr → Word
  | .unmapped => 1 | .narrow => 2 | .inReset => 4

/-- Log a register access error: the event, and the first access since the register was wholly clear (Tables 2.14 and
2.15). Nothing is logged while SYS itself is held. -/
def accErr (e : AccErr) (init : Initiator) (addr : Nat) : Act := fun s =>
  if s.up 0 then
    (if s.fld Reg.SYS_ERR_STAT 23 0 = 0 then
      [.reg Reg.SYS_ERR_ADDR (w32 (init.id * 2 ^ 24 + addr % 2 ^ 24))] else []) ++
    [.sq Reg.SYS_ERR_STAT e.bits]
  else []

/-- An offset in the windows of the two PCIe functions' controller properties, whose unlisted words read zero and ignore
writes without an error (R269). -/
def pciWindow (x : Nat) : Bool := 0xB0000 ≤ x && x < 0xB2000

/-- A word offset that a register or a silent window answers. -/
def mapped (x : Nat) : Bool := (regDef x).isSome || pciWindow x

/-- Why an access acts on no register, judged in the order alignment (R529), map (R26), reset (R27), width (R25). [DESIGN CHOICE, log 99, unsafe] -/
def accessError (s : State) (addr size : Nat) (wr : Bool) : Option AccErr :=
  if addr % size ≠ 0 then some .unmapped
  else if !mapped (addr / 4 * 4) then some .unmapped
  else if !s.up (domOf (addr / 4 * 4)) then some .inReset
  else if wr && size < 4 then some .narrow
  else none

/-- The JTAG debug access port is an initiator only while JTAG_DBG is 1 (Table 2.13). -/
def initiatorOk (s : State) (i : Initiator) : Bool := i != .jtag || s.bit Reg.SYS_DBG_EN 0

/-- The register fabric answers once D1 is out of reset. -/
def fabricUp (s : State) : Bool := s.up 0

/-- A 32-bit write to one register: the access rules, then what the write does. -/
def wrAccess (init : Initiator) (a : Nat) (act : Act) : Act := fun s =>
  if !initiatorOk s init then []
  else match accessError s a 4 true with
    | some e => accErr e init a s
    | none => act s

/-- The same for a privileged effect. -/
def wrAccessP (init : Initiator) (a : Nat) (act : PAct) : PAct := fun s =>
  if !initiatorOk s init then []
  else match accessError s a 4 true with
    | some e => (accErr e init a s).map .eff
    | none => act s

/-- A read of a register by an initiator: zero with an access error, else what `val` gives, then what the read does. -/
def rdAccess (init : Initiator) (a size : Nat) (val : State → Nat) (act : Act) : Act := fun s =>
  if !initiatorOk s init then []
  else match accessError s a size false with
    | some e => accErr e init a s ++ [.emit (.readData init a 0)]
    | none => .emit (.readData init a (val s)) :: act s

/-! What a plain write does by field type (Table 2.3). -/

/-- The word an ordinary write of `v` leaves, by field type: RW and CT take the value; RO, WO and RZ keep theirs; SQ status
bits written as 1 clear when SEQ matches (R35); HW loads only while its block is disabled. -/
def wrWord (d : RegDef) (hwOn : Bool) (old v : Word) : Word :=
  let m := d.tyMask .rw ||| d.tyMask .ct ||| (if hwOn then 0 else d.tyMask .hw)
  let w := old.merge m v
  let sqm := d.tyMask .sq &&& 0x00FFFFFF
  if d.tyMask .sq ≠ 0 && v.fld 31 24 = old.fld 31 24 then w &&& ~~~(v &&& sqm) else w

/-- A guarded sequence failed (R38): the event with GUARD_ERR and the cause of Table 2.5. -/
def guardErr (cause : Nat) : Act := fun _ =>
  [.sq Reg.SYS_GUARD_STAT 1, .fld Reg.SYS_GUARD_STAT 10 8 cause]

/-- The HW pointer fields of a register are live while their block is enabled (Table 2.3): the deep decoders' rings while
a decoder is enabled, the recorder's while it is ARMED or TRIGGERED. [DESIGN CHOICE, log 100, unsafe] -/
def hwEnabled (s : State) (a : Nat) : Bool :=
  match (blkOf a).1 with
  | .dec => s.fld Reg.DEC_CTL 3 0 ≠ 0
  | .wrk => s.fld Reg.WRK_TRIG 1 0 == 1 || s.fld Reg.WRK_TRIG 1 0 == 2
  | _ => false

/-- A plain 32-bit write by field type, with no effect but the register's own (R30). A write to a register of GD fields is
ignored and sets GUARD_ERR, cause 7. [DEDUCED, log 76, unsafe] -/
def plainWrite (a : Nat) (v : Word) : Act := fun s =>
  match regDef a with
  | none => []
  | some d => if d.guarded then guardErr 7 s else [.reg a (wrWord d (hwEnabled s a) (s.reg a) v)]

/-! The _LO/_HI pairs (R48). -/

/-- The low word an initiator has staged for a register (R48). -/
def staged (s : State) (init : Initiator) (lo : Nat) : Option Word :=
  match s.dyn.sys.stage.getD init.id none with
  | some (a, w) => if a = lo then some w else none
  | none => none

/-- A commit empties the initiator's write stage (R48). -/
def unstage (init : Initiator) : Eff := .upd (fun d => { d with sys := { d.sys with stage := setAt d.sys.stage init.id none } })

/-- A write of a _HI register: what it does with the staged low word, then the stage is empty where it matched (R48). -/
def hiWrite (init : Initiator) (lo : Nat) (act : Option Word → Act) : Act := fun s =>
  seqs [act (staged s init lo), fun _ => if (staged s init lo).isSome then [unstage init] else []] s

/-- A reset source is raised: its assertion is the next WARM_ASSERT or HOST_ASSERT (R392, R402). -/
def raiseSrc (src : Source) (sub init : Nat) : Act :=
  upd (fun d => { d with rst := { d.rst with raised := d.rst.raised ++ [⟨src, sub, init⟩] } })

/-! Free values. -/

/-- The free value the next draw gives. [DESIGN CHOICE, log 5, safe] -/
def State.fresh (s : State) : Nat := Config.free s.free

/-- The NOR controller's own registers have been written since D2 was last released (R533). [DESIGN CHOICE, log 16, safe] -/
def norAltered (s : State) : Bool := !s.dyn.rst.norCtl.isEmpty

/-- Bytes as the NVS engine and the trip-record writer get them through the NOR controller: as they are, or free while its own
registers have been written (R533). [DESIGN CHOICE, log 16, safe] -/
def norPass (s : State) (bs : List Byte) : List Byte := if norAltered s then leBytes bs.length s.fresh else bs

end Sys2Proof.Machine
end

