-- ==== Sys2Proof/Machine/Events.lean ====
section
/-! DEFINITION. Links, fetched commands, their completion, and asynchronous events (R238-R247, R265). -/

namespace Sys2Proof.Machine

/-- Change the host queue engine's state. -/
def updHq (g : HqD → HqD) : Eff := .upd (fun d => { d with hq := g d.hq })

/-- Change one link. -/
def updLink (l : Nat) (g : Link → Link) : Eff :=
  updHq (fun h => { h with links := h.links.map (fun x => if x.id = l then g x else x) })

/-- Change the command with a fetch number. -/
def updCmd (no : Nat) (g : HCmd → HCmd) : Eff :=
  updHq (fun h => { h with cmds := h.cmds.map (fun c => if c.no = no then g c else c) })

/-- A link that exists. -/
def State.link? (s : State) (l : Nat) : Option Link := s.dyn.hq.links.find? (fun x => x.id == l)

/-- A link the device serves. -/
def linkLive (s : State) (l : Nat) : Bool :=
  match s.link? l with
  | some k => k.st == 2 && !k.resetDue
  | none => false

/-- A link whose completions are still written: live, or closing by DISCONNECT (R252, R265). -/
def linkServes (s : State) (l : Nat) : Bool :=
  linkLive s l || (s.link? l).any (fun k => k.st == 3 && k.disc != 0)

/-- The queue engine's domain runs (D8). -/
def hqUp (s : State) : Bool := s.up 33

/-! Submission entries (R242; NVM Express Base 2.0). -/

/-- Opcode. -/
def HCmd.op (c : HCmd) : Nat := leAt c.sqe 0 1
/-- NSID. -/
def HCmd.nsid (c : HCmd) : Nat := leAt c.sqe 4 4
/-- Command dword k. -/
def HCmd.cdw (c : HCmd) (k : Nat) : Word := w32 (leAt c.sqe (4 * k) 4)
/-- Command dwords 10 and 11 as one number. -/
def HCmd.slba (c : HCmd) : Nat := leAt c.sqe 40 8
/-- NLB, zero-based. -/
def HCmd.nlb (c : HCmd) : Nat := leAt c.sqe 48 2
/-- An admin command. -/
def HCmd.admin (c : HCmd) : Bool := c.sqid == 0

/-- A status of SCT and SC. -/
def status (sct sc : Nat) : Cpl := { sct := sct, sc := sc }

/-- The oldest command of a reference that satisfies a condition. -/
def State.cmdBy (s : State) (r : CmdRef) (p : HCmd → Bool) : Option HCmd :=
  s.dyn.hq.cmds.find? (fun c => c.link == r.link.val && c.sqid == r.sqid.toNat && c.cid == r.cid.toNat && p c)

/-- A slot is freed; a closing link that holds none is freed with its pairs (R241, R254). -/
def freeSlotOf (no : Nat) : Eff := updHq (fun h =>
  let cs := h.cmds.filter (fun c => c.no != no)
  { h with cmds := cs, links := h.links.filter (fun l => l.st != 3 || l.disc != 0 || cs.any (fun c => c.link == l.id)) })

/-- A command ends with a completion, or silently where none is to be posted (R265). -/
def finish (c : HCmd) (r : Cpl) : Act := fun _ =>
  if c.orphan then [freeSlotOf c.no] else [updCmd c.no (fun x => { x with done := some r })]

/-- Work on a write whose data the device holds. -/
def HWork.hasData : HWork → Bool
  | .wr _ _ _ _ _ (some _) => true
  | _ => false

/-- A zone action that waits for its zones. -/
def HWork.isZact : HWork → Bool
  | .zact _ _ => true
  | _ => false

/-- A deletion of namespaces that has begun. -/
def HWork.isNsdel : HWork → Bool
  | .nsdel _ => true
  | _ => false

/-- A fetched command that is to start now: of the given kind of queue and opcode, not held (R305), its controller not in
reset. -/
def withCmd (r : CmdRef) (admin : Bool) (op : Nat) (k : HCmd → Act) : Act := fun s =>
  match s.cmdBy r (fun c => c.done.isNone && c.work == .idle && !c.orphan) with
  | some c => if hqUp s && c.admin == admin && c.op == op && linkLive s c.link && !s.dyn.hq.hold then k c s else []
  | none => []

/-- Dword 0 of an event. -/
def eventDw (ty info lid : Nat) : Nat := ty + info * 256 + lid * 65536

/-- Types the standard masks from an event until its page is read: error, SMART, notice (R5). [DEDUCED, log 39, unsafe] -/
def masks (ty : Nat) : Bool := ty < 3

/-- The oldest Asynchronous Event Request outstanding on a link. -/
def aerOf (s : State) (l : Nat) : Option HCmd :=
  s.dyn.hq.cmds.find? (fun c => c.link == l && c.work == .aer && c.done.isNone && !c.orphan)

/-- Raise an event on a link: it completes an outstanding request, or waits (R247). [DEDUCED, log 39, unsafe] -/
def raiseEvent (l dw : Nat) (waits : Bool) : Act := fun s =>
  match s.link? l with
  | none => []
  | some k =>
    match aerOf s l with
    | some c =>
      if k.mask.contains (dw % 8) then (if waits then [updLink l (fun x => { x with evts := x.evts ++ [dw] })] else [])
      else finish c { dw0 := dw } s ++
        (if masks (dw % 8) then [updLink l (fun x => { x with mask := dw % 8 :: x.mask })] else [])
    | none => if waits then [updLink l (fun x => { x with evts := x.evts ++ [dw] })] else []

/-- Raise an event on every link, or on those a condition picks. -/
def raiseAll (p : Link → Bool) (dw : Nat) (waits : Bool) : Act := fun s =>
  each ((s.dyn.hq.links.filter p).map (fun l => l.id)) (fun l => raiseEvent l dw waits) s

/-- A new request takes the first waiting event whose type is not masked (R247). -/
def takeWaiting (l : Nat) : Act := fun s =>
  match s.link? l with
  | none => []
  | some k =>
    match k.evts.find? (fun d => !k.mask.contains (d % 8)), aerOf s l with
    | some d, some _ => seqs [fun _ => [updLink l (fun x => { x with evts := x.evts.erase d })], raiseEvent l d true] s
    | _, _ => []

/-- The link's events selected by FID 0x0B: SMART temperature warnings, namespace attributes, firmware activation (R313). [DEDUCED, log 39, unsafe] -/
def aecBit (i : Nat) (l : Link) : Bool := l.aec.testBit i

/-- An event of the SMART / Health type, information 0x01, on every link with a request outstanding (R418, R421). [DEDUCED, log 39, unsafe] -/
def raiseHeat : Act := raiseAll (aecBit 1) (eventDw 1 1 2) false

/-- While the Unflushed Loss page holds entries, every link with a request outstanding gets the event (R308, R310). [DEDUCED, log 39, unsafe] -/
def raiseLoss : Act := fun s =>
  if s.dyn.loss.page.isEmpty then [] else raiseAll (fun _ => true) (eventDw 7 0xC2 0xC2) false s

end Sys2Proof.Machine
end

