-- ==== Sys2Proof/Machine/Datapath.lean ====
section
/-! DEFINITION. The Headland datapath (R152): signed 32-bit operands, a signed 64-bit accumulator, every operation saturating. The
program's choice of operations is unknown (Config.micro); what each operation does is here. -/

namespace Sys2Proof.Machine

/-- Saturation to a signed number of n bits. -/
def satTo (n : Nat) (x : Int) : Int := clampI (-(2 ^ (n - 1))) (2 ^ (n - 1) - 1) x

/-- Division by 2^n, rounded to nearest with ties away from zero (R152). -/
def roundShift (n : Nat) (x : Int) : Int := if n = 0 then x else divTZ (x + (if x < 0 then -(2 ^ (n - 1)) else 2 ^ (n - 1))) (2 ^ n)

/-- The datapath in a run: operand registers, accumulator, the flags raised, the outputs clamped (16 is the voice coil), the codes
put out and the state words stored. -/
structure Dp where
  regs   : List Int := List.replicate 16 0
  acc    : Int := 0
  satAcc : Bool := false
  satInt : Bool := false
  satOut : List Nat := []
  vcmd   : Option Int := none
  arm    : Option Int := none
  drives : List (Nat × Int) := []
  words  : List (Nat × Word) := []
deriving DecidableEq, Repr

/-- An operand register. -/
def Dp.get (d : Dp) (i : Fin 16) : Int := d.regs.getD i.val 0

/-- An operand register takes a value, saturated to 32 bits. -/
def Dp.put (d : Dp) (i : Fin 16) (x : Int) : Dp := { d with regs := d.regs.set i.val (satTo 32 x) }

/-- One slot's code: a later code of a run replaces an earlier one, since a run sends one frame per slot (R172). -/
def drivePut (l : List (Nat × Int)) (slot : Nat) (v : Int) : List (Nat × Int) :=
  l.filter (fun p => p.1 ≠ slot) ++ [(slot, v)]

/-- One operation (R152): `vcLim` and `maLim` are VC_LIM and MA_LIM. -/
def Dp.step (vcLim maLim : Int) (d : Dp) : DpOp → Dp
  | .lit r v => d.put r (sgn 32 v.toNat)
  | .add r a b => d.put r (d.get a + d.get b)
  | .sub r a b => d.put r (d.get a - d.get b)
  | .clear => { d with acc := 0 }
  | .mac a b =>
    let x := d.acc + d.get a * d.get b
    { d with acc := satTo 64 x, satAcc := d.satAcc || satTo 64 x != x }
  | .store r n =>
    let x := roundShift n.val d.acc
    { d.put r x with satAcc := d.satAcc || satTo 32 x != x }
  | .integ r a limit =>
    let lim := ((d.get limit).natAbs : Int)
    let x := d.get r + d.get a
    { d.put r (clampI (-lim) lim x) with satInt := d.satInt || clampI (-lim) lim x != x }
  | .save i a => { d with words := d.words ++ [(i.toNat, w32 (enc 32 (d.get a)))] }
  | .outVc a =>
    let x := clampI (-vcLim) vcLim (d.get a)
    { d with vcmd := some x, satOut := if x = d.get a then d.satOut else 16 :: d.satOut }
  | .outArm a => { d with arm := some (d.get a) }
  | .outMa slot a =>
    let x := clampI (-maLim) maLim (d.get a)
    { d with drives := drivePut d.drives slot.val x, satOut := if x = d.get a then d.satOut else slot.val :: d.satOut }

/-- A run from operand registers and an accumulator of 0. -/
def dpRun (vcLim maLim : Int) (ops : List DpOp) : Dp := ops.foldl (Dp.step vcLim maLim) {}

/-- A program as the token runs use it: what a run executes, the displacements it models, and, where the fetch of some operation
meets an uncorrectable word, how many operations run before it (R153). -/
structure Prog where
  micro : MicroIn → MicroOut
  mdl   : MicroIn → Int
  ecc   : Option Nat

/-- The program in the engine's program memory. -/
def theProg (ecc : Option Nat) : Prog := { micro := Config.micro, mdl := Config.mdl, ecc := ecc }

/-- The operations of a run that are executed. -/
def Prog.ops (p : Prog) (i : MicroIn) : List DpOp :=
  match p.ecc with
  | some n => (p.micro i).ops.take n
  | none => (p.micro i).ops

end Sys2Proof.Machine
end

