-- ==== Sys2Proof/Machine/Ecc.lean ====
section
/-! DEFINITION. The code of the buffer memory (R358, R359, R362): GF(2^16) with polynomial 0x1100B and α = 2, four
Reed-Solomon quarters of ten 4-bit lane groups. -/

namespace Sys2Proof.Machine

/-- Multiply by α. -/
def gfMulX (v : Nat) : Nat := if 0x8000 ≤ v then Nat.xor (2 * v) 0x1100B else 2 * v

/-- Divide by α. -/
def gfDivX (v : Nat) : Nat := if v % 2 = 1 then Nat.xor v 0x1100B / 2 else v / 2

/-- Multiply by α^n. -/
def gfShl : Nat → Nat → Nat
  | 0, v => v
  | n + 1, v => gfShl n (gfMulX v)

/-- Divide by α^n. -/
def gfShr : Nat → Nat → Nat
  | 0, v => v
  | n + 1, v => gfShr n (gfDivX v)

/-- The nibble of lane group `g` on a beat of a stored word (64 data bytes, 16 check bytes) (R358, points 1 and 2). -/
def laneNibble (w : List Byte) (g beat : Nat) : Nat :=
  let b := (if g < 8 then w.getD (4 * beat + g / 2) 0 else w.getD (64 + beat) 0).toNat
  if g % 2 = 0 then b % 16 else b / 16

/-- The symbol of lane group `g` in quarter `q` (R358, point 3). -/
def eccSymbol (w : List Byte) (q g : Nat) : Nat :=
  (List.range 4).foldl (fun a k => a + laneNibble w g (4 * q + k) * 2 ^ (4 * k)) 0

/-- The syndrome of a quarter at α^k: Horner over lane groups 0 to 9, the coefficients of x^9 down to x^0. -/
def eccSyndrome (w : List Byte) (q k : Nat) : Nat :=
  (List.range 10).foldl (fun a g => Nat.xor (gfShl k a) (eccSymbol w q g)) 0

/-- What one quarter shows. -/
inductive Quarter where
  | clean
  /-- A single-symbol error: lane group and error value. -/
  | single (g e : Nat)
  | multi
deriving DecidableEq, Repr

/-- Decode one quarter (R359). -/
def eccQuarter (w : List Byte) (q : Nat) : Quarter :=
  let s1 := eccSyndrome w q 1
  let s2 := eccSyndrome w q 2
  if s1 = 0 && s2 = 0 then .clean
  else if s1 = 0 then .multi
  else match (List.range 10).find? (fun g => gfShl (9 - g) s1 == s2) with
    | some g => .single g (gfShr (9 - g) s1)
    | none => .multi

/-- The result of decoding a word. -/
inductive Ecc where
  | ok (data : List Byte)
  /-- Corrected data, the lane group and the quarters in error. -/
  | corr (data : List Byte) (lane qmask : Nat)
  /-- Uncorrectable, with the lane groups held in error (R362). -/
  | bad (lanes : Nat)
deriving DecidableEq, Repr

/-- Correct the data bytes of one lane group in one quarter by an error value. -/
def eccFix (data : List Byte) (q g e : Nat) : List Byte :=
  if g < 8 then
    (List.range 4).foldl (fun d k =>
      modAt d (4 * (4 * q + k) + g / 2)
        (fun b => b ^^^ b8 (e / 2 ^ (4 * k) % 16 * (if g % 2 = 0 then 1 else 16)))) data
  else data

/-- Decode a stored 80-byte word (R359, R362). [DEDUCED, log 63, unsafe] -/
def eccDecode (w : List Byte) : Ecc :=
  let qs := (List.range 4).map (eccQuarter w)
  let qi := (List.range 4).zip qs
  let data := w.take 64
  let groups := qs.filterMap (fun q => match q with | .single g _ => some g | _ => none)
  let anyMulti := qs.any (fun q => q == .multi)
  let qmask := qi.foldl (fun m p => if p.2 == .clean then m else m + 2 ^ p.1) 0
  if qmask = 0 then .ok data
  else if !anyMulti && groups.all (fun g => some g == groups.head?) then
    .corr (qi.foldl (fun d p => match p.2 with | .single g e => eccFix d p.1 g e | _ => d) data)
      (groups.headD 0) qmask
  else .bad (if anyMulti then 0x3FF else groups.foldl (fun m g => Nat.lor m (2 ^ g)) 0)

/-- XOR two byte strings over the first one's length; missing bytes of the second count as zero. -/
def xorBytes (a b : List Byte) : List Byte := (List.range a.length).map (fun i => a.getD i 0 ^^^ b.getD i 0)

/-- Whether the 64-byte word holding an address has been written since D3's reset (R363). -/
def wordWritten (s : State) (a : Nat) : Bool := (s.dramByte (a / 64 * 64)).isSome

/-- The 64 data bytes of a written word. -/
def wordData (s : State) (a : Nat) : List Byte :=
  (List.range 64).map (fun i => (s.dramByte (a / 64 * 64 + i)).getD 0)

/-- A read of the word at an address with the given 80 bits-in-bytes of error on the way (R358-R363). A written word's stored
check bytes are those of its data and the code is linear, so decoding the error alone gives the change to the data. -/
def readWord (s : State) (a : Nat) (flip : List Byte) : Ecc :=
  if wordWritten s a then
    match eccDecode (fit 80 flip) with
    | .ok d => .ok (xorBytes (wordData s a) d)
    | .corr d g q => .corr (xorBytes (wordData s a) d) g q
    | .bad l => .bad l
  else eccDecode (xorBytes (fit 80 (Config.dramPattern s.dyn.mem.gen (a / 64))) flip)

end Sys2Proof.Machine
end

