-- ==== Sys2Proof/Machine/Mem.lean ====
section
/-! DEFINITION. Buffer memory: training, reads and writes of words, the error table, fill engine and scrubber (R352-R370,
R382). -/

namespace Sys2Proof.Machine

/-- Change the memory controller's own state. -/
def updMem (g : MemD → MemD) : Act := upd (fun d => { d with mem := g d.mem })

/-- The capacity in GiB of a MEM_CFG word, if Table 12.1 lists the combination. -/
def memGiB (cfg : Word) : Option Nat :=
  match cfg.fld 5 4, cfg.fld 3 3, cfg.fld 2 2 with
  | 2, 0, 0 => some 8
  | 2, 0, 1 => some 16
  | 2, _, _ => none
  | 0, 0, 0 => some 32
  | 0, 0, 1 => some 64
  | 0, 1, 0 => some 64
  | 0, _, _ => none
  | _, 0, 0 => some 16
  | _, 0, 1 => some 32
  | _, 1, 0 => some 32
  | _, _, _ => some 64

/-- Column, bank, rank and row widths of a MEM_CFG word (Table 12.1). -/
def memColBits (cfg : Word) : Nat := if cfg.fld 5 4 = 0 then 7 else 6
/-- Bank bits (Table 12.1). -/
def memBankBits (cfg : Word) : Nat := (if cfg.fld 5 4 = 2 then 3 else 4) + (if cfg.fld 5 4 = 2 then 0 else cfg.fld 3 3)
/-- Rank bits (Table 12.1). -/
def memRankBits (cfg : Word) : Nat := cfg.fld 2 2

/-- The MEM_CE_CNT index of an address: ((channel × 2 + subchannel) × 2 + rank) × 32 + bank (R353, Table 12.4). -/
def memBankIdx (cfg : Word) (a : Nat) : Nat :=
  let ch := a / 64 % 2
  let sub := a / 128 % 2
  let b0 := 8 + memColBits cfg
  let bank := a / 2 ^ b0 % 2 ^ memBankBits cfg
  let rank := a / 2 ^ (b0 + memBankBits cfg) % 2 ^ memRankBits cfg
  ((ch * 2 + sub) * 2 + rank) * 32 + bank

/-- The first address beyond capacity (MEM_SIZE). -/
def memEnd (s : State) : Nat := s.fld Reg.MEM_SIZE 6 0 * 2 ^ 30

/-- The controller serves requests: D3 is out of reset and every subchannel has passed training (R356). -/
def memReady (s : State) : Bool := s.up 9 && s.fld Reg.MEM_TRAIN_STAT 7 4 == 0xF

/-- Record a request beyond capacity (R355). -/
def memAddrErr (a : Nat) : Act := fun s =>
  (if s.bit Reg.MEM_STAT 1 then [] else
    [.reg Reg.MEM_AERR_LO (w32 (a / 64 * 64)), .reg Reg.MEM_AERR_HI (w32 (a / 2 ^ 32 % 16))]) ++
  [.sq Reg.MEM_STAT 2]

/-- The error-table entry that holds a word's address (R361). -/
def ceEntry (s : State) (a : Nat) : Option Nat :=
  (List.range 32).find? (fun e => s.bit Reg.MEM_CE_VALID e &&
    s.fld (Reg.MEM_CE_ADDR_LO e) 31 6 == a / 64 % 2 ^ 26 && s.fld (Reg.MEM_CE_ADDR_HI e) 3 0 == a / 2 ^ 32)

/-- Count and log a correctable error (R360, R361). [DESIGN CHOICE, log 131, unsafe] -/
def memCe (a lane qmask src : Nat) : Act := fun s =>
  let info (e rep : Nat) : List Eff :=
    [.reg (Reg.MEM_CE_INFO e) ((((0 : Word).setFld 31 24 rep).setFld 23 20 lane).setFld 19 16 qmask |>.setFld 10 8 src)]
  [.cnt (Reg.MEM_CE_CNT (memBankIdx (s.reg Reg.MEM_CFG) a)) 31 0 1] ++
  (match ceEntry s a with
    | some e => info e (min 255 (s.fld (Reg.MEM_CE_INFO e) 31 24 + 1)) ++ [.sq Reg.MEM_STAT 1]
    | none =>
      match (List.range 32).find? (fun e => !s.bit Reg.MEM_CE_VALID e) with
      | some e =>
        [.reg (Reg.MEM_CE_ADDR_LO e) (w32 a), .reg (Reg.MEM_CE_ADDR_HI e) (w32 (a / 2 ^ 32)),
         .fld Reg.MEM_CE_VALID e e 1] ++ info e 1 ++ [.sq Reg.MEM_STAT 1]
      | none => [.cnt Reg.MEM_CE_OVF_CNT 31 0 1, .sq Reg.MEM_STAT 5])

/-- Record an uncorrectable word and raise WARM with sub-code 3 (R362). -/
def memUe (a lanes src : Nat) : Act := seqs [
  fun _ => [.reg Reg.MEM_UE_LO (w32 a),
    .reg Reg.MEM_UE_HI (((w32 (a / 2 ^ 32 % 16)).setFld 18 16 src).setFld 29 20 lanes |>.setBit 31 true)],
  raiseSrc .warm 3 0]

/-- The data a decoded word delivers; nothing where it is uncorrectable (R359, R362). -/
def Ecc.data : Ecc → Option (List Byte)
  | .ok d => some d
  | .corr d _ _ => some d
  | .bad _ => none

/-- What reading a word records by its class (R360-R362). -/
def eccLog (a src : Nat) : Ecc → Act
  | .ok _ => skip
  | .corr _ g q => memCe a g q src
  | .bad l => memUe a l src

/-- Replace part of a word. -/
def patch (w : List Byte) (o : Nat) (bs : List Byte) : List Byte := w.take o ++ bs ++ w.drop (o + bs.length)

/-- Write bytes inside one word: whole words without reading (R365), smaller ones as a read-modify-write (R366). -/
def memPut (a : Nat) (bs : List Byte) (flip : List Byte) (src : Nat) : Act := fun s =>
  if memEnd s ≤ a then memAddrErr a s
  else if bs.length = 64 && a % 64 = 0 then [.dram a bs]
  else
    let e := readWord s a flip
    match e.data with
    | some d => seqs [eccLog (a / 64 * 64) src e, fun _ => [.dram (a / 64 * 64) (patch d (a % 64) bs)]] s
    | none => eccLog (a / 64 * 64) src e s

/-- Cut a run of bytes at word boundaries. -/
def wordChunks : Nat → Nat → List Byte → List (Nat × List Byte)
  | 0, _, _ => []
  | n + 1, a, bs =>
    if bs.isEmpty then []
    else (a, bs.take (64 - a % 64)) :: wordChunks n (a / 64 * 64 + 64) (bs.drop (64 - a % 64))

/-- Whether all words of a range lie below MEM_SIZE. -/
def memFits (s : State) (a n : Nat) : Bool := a + n ≤ memEnd s

/-! The commands. -/

/-- MEMcs_CK runs, and MEMcs_CS_N is free, while no reset holds D3 (R498). [DESIGN CHOICE, log 128, safe] -/
def memClocked (s : State) : Bool := s.levelUp 3

/-- Training releases MEMc_RESET_N (R498). [DESIGN CHOICE, log 128, safe] -/
def memRstRelease : Act := fun s =>
  if s.dyn.mem.resetN then []
  else [.upd (fun d => { d with mem := { d.mem with resetN := true } }), .emit (.memPins true (memClocked s) (!memClocked s))]

/-- A write of MEM_TRAIN (R356, R498): RETRAIN_MS takes its value; GO trains unless BUSY is 1. -/
def hMemTrain (data : Word) : Act :=
  seqs [plainWrite Reg.MEM_TRAIN data, fun s =>
    if !data.bit 0 || s.bit Reg.MEM_TRAIN_STAT 31 then []
    else match memGiB (s.reg Reg.MEM_CFG) with
      | none => [.reg Reg.MEM_TRAIN_STAT 0xF, .sq Reg.MEM_STAT 8]
      | some _ => .reg Reg.MEM_TRAIN_STAT 0x80000000 :: memRstRelease s]

/-- MEM_TRAIN_GO (R356). [DEDUCED, log 12, unsafe] -/
def execMemTrainGo (init : Initiator) (data : Word) (s : State) : Res :=
  run (wrAccess init Reg.MEM_TRAIN (hMemTrain (data ||| 1))) s

/-- Training ends with the subchannels that passed (R356). -/
def trainEnd (pass : BitVec 4) : Act := fun s =>
  .reg Reg.MEM_TRAIN_STAT (w32 (pass.toNat * 16 + (15 - pass.toNat))) ::
    (if pass = 0xF then [.reg Reg.MEM_SIZE (w32 ((memGiB (s.reg Reg.MEM_CFG)).getD 0))]
      else [.sq Reg.MEM_STAT 8])

/-- MEM_TRAIN_DONE (R356). -/
def execMemTrainDone (pass : BitVec 4) (s : State) : Res :=
  run (fun s => if s.up 9 && s.bit Reg.MEM_TRAIN_STAT 31 then trainEnd pass s else []) s

/-- DQS_RETRACK (R357): the subchannel stalls for at most 2 µs; no state changes. -/
def execDqsRetrack (_sub : Fin 4) (s : State) : Res := run skip s

/-- MEMORY_READ (R359-R362): the controller reads the word at an address for a class and classifies it. -/
def execMemoryRead (cls : Fin 4) (addr : BitVec 36) (flip : List Byte) (s : State) : Res :=
  run (fun s =>
    let a := addr.toNat / 64 * 64
    if !memReady s then []
    else if memEnd s ≤ a then seqs [memAddrErr a, fun _ => [.emit (.memData a none)]] s
    else
      let e := readWord s a flip
      seqs [eccLog a cls.val e, fun _ => match e.data with
        | some d => [.emit (.memData a (some d))]
        | none => []] s) s

/-- MEMORY_WRITE (R365): a whole aligned word. -/
def execMemoryWrite (addr : BitVec 36) (data : List Byte) (s : State) : Res :=
  run (fun s => if memReady s then memPut (addr.toNat / 64 * 64) (fit 64 data) [] 4 s else []) s

/-- PARTIAL_WRITE (R366): bytes inside one word as a read-modify-write. -/
def execPartialWrite (addr : BitVec 36) (data flip : List Byte) (s : State) : Res :=
  run (fun s =>
    let bs := data.take (min 63 (64 - addr.toNat % 64))
    if memReady s && !bs.isEmpty then memPut addr.toNat bs flip 4 s else []) s

/-- A write of MEM_CE_FREE frees the entries written as 1 (R361). -/
def hMemCeFree (data : Word) : Act := fun s => [.reg Reg.MEM_CE_VALID (s.reg Reg.MEM_CE_VALID &&& ~~~data)]

/-- MEM_CE_FREE_WRITE (R361). -/
def execMemCeFreeWrite (init : Initiator) (data : Word) (s : State) : Res :=
  run (wrAccess init Reg.MEM_CE_FREE (hMemCeFree data)) s

/-- The fill engine's and scrubber's domain runs (Table 13.2, index 14). -/
def rasUp (s : State) : Bool := memReady s && s.up 14

/-- A write of MEM_FILL_CTL: GO starts unless BUSY is 1 (R367). -/
def hMemFill (data : Word) : Act := fun s =>
  if data.bit 0 && !s.bit Reg.MEM_FILL_CTL 1 then [.fld Reg.MEM_FILL_CTL 1 1 1] else []

/-- MEM_FILL_GO (R367). -/
def execMemFillGo (init : Initiator) (data : Word) (s : State) : Res :=
  run (wrAccess init Reg.MEM_FILL_CTL (hMemFill (data ||| 1))) s

/-- MEM_FILL_DONE (R367): every word of the range holds the pattern, lines it hits are dropped, FILL_DONE is set. Words at or
above MEM_SIZE are not written (R355). [DESIGN CHOICE, log 131, unsafe] -/
def execMemFillDone (s : State) : Res :=
  run (fun s =>
    if rasUp s && s.bit Reg.MEM_FILL_CTL 1 then
      let b := s.pair Reg.MEM_FILL_BASE_LO
      let n := s.pair Reg.MEM_FILL_LEN_LO
      let m := min (b + n) (memEnd s) - b
      seqs [fun _ => if m = 0 then [] else [.fill b m (s.pair Reg.MEM_FILL_PAT_LO)],
        (if m < n then memAddrErr (b + m) else skip),
        fun _ => [.upd (fun d => { d with cch := { d.cch with
            lines := d.cch.lines.filter (fun c => c.line * 64 < b || b + n ≤ c.line * 64),
            evict := d.cch.evict.filter (fun e => e.1 * 64 < b || b + n ≤ e.1 * 64) } }),
          .fld Reg.MEM_FILL_CTL 1 1 0, .sq Reg.MEM_STAT 16]] s
    else []) s

/-- The scrub pass ends (R369). -/
def scrubEnd : Act := fun _ =>
  [.upd (fun d => { d with mem := { d.mem with scrub := none } }), .fld Reg.MEM_SCRUB_CTL 1 1 0, .sq Reg.MEM_STAT 32]

/-- A write of MEM_SCRUB_CTL (R369): RATE_MBS takes its value; GO starts a pass unless one runs. [DESIGN CHOICE, log 131, unsafe] -/
def hMemScrub (data : Word) : Act :=
  seqs [plainWrite Reg.MEM_SCRUB_CTL data, fun s =>
    if data.bit 0 && !s.bit Reg.MEM_SCRUB_CTL 1 then
      let b := s.pair Reg.MEM_SCRUB_BASE_LO
      let n := s.pair Reg.MEM_SCRUB_LEN_LO
      seqs [fun _ => [.fld Reg.MEM_SCRUB_CTL 1 1 1, .reg Reg.MEM_SCRUB_WORDS_LO 0, .reg Reg.MEM_SCRUB_WORDS_HI 0,
          .reg Reg.MEM_SCRUB_CE 0, .reg Reg.MEM_SCRUB_FIRST_LO 0, .reg Reg.MEM_SCRUB_FIRST_HI 0,
          .reg Reg.MEM_SCRUB_LAST_LO 0, .reg Reg.MEM_SCRUB_LAST_HI 0,
          .upd (fun d => { d with mem := { d.mem with scrub := some (b, b + n) } })],
        if n = 0 then scrubEnd else skip] s
    else []]

/-- MEM_SCRUB_GO (R369). -/
def execMemScrubGo (init : Initiator) (data : Word) (s : State) : Res :=
  run (wrAccess init Reg.MEM_SCRUB_CTL (hMemScrub (data ||| 1))) s

/-- SCRUB_STEP (R369): the next word is read, counted, and written back when it was corrected. [DESIGN CHOICE, log 131, unsafe] -/
def execScrubStep (flip : List Byte) (s : State) : Res :=
  run (fun s =>
    match s.dyn.mem.scrub with
    | none => []
    | some (a, e) =>
      if !rasUp s then []
      else
        let w := s.pair Reg.MEM_SCRUB_WORDS_LO + 1
        let c := readWord s a flip
        seqs [fun s => (if memEnd s ≤ a then [] else [.reg Reg.MEM_SCRUB_WORDS_LO (w32 w), .reg Reg.MEM_SCRUB_WORDS_HI (w32 (w / 2 ^ 32))]) ++
            [.upd (fun d => { d with mem := { d.mem with scrub := some (a + 64, e) } })],
          (if memEnd s ≤ a then memAddrErr a else eccLog a 5 c),
          (fun s => match c with
            | .corr d _ _ =>
              if memEnd s ≤ a then [] else
              (if s.reg Reg.MEM_SCRUB_CE = 0 then
                [.reg Reg.MEM_SCRUB_FIRST_LO (w32 a), .reg Reg.MEM_SCRUB_FIRST_HI (w32 (a / 2 ^ 32))]
                else []) ++
              [.dram a d, .reg Reg.MEM_SCRUB_CE (s.reg Reg.MEM_SCRUB_CE + 1),
               .reg Reg.MEM_SCRUB_LAST_LO (w32 a), .reg Reg.MEM_SCRUB_LAST_HI (w32 (a / 2 ^ 32))]
            | _ => []),
          if e ≤ a + 64 then scrubEnd else skip] s) s

end Sys2Proof.Machine
end

