-- ==== Sys2Proof/Machine/Cache.lean ====
section
/-! DEFINITION. The system cache: lookup, victims, streaming stores, maintenance, errors and way disable (R371-R381, R383). -/

namespace Sys2Proof.Machine

/-- Change the cache's state. -/
def updCch (g : CchD → CchD) : Eff := .upd (fun d => { d with cch := g d.cch })

/-- The set of a line (R371). -/
def setOf (line : Nat) : Nat := line % 16384

/-- The clock domain that serves a line's set: index bits [19:18] (Table 13.2). -/
def setDom (line : Nat) : Nat := 21 + line / 4096 % 4

/-- The pseudo-LRU tree of a set: node n (1-15) is bit n - 1; bit 0 points to the lower half. -/
def treeOf (c : CchD) (set : Nat) : Nat :=
  match c.trees.find? (fun p => p.1 == set) with
  | some p => p.2
  | none => 0

/-- Store a set's tree, listed in rising order of set and only where it is not zero. -/
def treePut (c : CchD) (set v : Nat) : CchD :=
  { c with trees := c.trees.filter (fun p => p.1 < set) ++ (if v = 0 then [] else [(set, v)]) ++
      c.trees.filter (fun p => set < p.1) }

/-- The ways below node `n` at a height: those whose top bits spell the path to it. -/
def nodeWays (n h : Nat) : List Nat := (List.range (2 ^ h)).map (fun i => (n * 2 ^ h + i) - 16)

/-- Follow the tree from a node to a way; a half with no enabled way is left for the other (R373). -/
def treeVictim (tree : Nat) (enabled : Nat → Bool) : Nat → Nat → Nat
  | 0, n => n - 16
  | h + 1, n =>
    let b := if tree.testBit (n - 1) then 1 else 0
    let n' := 2 * n + b
    if (nodeWays n' h).any enabled then treeVictim tree enabled h n' else treeVictim tree enabled h (2 * n + 1 - b)

/-- Point every node on the path to a way away from it (R373). -/
def treeTouch (tree way : Nat) : Nat :=
  (List.range 4).foldl (fun t k =>
    let n := (16 + way) / 2 ^ (4 - k)
    let b := (16 + way) / 2 ^ (3 - k) % 2
    if b = 0 then Nat.lor t (2 ^ (n - 1)) else Nat.lor t (2 ^ (n - 1)) - 2 ^ (n - 1)) tree

/-- Touch a way of a set. -/
def touch (c : CchD) (line way : Nat) : CchD := treePut c (setOf line) (treeTouch (treeOf c (setOf line)) way)

/-- The line's entry, if valid. -/
def cacheLine (s : State) (line : Nat) : Option CLine := s.dyn.cch.lines.find? (fun c => c.line == line)

/-- A way takes part in choosing victims (R380). -/
def wayOn (s : State) (w : Nat) : Bool := w < 16 && !s.bit Reg.CCH_WAY_DIS w

/-- The way a fill takes (R373): the lowest invalid enabled way, else the tree's choice. A way a fill is on its way to counts
as taken. -/
def victimWay (s : State) (line : Nat) : Nat :=
  let set := setOf line
  let used := (s.dyn.cch.lines.filter (fun c => setOf c.line == set)).map (·.way) ++
    (s.dyn.cch.filling.filter (fun c => setOf c.line == set)).map (·.way)
  let busy := (s.dyn.cch.filling.filter (fun c => setOf c.line == set)).map (·.way)
  match (List.range 16).find? (fun w => wayOn s w && !used.contains w) with
  | some w => w
  | none => treeVictim (treeOf s.dyn.cch set) (fun w => wayOn s w && !busy.contains w) 4 1

/-- Requesters whose requests may allocate (Table 12.5): the cores' always, those of the HQE, Shoal and deep decoders by
kind. -/
def mayAllocate (r : Requester) (kind : Bool) : Bool :=
  match r with
  | .mc0 => true | .mc1 => true | .mc2 => true | .mc3 => true
  | .hqe => kind | .shoal => kind | .dd => kind
  | .media => false | .fill => false

/-- Lines a stream runs before its writes stop allocating (Table 12.9). -/
def streamLines (s : State) : Nat := max 1 (s.fld Reg.CCH_CTL 6 1)

/-- The stream a whole-line write continues: the same requester, the next line, in the same 4 KiB page (R374). -/
def streamHit (s : State) (r : Requester) (line : Nat) : Option CStream :=
  s.dyn.cch.streams.find? (fun t => t.req == r && t.next == line && line % 64 != 0)

/-- A whole-line write does not allocate because its stream has run long enough (R374). -/
def streamStops (s : State) (r : Requester) (line : Nat) : Bool :=
  s.bit Reg.CCH_CTL 0 && (match streamHit s r line with
    | some t => streamLines s ≤ t.run
    | none => false)

/-- The detector sees a whole-line write (R374). -/
def streamNote (c : CchD) (r : Requester) (line : Nat) : CchD :=
  match c.streams.find? (fun t => t.req == r && t.next == line && line % 64 != 0) with
  | some t => { c with streams := ⟨r, line + 1, t.run + 1⟩ :: (c.streams.filter (fun u => u != t)) }
  | none => { c with streams := (⟨r, line + 1, 1⟩ :: c.streams).take 32 }

/-- A way's error counter rises; reaching WAY_THR makes the way due to be disabled, or sets WAY_LIMIT (R379, R380). -/
def wayCount (w : Nat) : Act := fun s =>
  let n := (s.reg (Reg.CCH_WAY_ERR_CNT w)).toNat
  let thr := max 1 (s.fld Reg.CCH_WAY_CFG 7 0)
  let offs := (bitsOf 16 (s.reg Reg.CCH_WAY_DIS).toNat).length + s.dyn.cch.due.length
  [.cnt (Reg.CCH_WAY_ERR_CNT w) 31 0 1] ++
  (if n < thr && thr ≤ n + 1 && wayOn s w && !s.dyn.cch.due.contains w then
    (if 8 ≤ offs then [.sq Reg.CCH_STAT 8] else [updCch (fun c => { c with due := c.due ++ [w] })])
   else [])

/-- The class a requester's reads travel in (R15, R101, R107); the cores' is not stated. [DESIGN CHOICE, log 93, safe] -/
def reqClass (r : Requester) (free : Nat) : Nat :=
  match r with
  | .hqe => 1 | .shoal => 2 | .dd => 2 | .media => 0 | .fill => 3
  | .mc0 => free % 4 | .mc1 => free % 4 | .mc2 => free % 4 | .mc3 => free % 4

/-- What a read for a requester records by its class (R360-R362). -/
def reqLog (a : Nat) (r : Requester) (e : Ecc) : Act := fun s =>
  match e with
  | .ok _ => []
  | _ => seqs [fun _ => [.draw], eccLog a (reqClass r s.fresh) e] s

/-- Serve a request from memory (R372): a read delivers the word, a write reaches the controller. -/
def passBy (r : Requester) (addr : Nat) (wr : Option (List Byte)) : Act :=
  match wr with
  | none => fun s =>
    if memEnd s ≤ addr then seqs [memAddrErr (addr / 64 * 64), fun _ => [.emit (.memData (addr / 64 * 64) none)]] s
    else
      let e := readWord s addr []
      seqs [reqLog (addr / 64 * 64) r e, fun _ => match e.data with
        | some d => [.emit (.memData (addr / 64 * 64) (some d))]
        | none => []] s
  | some bs => memPut addr bs [] 4

/-- A line leaves a way: dirty data waits for the controller (R377). -/
def evictWay (line way : Nat) : Act := fun s =>
  match s.dyn.cch.lines.find? (fun c => setOf c.line == setOf line && c.way == way) with
  | none => []
  | some v =>
    (if v.dirty then [.cnt Reg.CCH_WB_CNT 31 0 1, updCch (fun c => { c with evict := c.evict ++ [(v.line, v.data)] })] else []) ++
    [updCch (fun c => { c with lines := c.lines.filter (fun x => x.line != v.line) })]

/-- An allocating miss starts a fill (R373). -/
def startFill (r : Requester) (line : Nat) (wr : Option (Nat × List Byte)) : Act := fun s =>
  let w := victimWay s line
  seqs [fun _ => [.cnt Reg.CCH_MISS_CNT 31 0 1], evictWay line w,
    fun _ => [updCch (fun c => { c with filling := c.filling ++ [⟨line, w, wr, r⟩] })]] s

/-- A hit is served (R371, R372): a whole-line non-allocating write drops the line and goes to memory. -/
def serveHit (l : CLine) (addr : Nat) (alloc : Bool) (wr : Option (List Byte)) : Act :=
  match wr with
  | none => fun _ => [.cnt Reg.CCH_HIT_CNT 31 0 1, updCch (fun c => touch c l.line l.way),
      .emit (.memData (l.line * 64) (some l.data))]
  | some bs =>
    if !alloc && addr % 64 = 0 && bs.length = 64 then
      seqs [fun _ => [.cnt Reg.CCH_HIT_CNT 31 0 1,
        updCch (fun c => { c with lines := c.lines.filter (fun x => x.line != l.line) })], memPut addr bs [] 4]
    else fun _ => [.cnt Reg.CCH_HIT_CNT 31 0 1, updCch (fun c => touch { c with lines := c.lines.map (fun x =>
      if x.line = l.line then { x with dirty := true, data := patch x.data (addr % 64) bs } else x) } l.line l.way)]

/-- A miss is served (R372, R374). -/
def serveMiss (r : Requester) (line addr : Nat) (alloc : Bool) (wr : Option (List Byte)) : Act :=
  if alloc then startFill r line (wr.map (fun bs => (addr % 64, bs)))
  else seqs [fun _ => [.cnt Reg.CCH_NOALLOC_CNT 31 0 1], passBy r addr wr]

/-- A request at the cache, with the error its lookup meets (R371-R374, R379). -/
def cacheAccess (r : Requester) (addr : Nat) (alloc : Bool) (wr : Option (List Byte)) (err : CacheErr) : Act := fun s =>
  let line := addr / 64
  let whole := match wr with | some bs => addr % 64 = 0 && bs.length = 64 | none => false
  let al := alloc && !(whole && streamStops s r line)
  seqs [
    (match cacheLine s line, err with
      | _, .tagDouble => raiseSrc .warm 4 0
      | none, _ => serveMiss r line addr al wr
      | some l, .none => serveHit l addr al wr
      | some l, .single => seqs [wayCount l.way, serveHit l addr al wr]
      | some l, .dataDouble =>
        if l.dirty then raiseSrc .warm 4 0
        else seqs [wayCount l.way, fun _ => [.sq Reg.CCH_STAT 2,
            updCch (fun c => { c with lines := c.lines.filter (fun x => x.line != l.line) })], passBy r addr wr]),
    fun _ => if whole then [updCch (fun c => streamNote c r line)] else []] s

/-- The controller accepts the oldest victim (R377). -/
def takeVictim : Act := fun s =>
  match s.dyn.cch.evict with
  | [] => []
  | (l, d) :: rest => seqs [memPut (l * 64) d [] 4, fun _ => [updCch (fun c => { c with evict := rest })]] s

/-- A line becomes valid in a way (R373). -/
def install (line way : Nat) (dirty : Bool) (data : List Byte) : Eff :=
  updCch (fun c => touch { c with lines := c.lines ++ [⟨line, way, dirty, data⟩] } line way)

/-- The fill of a line ends (R378): the line is valid, with the write that missed merged into it; a write of the whole line needs nothing
from memory. A read that missed gets its data. [DESIGN CHOICE, log 129, safe] -/
def fillDone (line : Nat) : Act := fun s =>
  match s.dyn.cch.filling.find? (fun f => f.line == line) with
  | none => []
  | some f =>
    let drop : Eff := updCch (fun c => { c with filling := c.filling.filter (fun x => x.line != line) })
    if memEnd s ≤ line * 64 then seqs [memAddrErr (line * 64), fun _ => [drop, .emit (.memData (line * 64) none)]] s
    else
      let e := readWord s (line * 64) []
      match f.wr, e.data with
      | some (0, bs), none =>
        if bs.length = 64 then [drop, install line f.way true bs] else seqs [reqLog (line * 64) f.req e, fun _ => [drop]] s
      | some (_, _), none => seqs [reqLog (line * 64) f.req e, fun _ => [drop]] s
      | some (o, bs), some d =>
        seqs [if bs.length = 64 then skip else reqLog (line * 64) f.req e, fun _ => [drop, install line f.way true (patch d o bs)]] s
      | none, none => seqs [reqLog (line * 64) f.req e, fun _ => [drop]] s
      | none, some d => seqs [reqLog (line * 64) f.req e, fun _ => [drop, install line f.way false d, .emit (.memData (line * 64) (some d))]] s

/-- Write back the dirty lines a predicate picks: memory takes them, each counted. -/
def writeBack (p : CLine → Bool) : Act := fun s =>
  each (s.dyn.cch.lines.filter (fun c => p c && c.dirty)) (fun c =>
    seqs [fun _ => [.cnt Reg.CCH_WB_CNT 31 0 1], memPut (c.line * 64) c.data [] 4]) s

/-- A way is written back, emptied and taken out of service (R380). -/
def wayOff (way : Nat) : Act := seqs [writeBack (fun c => c.way == way),
  fun _ => [updCch (fun c => { c with lines := c.lines.filter (fun l => l.way != way), due := c.due.filter (fun w => w != way) }),
    .fld Reg.CCH_WAY_DIS way way 1, .sq Reg.CCH_STAT 4]]

/-- CACHE_REQUEST (R371): a request of at most the rest of its line. It waits (no effect) while the cache initialises (R381),
while its line is filling (R378) or leaving (R377), or while its way is being disabled (R380). -/
def execCacheRequest (req : Requester) (addr : BitVec 36) (alloc : Bool) (wr : Option (List Byte)) (err : CacheErr)
    (s : State) : Res :=
  run (fun s =>
    let line := addr.toNat / 64
    let wr' := wr.map (fun bs => bs.take (64 - addr.toNat % 64))
    let waits := s.dyn.cch.filling.any (fun f => f.line == line) || s.dyn.cch.evict.any (fun e => e.1 == line) ||
      (match cacheLine s line with | some l => s.dyn.cch.due.contains l.way | none => false)
    if !memReady s || !s.up 20 || !s.up (setDom line) || !s.dyn.cch.ready || waits then []
    else cacheAccess req addr.toNat (mayAllocate req alloc) wr' err s) s

/-- CACHE_FILL_COMPLETE (R378): the filled line becomes valid, with the write that missed merged into it. -/
def execCacheFillComplete (addr : BitVec 36) (s : State) : Res :=
  run (fun s =>
    let line := addr.toNat / 64
    if !memReady s || s.dyn.cch.evict.any (fun e => e.1 == line) then [] else fillDone line s) s

/-- CACHE_WRITEBACK_ACCEPT (R377): the controller accepts the oldest victim. -/
def execCacheWritebackAccept (s : State) : Res := run (fun s => if memReady s then takeVictim s else []) s

/-- A write of CCH_MAINT_CTL (R375): LINES and OP take their values; GO starts OP unless BUSY is 1; OP 0, 6 and 7 abort. -/
def hCchMaint (data : Word) : Act := fun s =>
  if s.bit Reg.CCH_MAINT_CTL 31 then plainWrite Reg.CCH_MAINT_CTL data s
  else seqs [plainWrite Reg.CCH_MAINT_CTL data, fun _ =>
    if !data.bit 0 then []
    else if data.fld 3 1 = 0 || 6 ≤ data.fld 3 1 then [.sq Reg.CCH_STAT 16]
    else [.fld Reg.CCH_MAINT_CTL 31 31 1, updCch (fun c => { c with
        maint := some (data.fld 3 1, s.pair Reg.CCH_MAINT_ADDR_LO / 64, max 1 (data.fld 23 4)) })]] s

/-- A write of CCH_MAINT_CTL with GO set and an operation of Table 12.6. -/
def maintGo (init : Initiator) (op : Nat) (data : Word) (s : State) : Res :=
  run (wrAccess init Reg.CCH_MAINT_CTL (hCchMaint ((data.setFld 3 1 op) ||| 1))) s

/-- CACHE_CLEAN (R375, OP 1). -/
def execCacheClean (init : Initiator) (data : Word) (s : State) : Res := maintGo init 1 data s
/-- CACHE_INVALIDATE (R375, OP 2). -/
def execCacheInvalidate (init : Initiator) (data : Word) (s : State) : Res := maintGo init 2 data s
/-- CACHE_CLEAN_INVALIDATE (R375, OP 3). -/
def execCacheCleanInvalidate (init : Initiator) (data : Word) (s : State) : Res := maintGo init 3 data s
/-- CACHE_CLEAN_ALL (R375, OP 4). -/
def execCacheCleanAll (init : Initiator) (data : Word) (s : State) : Res := maintGo init 4 data s
/-- CACHE_CLEAN_INVALIDATE_ALL (R375, OP 5). -/
def execCacheCleanInvalidateAll (init : Initiator) (data : Word) (s : State) : Res := maintGo init 5 data s
/-- CACHE_MAINT_INVALID_OP (Table 12.6, OP 0, 6, 7): ABORT is set. The data's OP counts where it is 6 or 7, else 0. -/
def execCacheMaintInvalidOp (init : Initiator) (data : Word) (s : State) : Res :=
  maintGo init (if 6 ≤ data.fld 3 1 then data.fld 3 1 else 0) data s

/-- Whether a line lies in the reach of the maintenance operation in progress (R375). -/
def maintHits (s : State) (line : Nat) : Bool :=
  match s.dyn.cch.maint with
  | some (op, first, n) => 4 ≤ op || (first ≤ line && line < first + n)
  | none => false

/-- MAINT_DONE (R375, R376): the operation has acted on every line in its reach. It waits while one of them is filling. -/
def execMaintDone (s : State) : Res :=
  run (fun s =>
    let op := (s.dyn.cch.maint.getD (0, 0, 0)).1
    let hit := fun (c : CLine) => maintHits s c.line
    if !s.up 20 || !memReady s || !s.bit Reg.CCH_MAINT_CTL 31 || s.dyn.cch.filling.any (fun f => maintHits s f.line) then []
    else seqs [
      (if op = 2 then skip else writeBack hit),
      fun _ => [updCch (fun c => { c with maint := none, lines := (
          if op = 1 || op = 4 then c.lines.map (fun l => if hit l then { l with dirty := false } else l)
          else c.lines.filter (fun l => !hit l)) }),
        .fld Reg.CCH_MAINT_CTL 31 31 0, .sq Reg.CCH_STAT 1]] s) s

/-- CACHE_WAY_DISABLE (R380): a way whose counter reached WAY_THR is written back, emptied and taken out of service. -/
def execCacheWayDisable (way : Fin 16) (s : State) : Res :=
  run (fun s =>
    if !s.up 20 || !memReady s || !s.dyn.cch.due.contains way.val || s.dyn.cch.filling.any (fun f => f.way == way.val) then []
    else wayOff way.val s) s

/-! Requests of the device's own requesters, each line in its turn at the cache. -/

/-- The cache serves requests (R381). [DESIGN CHOICE, log 129, safe] -/
def reqReady (s : State) : Bool := memReady s && s.up 20 && s.dyn.cch.ready && (List.range 4).all (fun k => s.up (21 + k))

/-- What the data of a line are to the next request that reaches it (R377, R378, R380): the cached line; else memory's word with a victim
on its way out written over it, and a write that waits for its fill merged in. -/
def reqWord (s : State) (a : Nat) : Option (List Byte) :=
  if memEnd s ≤ a then none
  else match cacheLine s (a / 64) with
    | some c => some c.data
    | none =>
      let base := match s.dyn.cch.evict.find? (fun e => e.1 == a / 64) with
        | some e => some e.2
        | none => (readWord s a []).data
      match (s.dyn.cch.filling.find? (fun f => f.line == a / 64)).bind (fun f => f.wr) with
      | some (o, bs) => if bs.length = 64 then some bs else base.map (fun d => patch d o bs)
      | none => base

/-- Bytes as a requester reads them; none where a word gives no data. [DESIGN CHOICE, log 66, unsafe] -/
def reqRead (s : State) (a n : Nat) : Option (List Byte) :=
  if n = 0 then some []
  else
    let ws := (List.range ((a % 64 + n + 63) / 64)).map (fun i => reqWord s (a / 64 * 64 + 64 * i))
    if ws.all Option.isSome then some (slice (ws.flatMap (fun w => w.getD [])) (a % 64) n) else none

/-- What a request waits for comes to its end first: the writeback of its line (R377), its fill (R378), the disable of its way (R380), for
which fills into the way end. [DESIGN CHOICE, log 129, safe] -/
def settleLine (line : Nat) : Act :=
  let free (l : Nat) : Act := fun s =>
    seqs (List.replicate (match s.dyn.cch.evict.findIdx? (fun e => e.1 == l) with
      | some k => k + 1
      | none => 0) takeVictim) s
  seqs [free line, fillDone line, fun s =>
    match cacheLine s line with
    | some l => if s.dyn.cch.due.contains l.way then
        seqs [each (s.dyn.cch.filling.filter (fun f => f.way == l.way)) (fun f => seqs [free f.line, fillDone f.line]), wayOff l.way] s
      else []
    | none => []]

/-- A line that missed takes a way (R373). -/
def allocate (line : Nat) (dirty : Bool) (data : List Byte) : Act := fun s =>
  let w := victimWay s line
  seqs [evictWay line w, fun _ => [install line w dirty data]] s

/-- One line of a read at the cache (R371-R373): a hit is counted and touched; a miss reads memory, and allocates where `al` says so. -/
def lineRead (al : Bool) (cls a : Nat) : Act := fun s =>
  if memEnd s ≤ a then memAddrErr a s
  else seqs [settleLine (a / 64), fun s =>
    match cacheLine s (a / 64) with
    | some l => [.cnt Reg.CCH_HIT_CNT 31 0 1, updCch (fun c => touch c l.line l.way)]
    | none =>
      let e := readWord s a []
      seqs [fun _ => [.cnt (if al then Reg.CCH_MISS_CNT else Reg.CCH_NOALLOC_CNT) 31 0 1], eccLog a cls e,
        (match al, e.data with
          | true, some d => allocate (a / 64) false d
          | _, _ => skip)] s] s

/-- What a read of bytes does beside giving them (R355, R360, R362, R371). [DESIGN CHOICE, log 66, unsafe] -/
def reqReadEv (al : Bool) (a n cls : Nat) : Act :=
  if n = 0 then skip
  else each (List.range ((a % 64 + n + 63) / 64)) (fun i => lineRead al cls (a / 64 * 64 + 64 * i))

/-- A write inside one line at the cache (R371-R374). [DESIGN CHOICE, log 129, safe] -/
def reqPut (r : Requester) (al : Bool) (a : Nat) (bs : List Byte) : Act := fun s =>
  let line := a / 64
  let whole := a % 64 = 0 && bs.length = 64
  if memEnd s ≤ a then memAddrErr a s
  else seqs [settleLine line, fun s =>
      let go := al && !(whole && streamStops s r line)
      match cacheLine s line with
      | some l => serveHit l a go (some bs) s
      | none =>
        if !go then seqs [fun _ => [.cnt Reg.CCH_NOALLOC_CNT 31 0 1], memPut a bs [] 4] s
        else if whole then seqs [fun _ => [.cnt Reg.CCH_MISS_CNT 31 0 1], allocate line true bs] s
        else
          let e := readWord s a []
          seqs [fun _ => [.cnt Reg.CCH_MISS_CNT 31 0 1], reqLog (line * 64) r e, (match e.data with
            | some d => allocate line true (patch d (a % 64) bs)
            | none => skip)] s,
    fun _ => if whole then [updCch (fun c => streamNote c r line)] else []] s

/-- Write bytes on behalf of a requester of the device. [DESIGN CHOICE, log 66, unsafe] -/
def reqWrite (r : Requester) (al : Bool) (a : Nat) (bs : List Byte) : Act :=
  each (wordChunks (bs.length + 1) a bs) (fun c => reqPut r al c.1 c.2)

/-- CACHE_INIT_DONE (R381): the arrays are clear after D5's release; requests are served from now on. -/
def execCacheInitDone (s : State) : Res :=
  run (fun s => if s.levelUp 5 then [updCch (fun c => { c with ready := true })] else []) s

end Sys2Proof.Machine
end

