-- ==== Sys2Proof/Machine/Crc.lean ====
section
/-! DEFINITION. The cyclic codes of the spec: CRC-8 with polynomial 0x07 (Table 6.6, R135), CRC32C (R69, R191, R463) and the
64-bit guard of the NVMe protection information. -/

namespace Sys2Proof

/-- One bit of a most-significant-bit-first CRC-8 (polynomial 0x07). -/
def crc8Bit (c : Nat) : Nat := if 128 ≤ c then Nat.xor (2 * c) 0x107 else 2 * c

/-- Apply a step n times. -/
def iter {α : Type} (g : α → α) : Nat → α → α
  | 0, x => x
  | n + 1, x => iter g n (g x)

/-- CRC-8, initial value 0 (Table 6.6). [DEDUCED, log 63, unsafe] -/
def crc8 (bs : List Byte) : Byte := b8 (bs.foldl (fun c b => iter crc8Bit 8 (Nat.xor c b.toNat)) 0)

/-- One bit of a reflected CRC with the given reflected polynomial. -/
def crcRBit (poly c : Nat) : Nat := if c % 2 = 1 then Nat.xor (c / 2) poly else c / 2

/-- A reflected CRC over bytes, from an initial register. -/
def crcR (poly init : Nat) (bs : List Byte) : Nat :=
  bs.foldl (fun c b => iter (crcRBit poly) 8 (Nat.xor c b.toNat)) init

/-- CRC32C: reflected polynomial 0x82F63B78, all-ones initial value and final complement. [DEDUCED, log 63, unsafe] -/
def crc32c (bs : List Byte) : Word := w32 (Nat.xor (crcR 0x82F63B78 0xFFFFFFFF bs) 0xFFFFFFFF)

/-- The 64-bit guard of NVMe protection information: reflected polynomial 0x9A6C9329AC4BC9B5, all-ones initial value and final
complement. [DEDUCED, log 63, unsafe] -/
def crc64 (bs : List Byte) : Nat := Nat.xor (crcR 0x9A6C9329AC4BC9B5 0xFFFFFFFFFFFFFFFF bs) 0xFFFFFFFFFFFFFFFF

end Sys2Proof
end

