-- ==== Sys2Proof/Machine/Wrack.lean ====
section
/-! DEFINITION. The Wrack recorder: rings, loop records, CFG entries, journal, triggers and hold (R462-R469). -/

namespace Sys2Proof.Machine

/-- Change the recorder's state. -/
def updWrk (g : WrkD → WrkD) : Eff := .upd (fun d => { d with wrk := g d.wrk })

/-- The recorder's state (Table 16.3): 0 IDLE, 1 ARMED, 2 TRIGGERED, 3 HELD. -/
def wrkState (s : State) : Nat := s.fld Reg.WRK_TRIG 1 0

/-- The recorder runs: its domain is up and it is ARMED or TRIGGERED. -/
def recording (s : State) : Bool := s.up 8 && (wrkState s == 1 || wrkState s == 2)

/-- The recorder keeps the rings of an actuator (R462). -/
def armedAct (s : State) (act : Nat) : Bool := recording s && s.dyn.wrk.mask.testBit act

/-- Write one record at a ring's pointer, overwriting the oldest when full (R462). A ring of size 0 is off. -/
def ringWrite (r : Nat) (bs : List Byte) : Act := fun s =>
  let size := (s.reg (Reg.WRK_RSIZE r)).toNat
  let base := s.pair (Reg.WRK_RBASE_LO r)
  let ptr := (s.reg (Reg.WRK_RPTR r)).toNat
  if size = 0 || !reqReady s then []
  else seqs [reqWrite .media false (base + ptr) bs,
    fun _ => [.reg (Reg.WRK_RPTR r) (w32 ((ptr + bs.length) % size)),
      updWrk (fun w => { w with counts := modAt w.counts r (· + 1) })]] s

/-- A record or entry of an actuator is dropped and counted; the next record shows DROPPED (R465). -/
def recDrop (act : Nat) : Act := fun _ =>
  [.cnt (Reg.WRK_DROP_CNT act) 31 0 1, .sq Reg.WRK_STAT 4,
   updWrk (fun w => { w with drops := modAt w.drops act (· + 1), dropped := setAt w.dropped act true })]

/-- A trigger source fires (R467-R469): masked sources and, for sources 0 to 4, actuators not armed are ignored. [DEDUCED, log 37, unsafe] -/
def trigger (src act : Nat) : Act := fun s =>
  if !s.up 8 || !s.bit Reg.WRK_CTL (8 + src) || (src ≤ 4 && !s.dyn.wrk.mask.testBit act) then []
  else if wrkState s = 1 then
    [.reg Reg.WRK_TRIG (w32 (act * 256 + src * 4 + 2)),
     .reg Reg.WRK_TRIG_TICK (w32 (s.dyn.wrk.tick.getD act 0)), .sq Reg.WRK_STAT 1,
     .upd (fun d => { d with wrk := { d.wrk with post := s.fld Reg.WRK_POST 23 0, trigTime := d.us, trigSrc := some src } })]
  else if wrkState s = 0 then []
  else [updWrk (fun w => { w with lost := w.lost + 1 })]

/-- The loop record of a tick (Table 16.1). -/
def loopRecord (h : HlD) (dropped : Bool) (state flags : Nat) (offtrack : Bool) (pos : Word) : List Byte :=
  let a := h.acc
  let fl := a.phase % 8 * 32 + (if dropped then 16 else 0) + (if a.prfFirst then 8 else 0) +
    (if a.srv.isSome then 4 else 0) + (if a.prf.isSome then 2 else 0) + (if a.curOk then 1 else 0)
  let sense := if a.phase = 0 then h.senseL.take 8 else if a.phase = 1 then h.senseL.drop 8 else []
  let body := leBytes 4 a.tick ++ [b8 fl, b8 state] ++ leBytes 2 a.cfgN ++ leBytes 2 (enc 16 a.current) ++
    leBytes 2 (enc 16 a.vcmd) ++ fit 8 (a.srv.getD []) ++ leBytes 2 (a.prf.getD 0) ++ zeros 2 ++
    fit 16 (sense.flatMap (fun v => leBytes 2 (enc 16 v))) ++ leBytes 4 (crc32c a.chars).toNat ++
    leBytes 4 (flags % 512 + (if h.plausInh || flags.testBit 5 then 65536 else 0) + (if offtrack then 131072 else 0)) ++
    leBytes 4 pos.toNat ++ leBytes 4 (enc 32 a.resid) ++ zeros 4
  body ++ leBytes 4 (crc32c body).toNat

/-- A CFG entry (Table 16.2). -/
def cfgEntry (tick after off val : Nat) : List Byte :=
  leBytes 4 tick ++ [b8 after, 0] ++ leBytes 2 off ++ leBytes 4 val ++ zeros 4

/-- Change an engine's state. -/
def updHl (act : Nat) (g : HlD → HlD) : Eff := .upd (fun d => { d with hl := modAt d.hl act g })

/-- An engine's state. -/
def State.hl (s : State) (act : Nat) : HlD := s.dyn.hl.getD act {}

/-- One CFG token has run: it is counted in the tick and entered in the CFG ring, or dropped (R464, R465). -/
def recCfg (act off val : Nat) (ok : Bool) : Act := fun s =>
  if !armedAct s act then []
  else seqs [fun _ => [updHl act (fun h => { h with acc := { h.acc with cfgN := h.acc.cfgN + 1 } })],
    (if ok && reqReady s then ringWrite (4 + act) (cfgEntry (s.hl act).acc.tick (min 2 (s.hl act).acc.others) off val)
     else recDrop act)] s

/-- A journal record of 128 bytes (R466). -/
def journalRecord (us link sqid cid kind : Nat) (cqe sqe : List Byte) : List Byte :=
  leBytes 8 us ++ leBytes 2 link ++ leBytes 2 sqid ++ leBytes 2 cid ++ [b8 kind, 0] ++ fit 16 cqe ++ zeros 32 ++ fit 64 sqe

/-- The HQE keeps a journal record while the recorder runs with JOURNAL set (R462, R466). -/
def journal (link sqid cid kind : Nat) (cqe sqe : List Byte) : Act := fun s =>
  if recording s && s.dyn.wrk.journal then ringWrite 8 (journalRecord s.dyn.us link sqid cid kind cqe sqe) s else []

/-- The recorder enters HELD (R468): rings stop, and the full capture slots of armed actuators' lanes are held. -/
def enterHeld (src : Option Nat) : Act := fun s =>
  [.fld Reg.WRK_TRIG 1 0 3, .sq Reg.WRK_STAT 2] ++
  (match src with
    | some n => [.fld Reg.WRK_TRIG 4 2 n, updWrk (fun w => { w with trigSrc := some n })]
    | none => []) ++
  [updWrk (fun w => { w with held := (List.range 16).map (fun g =>
      if w.mask.testBit (g / 4) then s.fld (Reg.LN_CAP_SLOTS g) 7 0 else 0) })]

end Sys2Proof.Machine
end

