-- ==== Sys2Proof/Machine/Geo.lean ====
section
/-! DEFINITION. Heads, groups, bands, zones and the tide table (R54-R66, R73-R75). -/

namespace Sys2Proof.Machine

/-- C, the number of conventional zones: 8 × CONV_K (GEO_FMT of ACT0; R84 keeps all four equal). -/
def convZones (s : State) : Nat := 8 * s.fld (Reg.GEO_FMT 0) 26 16

/-- K, the band indices per head. -/
def bandIdx (s : State) : Nat := s.fld (Reg.GEO_FMT 0) 13 0

/-- Formatted zones: 16 × K - C (R65). -/
def zoneCount (s : State) : Nat := 16 * bandIdx s - convZones s

/-- Blocks per zone. -/
def zoneBlocks : Nat := 262144

/-- Where a block lies (R61): actuator, group, position, head, band, sector in band, run. -/
structure Place where
  act  : Nat
  q    : Nat
  j    : Nat
  head : Nat
  band : Nat
  sector : Nat
  run  : Nat
deriving DecidableEq, Repr

/-- The band index of a run in a zone (R61, R62). -/
def bandK (c z run : Nat) : Nat :=
  if z < c then 2 * (z / 16) + (if 512 ≤ run then 1 else 0) else c / 8 + (z - c) / 16

/-- The mapping of R61, with the sector of a conventional band by R62. -/
def placeOf (s : State) (lba : Nat) : Place :=
  let z := lba / zoneBlocks
  let n := lba % zoneBlocks
  let a := z % 4
  let q := z / 4 % 4
  let chunk := n / 64
  let j := chunk % 4
  let run := chunk / 4
  let c := convZones s
  let r := if z < c then run % 512 else run
  { act := a, q := q, j := j, head := a * 16 + 4 * q + j, band := 2 * bandK c z run + (if 2 ≤ a then 1 else 0),
    sector := r * 66 + n % 64, run := run }

/-- The zone whose blocks a head's band holds (the inverse of R61). -/
def zoneOf (s : State) (head band : Nat) : Nat :=
  let a := head / 16
  let q := head % 16 / 4
  let k := band / 2
  let c := convZones s
  if k < c / 8 then 16 * (k / 2) + 4 * q + a else c + 16 * (k - c / 8) + 4 * q + a

/-- A zone is conventional (R61). -/
def isConvZone (s : State) (z : Nat) : Bool := z < convZones s

/-- A band of a head belongs to a conventional zone (R62). -/
def isConvBand (s : State) (band : Nat) : Bool := band / 2 < convZones s / 8

/-- The twin of a head (R55). -/
def twin (h : Nat) : Nat := (h + 32) % 64

/-- The LBA of a data sector of a head's band; none for a parity or spare sector. -/
def lbaOf (s : State) (head band sector : Nat) : Option Nat :=
  let run := sector / 66
  let i := sector % 66
  if 67584 ≤ sector || 64 ≤ i then none
  else
    let z := zoneOf s head band
    let r := if isConvBand s band then run + 512 * (band / 2 % 2) else run
    if isConvBand s band && 512 ≤ run then none
    else some (z * zoneBlocks + (4 * r + head % 4) * 64 + i)

/-- Tracks of one radial segment (R73). -/
def segTracks (s : State) (act : Nat) : Nat := max 1 ((s.fld (Reg.GEO_TRK act) 23 0 + 255) / 256)

/-- The tide offset of position j in a segment, 1/64 track (R73). -/
def tideEntry (s : State) (act q seg j : Nat) : Int :=
  let w := if j < 2 then s.reg (Reg.TIDE_LO act (q * 256 + seg)) else s.reg (Reg.TIDE_HI act (q * 256 + seg))
  sgn 16 (w.toNat / 2 ^ (16 * (j % 2)))

/-- The tide offset of position j at a logical position, both in 1/256 track: linear between the centres of the segments,
constant outside them (R74). [DEDUCED, log 89, unsafe] -/
def tide256 (s : State) (act q j : Nat) (p : Int) : Int :=
  let len : Int := segTracks s act
  let c0 := len * 128
  if p ≤ c0 then 4 * tideEntry s act q 0 j
  else
    let k := ((p - c0) / (len * 256)).toNat
    if 255 ≤ k then 4 * tideEntry s act q 255 j
    else
      let o := tideEntry s act q k j
      4 * o + divTZ (4 * (tideEntry s act q (k + 1) j - o) * (p - c0 - k * len * 256)) (len * 256)

/-- The logical position of an engine in 1/256 track. -/
def posP (s : State) (act : Nat) : Int := (s.hl act).p / 65536

/-- The segment in use: the one that holds the engine's logical position. -/
def segInUse (s : State) (act : Nat) : Nat := min 255 ((posP s act).toNat / 256 / segTracks s act)

/-- The group the engine follows (HL_CTL.GROUP). -/
def groupOf (s : State) (act : Nat) : Nat := s.fld (Reg.HL_CTL act) 11 10

/-- The positions transferring in a group (EBB_STAT.ACTIVE). -/
def activeSet (s : State) (act q : Nat) : List Nat := bitsOf 4 (s.fld (Reg.EBB_STAT act q) 15 12)

/-- Largest of a list of integers. -/
def maxI (l : List Int) : Int := l.foldl max (l.headD 0)
/-- Smallest of a list of integers. -/
def minI (l : List Int) : Int := l.foldl min (l.headD 0)

/-- The mean of a list, rounded towards zero; 0 for the empty list. [DEDUCED, log 89, unsafe] -/
def meanI (l : List Int) : Int := divTZ (l.foldl (· + ·) 0) l.length

/-- The tide centre: the midpoint of the largest and smallest offset over the active set, 1/256 track (06, Loops). -/
def tideCentre (s : State) (act : Nat) : Int :=
  let q := groupOf s act
  let os := (activeSet s act q).map (fun j => tide256 s act q j (posP s act))
  divTZ (maxI os + minI os) 2

/-- A tide entry takes new words; a change of more than 16/64 track in the segment in use inhibits writing on the group (R75). -/
def tideStore (act idx : Nat) (lo hi : Word) : Act := fun s =>
  let q := idx / 256
  let seg := idx % 256
  let before := (List.range 4).map (tideEntry s act q seg)
  let after := (List.range 4).map (fun j =>
    sgn 16 ((if j < 2 then lo else hi).toNat / 2 ^ (16 * (j % 2))))
  let big := seg == segInUse s act && (before.zip after).any (fun p => 16 < (p.1 - p.2).natAbs)
  [.reg (Reg.TIDE_LO act idx) lo, .reg (Reg.TIDE_HI act idx) hi] ++
  (if big then [updHl act (fun h => { h with ebb := modAt h.ebb q (fun e => { e with tideInh := true }) })] else [])

/-- TIDE_INHIBIT_EXPIRY (R75): 64 wedges after the change, the group may write again. -/
def execTideInhibitExpiry (act : Fin 4) (group : Fin 4) (s : State) : Res :=
  run (fun s => if s.up (34 + act.val) then
    [updHl act.val (fun h => { h with ebb := modAt h.ebb group.val (fun e => { e with tideInh := false }) })] else []) s

end Sys2Proof.Machine
end

