-- ==== Sys2Proof/Machine/FrontEnd.lean ====
section
/-! DEFINITION. The front-end serial link's frames and head selection (R85, R135, Table 5.4), and the gates as the balls show them
(R477). -/

namespace Sys2Proof.Machine

/-- Change an actuator's write block. -/
def updWa (act : Nat) (g : WaD → WaD) : Eff := .upd (fun d => { d with wa := modAt d.wa act g })

/-- An actuator's write block. -/
def State.waD (s : State) (act : Nat) : WaD := s.dyn.wa.getD act {}

/-- A path's state. -/
def State.path (s : State) (act j : Nat) : PathD := (s.waD act).paths.getD j {}

/-- Change a path's state. -/
def updPath (act j : Nat) (g : PathD → PathD) : Eff := updWa act (fun w => { w with paths := modAt w.paths j g })

/-- The write block and front-end link run. -/
def feUp (s : State) (act : Nat) : Bool := s.up (54 + act)

/-- The front-end link sends frames (R149). [DEDUCED, log 64, unsafe] -/
def feOn (s : State) (act : Nat) : Bool := feUp s act && s.bit (Reg.FE_CTL act) 0

/-- A write frame: TYPE, address, data. [DEDUCED, log 64, unsafe] -/
def feWrite (act ty addr data : Nat) : Act := fun s =>
  let b := [b8 (ty * 16), b8 addr, b8 (data / 256), b8 data]
  if feOn s act then [.emit (.feFrame act (b ++ [crc8 b]))] else []

/-- The part of a read frame the device sends. -/
def feReadFrame (act addr : Nat) : Act := fun s => if feOn s act then [.emit (.feFrame act [0x80, b8 addr])] else []

/-- HEAD_SEL for a group: the slot of each position, position 0 lowest (Table 5.4). -/
def headSelWord (q : Nat) : Nat := (List.range 4).foldl (fun n j => n + (4 * q + j) * 16 ^ j) 0

/-- The heads of a group are selected at the front end, where another group's are (R85). -/
def selHeads (act q : Nat) : Act := fun s =>
  if !feOn s act || (s.waD act).headSel = some q then []
  else seqs [feWrite act 0 2 (headSelWord q), fun _ => [updWa act (fun w => { w with headSel := some q })]] s

/-- The code of EXTEST (Table 16.6). -/
def Tap.extest : Nat := 0x00

/-- The balls follow the boundary register's EXTEST: gates and links stand at their inactive level (R477). -/
def extest (s : State) : Bool := s.dyn.tap.ir == Tap.extest

/-- The gate of a path takes a level; its ball follows but under EXTEST. `bits` is the lead before the first bit written, or the lag
after the last (R123, R124, R477). -/
def gateSet (act j : Nat) (high : Bool) (bits : Nat) : Act := fun s =>
  if (s.path act j).wg = high then []
  else [updPath act j (fun p => { p with wg := high })] ++
    (if extest s then [] else [.emit (.gate act j high bits)])

/-- All gates fall at once. -/
def gatesLow (act : Nat) : Act := each (List.range 4) (fun j => gateSet act j false 0)

/-- The level of WGj at its ball (R477). -/
def ballWg (s : State) (act j : Nat) : Bool := (s.path act j).wg && !extest s

end Sys2Proof.Machine
end

