-- ==== Sys2Proof/Machine/Profile.lean ====
section
/-! DEFINITION. The profile generator's arithmetic (R176-R180): signed fixed point with 24 fraction bits, products and quotients
rounded towards zero, square roots down. -/

namespace Sys2Proof.Machine

/-- One in 24 fraction bits. -/
def q24 : Int := 16777216

/-- Product of two numbers with 24 fraction bits. -/
def mulQ (a b : Int) : Int := divTZ (a * b) q24

/-- Quotient of two numbers with 24 fraction bits. -/
def divQ (a b : Int) : Int := divTZ (a * q24) b

/-- The integer square root, found bit by bit from 2^(k-1) down. -/
def isqrt (n : Nat) : Nat → Nat → Nat
  | 0, r => r
  | k + 1, r => if (r + 2 ^ k) * (r + 2 ^ k) ≤ n then isqrt n k (r + 2 ^ k) else isqrt n k r

/-- Square root of a number with 24 fraction bits, rounded down. -/
def sqrtQ (x : Int) : Int := isqrt (x * q24).toNat 64 0

/-- -1, 0 or 1. -/
def signI (x : Int) : Int := if x < 0 then -1 else if x = 0 then 0 else 1

/-- The limits vm, am, jm in profile-sample units (R177). -/
structure PgLim where
  vm : Int
  am : Int
  jm : Int
deriving DecidableEq, Repr

/-- The second part of stop_dist: braking from velocity v with acceleration a ≤ 0 (R178). -/
def stopTail (l : PgLim) (v a : Int) : Int :=
  let vv := v + divQ (mulQ a a) (2 * l.jm)
  let tau := divQ (-a) l.jm
  let d0 := if divQ (mulQ l.am l.am) l.jm ≤ vv then divTZ (mulQ vv (divQ vv l.am + divQ l.am l.jm)) 2
    else mulQ vv (sqrtQ (divQ vv l.jm))
  d0 - (mulQ vv tau - divTZ (mulQ (mulQ (mulQ l.jm tau) tau) tau) 6)

/-- The distance to rest if braking starts now (R178). -/
def stopDist (l : PgLim) (v a : Int) : Int :=
  if 0 < a then
    let t1 := divQ a l.jm
    let d1 := mulQ v t1 + divTZ (mulQ (mulQ a t1) t1) 2 - divTZ (mulQ (mulQ (mulQ l.jm t1) t1) t1) 6
    d1 + stopTail l (v + divQ (mulQ a a) (2 * l.jm)) 0
  else stopTail l v a

/-- One update of the profile: the new p, v, a, the mode (PG_STAT), whether it arrived, whether it clipped. -/
structure PgOut where
  p : Int
  v : Int
  a : Int
  mode : Nat
  arrive : Bool
  clip : Bool
deriving DecidableEq, Repr

/-- The mode of a PRF token (R178): 1 ACCEL, 2 CRUISE, 3 BRAKE, 4 REVERSE. -/
def pgMode (l : PgLim) (e v a s : Int) : Nat :=
  if s * e < 0 then 4
  else if s * e ≤ stopDist l (s * v) (s * a) + s * v then 3
  else if s * v + divQ (mulQ (max (s * a) 0) (max (s * a) 0)) (2 * l.jm) < l.vm then 1
  else 2

/-- The jerk of a mode (R178). -/
def pgJerk (l : PgLim) (mode : Nat) (v a s : Int) : Int :=
  if mode = 1 then s * l.jm
  else if mode = 2 then clampI (-l.jm) l.jm (-a)
  else if divQ (mulQ a a) (2 * l.jm) < s * v then -(s * l.jm)
  else s * l.jm

/-- One PRF token of the profile generator towards a target, from the mode before (R178-R180). While a limit lowered under it
is exceeded, the quantity comes down by jm per token and PROF_CLIP is set. -/
def pgStep (l : PgLim) (tgt p v a : Int) (was : Nat) : PgOut :=
  let e := tgt - p
  if (e.natAbs : Int) ≤ q24 / 4 && (v.natAbs : Int) ≤ q24 / 16 && (a.natAbs : Int) ≤ l.jm then
    { p := tgt, v := 0, a := 0, mode := 0, arrive := true, clip := false }
  else
    let s := if v = 0 then signI e else signI v
    let mode := pgMode l e v a s
    let amE := max l.am ((a.natAbs : Int) - l.jm)
    let vmE := max l.vm ((v.natAbs : Int) - l.jm)
    let a1 := clampI (-amE) amE (a + pgJerk l mode v a s)
    let v1 := clampI (-vmE) vmE (v + a1)
    let flip := v1 * v < 0
    let v2 := if flip then 0 else v1
    let beyond := l.am < (a.natAbs : Int) || l.vm < (v.natAbs : Int)
    let short := mode = 3 && was ≠ 3 && (e.natAbs : Int) < stopDist l (s * v) (s * a)
    { p := p + v2, v := v2, a := if flip then 0 else a1, mode := mode, arrive := false,
      clip := (mode = 4 && was ≠ 4) || short || beyond }

/-- h in ms with 24 fraction bits, from the nominal speed and wedge count (R177); with a speed or count of 0 the spec gives no
quotient, and h is the value passed. [DESIGN CHOICE, log 90, safe] -/
def pgH (s : State) (act : Nat) (open_ : Int) : Int :=
  let rpm := s.fld (Reg.HL_SPIN act) 31 16
  let w := s.fld (Reg.HL_SPIN act) 9 0
  if rpm * w = 0 then open_ else divTZ (60000 * q24) (rpm * w)

/-- The limits of R177 at the present register values; 0 acts as 1 in each. [DEDUCED, log 89, unsafe] -/
def pgLimits (s : State) (act : Nat) (h : Int) : PgLim :=
  { vm := max 1 (s.fld (Reg.PG_VMAX act) 14 0) * h,
    am := mulQ (max 1 (s.fld (Reg.PG_AMAX act) 19 0) * 16 * h) h,
    jm := mulQ (mulQ (max 1 (s.fld (Reg.PG_JMAX act) 19 0) * 256 * h) h) h }

end Sys2Proof.Machine
end

