-- ==== Sys2Proof/Machine/Headland.lean ====
section
/-! DEFINITION. The Headland engines: tokens, loops, supervision, links, load and unload, and the ramp unit (R151-R188,
R202-R207). -/

namespace Sys2Proof.Machine

/-- HL_FLAGS bits (Table 6.12). -/
def flSatAcc : Word := 1
/-- SAT_OUT. -/
def flSatOut : Word := 2
/-- SAT_INT. -/
def flSatInt : Word := 4
/-- PROF_CLIP. -/
def flClip : Word := 8
/-- PLAUS_WARN. -/
def flWarn : Word := 16
/-- PLAUS_FAIL. -/
def flFail : Word := 32
/-- ARRIVE. -/
def flArrive : Word := 64
/-- PARKED. -/
def flParked : Word := 128
/-- HOLD_OVF. -/
def flHoldOvf : Word := 256
/-- PARK_UNCONF. -/
def flUnconf : Word := 512

/-- The engine's STATE (Table 6.12): 0 PARKED, 1 LOADING, 2 FOLLOWING, 3 UNLOADING, 4 FAILED. -/
def hlState (s : State) (act : Nat) : Nat := s.fld (Reg.HL_CTL act) 14 12

/-- The engine's domain runs. -/
def hlUp (s : State) (act : Nat) : Bool := s.up (34 + act)

/-- The engine is in replay mode. -/
def hlReplay (s : State) (act : Nat) : Bool := s.bit (Reg.HL_CTL act) 3

/-- The microcode runs: EN is 1 and no failure has stopped it (R153, R185). -/
def hlRuns (s : State) (act : Nat) : Bool := hlUp s act && s.bit (Reg.HL_CTL act) 0 && !(s.hl act).stopped

/-- Characters 1 to 3 of a frame (Table 6.6). -/
def frameChars (ty slot : Nat) (v : Int) : List Byte := [b8 (ty * 16 + slot), b8 (enc 16 v / 256), b8 (enc 16 v)]

/-- Characters join the tick's OUT_CRC (Table 16.1). -/
def accChars (act : Nat) (cs : List Byte) : Eff := updHl act (fun h => { h with acc := { h.acc with chars := h.acc.chars ++ cs } })

/-- The six characters of a frame: K28.5, TYPE and SLOT, VALUE, TOKEN, CRC-8 over characters 1 to 4 (Table 6.6). -/
def linkFrame (ty slot : Nat) (v : Int) (token : Nat) : List LinkChar :=
  let cs := frameChars ty slot v ++ [b8 token]
  .k28_5 :: (cs ++ [crc8 cs]).map LinkChar.data

/-- Send a frame on the microactuator stream while MS_EN is 1 and the engine is not replaying (R168, R172, R473). -/
def msSend (act ty slot : Nat) (v : Int) : Act := fun s =>
  if s.bit (Reg.HL_CTL act) 1 then
    [accChars act (frameChars ty slot v)] ++
    (if hlReplay s act || extest s then [] else [.emit (.msFrame act (linkFrame ty slot v (s.hl act).tokNo))])
  else []

/-- Send a frame on the voice-coil link (R168, R169). -/
def vcSend (act ty : Nat) (v : Int) : Act := fun s =>
  [accChars act (frameChars ty 0 v)] ++
  (if hlReplay s act || extest s then [] else [.emit (.vcFrame act (linkFrame ty 0 v (s.hl act).tokNo))])

/-! Memories. -/

/-- Store a program memory word, listed by rising index. -/
def pmPut (l : List (Nat × Nat)) (i v : Nat) : List (Nat × Nat) :=
  l.filter (fun p => p.1 < i) ++ [(i, v)] ++ l.filter (fun p => i < p.1)

/-- A program memory word, if one has been written since reset. -/
def pmGet (s : State) (act i : Nat) : Option Nat :=
  match (s.hl act).pm.find? (fun p => p.1 == i) with
  | some p => some p.2
  | none => none

/-- An offset in an actuator's coefficient, runout or state memory. -/
def isEngMem (off : Nat) : Bool := 0x2000 ≤ off && off < 0xC000

/-- An offset in the tide table. -/
def isTideMem (off : Nat) : Bool := 0xD000 ≤ off && off < 0xF000

/-- The BAR0 offset of an offset in an actuator's range. -/
def actAddr (act off : Nat) : Nat := 0x100000 + act * 0x40000 + off

/-- A CFG token lands: a memory word or PG register takes its value, a tide entry under R75. -/
def cfgApply (act off val : Nat) : Act :=
  if isTideMem off then tideStore act ((off - 0xD000) / 8) (w32 val) (w32 (val / 2 ^ 32))
  else fun _ => [.reg (actAddr act off) (w32 (if isEngMem off then val else val % 2 ^ 24))]

/-- A token takes the next sequence number (Table 6.4). -/
def nextTok (act : Nat) : Eff := updHl act (fun h => { h with tokNo := h.seqNo, seqNo := (h.seqNo + 1) % 256 })

/-- A running ramp loses the entries that target a word (R204). -/
def rampDrop (act off : Nat) : Act := fun s =>
  let hit := fun (e : RampEnt) => e.off / 4 == off / 4 || (isTideMem off && e.off / 8 == off / 8)
  if (s.hl act).ramp.any hit then
    [updHl act (fun h => { h with ramp := h.ramp.filter (fun e => !hit e) }), .sq (Reg.HL_RAMP_STAT act) 2]
  else []

/-- The engine's replay mode takes writes directly (R472). -/
def directWrites (s : State) (act : Nat) : Bool := hlReplay s act && !s.bit Reg.WRK_RP_CTL 1

/-! Ramp unit. -/

/-- The value of a ramp entry at step k of n: S + (T - S) × k / n, rounded towards zero (R202). -/
def rampValue (e : RampEnt) (k n : Nat) : Word :=
  let step (w : Nat) (a b : Nat) : Nat := enc w (divTZ (sgn w a * n + (sgn w b - sgn w a) * k) n)
  if e.halves then
    w32 (step 16 (e.start.toNat % 65536) (e.target.toNat % 65536) +
      65536 * step 16 (e.start.toNat / 65536) (e.target.toNat / 65536))
  else w32 (step 32 e.start.toNat e.target.toNat)

/-- Write one ramp value as a CFG token (R202); a tide word is a committed tide write (R206). The token is recorded (R464). -/
def rampWrite (act off : Nat) (v : Word) : Act := fun s =>
  let whole := if isTideMem off then
      (if off % 8 = 0 then v.toNat + 2 ^ 32 * (s.reg (actAddr act (off + 4))).toNat
        else (s.reg (actAddr act (off - 4))).toNat + 2 ^ 32 * v.toNat)
    else v.toNat
  seqs [fun _ => [nextTok act, .cnt (Reg.HL_TOK_CNT act) 31 0 1],
    cfgApply act (if isTideMem off then off / 8 * 8 else off) whole, recCfg act off v.toNat true] s

/-- The ramp ends. -/
def rampEnd (act : Nat) (bits : Word) : Act := fun _ =>
  [.fld (Reg.HL_RAMP_CTL act) 1 1 0, updHl act (fun h => { h with ramp := [] }), .sq (Reg.HL_RAMP_STAT act) bits]

/-- A ramp takes its next step at a PRF token, unless COEF_HOLD is 1 (R202, R203). -/
def rampStep (act : Nat) : Act := fun s =>
  if !s.bit (Reg.HL_RAMP_CTL act) 1 || s.bit (Reg.HL_CTL act) 16 then []
  else
    let h := s.hl act
    let k := h.rampK + 1
    seqs [each h.ramp (fun e => rampWrite act e.off (rampValue e k h.rampN)),
      fun _ => [updHl act (fun h => { h with rampK := k }), .fld (Reg.HL_RAMP_STEP act) 11 0 k],
      if h.rampN ≤ k then rampEnd act 1 else skip] s

/-- A ramp meets PARKED or UNLOADING: every remaining target is written at once (R205). -/
def rampFinish (act : Nat) : Act := fun s =>
  if s.bit (Reg.HL_RAMP_CTL act) 1 then
    seqs [each (s.hl act).ramp (fun e => rampWrite act e.off e.target), rampEnd act 1] s
  else []

/-- A ramp meets FAILED: it stops with the values as they stand (R205). -/
def rampAbort (act : Nat) : Act := fun s => if s.bit (Reg.HL_RAMP_CTL act) 1 then rampEnd act 4 s else []

/-- Entry e of the ramp registers as it stands (Table 7.6). -/
def rampEntry (s : State) (act e : Nat) : RampEnt :=
  let a := s.reg (Reg.HL_RAMP_ADDR act e)
  let off := a.fld 15 2 * 4
  { off := off, halves := a.bit 16, start := s.reg (actAddr act off), target := s.reg (Reg.HL_RAMP_TGT act e) }

/-- An OFFSET a ramp may target (R206). -/
def rampOffOk (off : Nat) : Bool := (0x4000 ≤ off && off ≤ 0xBFFC) || (0xD000 ≤ off && off ≤ 0xEFFC)

/-- A write of HL_RAMP_CTL (R202, R205, R206): GO is discarded while BUSY is 1. -/
def hRamp (act : Nat) (data : Word) : Act := fun s =>
  if s.bit (Reg.HL_RAMP_CTL act) 1 then plainWrite (Reg.HL_RAMP_CTL act) data s
  else seqs [plainWrite (Reg.HL_RAMP_CTL act) data, fun s =>
    if !data.bit 0 then []
    else
      let n := min 16 (data.fld 20 16)
      let es := (List.range n).map (rampEntry s act)
      if es.any (fun e => !rampOffOk e.off) then [.sq (Reg.HL_RAMP_STAT act) 4]
      else if hlState s act != 2 then
        seqs [each es (fun e => rampWrite act e.off e.target), fun _ => [.sq (Reg.HL_RAMP_STAT act) 1]] s
      else [.fld (Reg.HL_RAMP_CTL act) 1 1 1, .reg (Reg.HL_RAMP_STEP act) 0,
        updHl act (fun h => { h with ramp := es, rampK := 0, rampN := max 1 (data.fld 15 4) })]] s

/-! State changes. -/

/-- The engine enters PARKED. -/
def enterParked (act : Nat) (unconf : Bool) : Act :=
  seqs [fun _ => [.fld (Reg.HL_CTL act) 14 12 0, updHl act (fun h => { h with park := 0 }),
    .sq (Reg.HL_FLAGS act) (if unconf then flParked ||| flUnconf else flParked)], rampFinish act]

/-- The engine fails (R185, steps 1 to 3). Once failed it records no further cause. -/
def engFail (act cause head wedge : Nat) : Act := fun s =>
  if hlState s act = 4 then []
  else seqs [
    fun _ => [.sq (Reg.HL_FLAGS act) flFail,
      .reg (Reg.HL_FAIL act) (w32 (cause * 2 ^ 28 + head * 2 ^ 22 + wedge * 2 ^ 12)),
      .fld (Reg.HL_CTL act) 14 12 4, updHl act (fun h => { h with stopped := true, park := 1 })],
    msSend act 2 0 0, rampAbort act, trigger 0 act] s

/-- What a run's datapath leaves (R152, R158, R181, R182): flags, the outputs clamped, state-memory words, the arm output, and its
cycles and count. The observed drives and the voice-coil code follow in `driveAll` and `curFrame`. [DESIGN CHOICE, log 61, safe] -/
def microEffects (act : Nat) (d : Dp) (cycles : Nat) : Act := fun _ =>
  (if d.satAcc then [.sq (Reg.HL_FLAGS act) flSatAcc] else []) ++
  (if d.satInt then [.sq (Reg.HL_FLAGS act) flSatInt] else []) ++
  (if d.satOut.isEmpty then [] else [.sq (Reg.HL_FLAGS act) flSatOut]) ++
  d.satOut.map (fun i => .fld (Reg.HL_SAT_SRC act) i i 1) ++
  d.words.map (fun p => .reg (Reg.HL_STATE_RAM act p.1) p.2) ++
  [.cnt (Reg.HL_TOK_CNT act) 31 0 1,
   updHl act (fun h => { h with
     cycles := h.cycles + cycles, arm := d.arm.getD h.arm, vcmd := d.vcmd.getD h.vcmd,
     satAge := (indexed h.satAge).map (fun p => if d.satOut.contains p.1 then 0 else p.2) })]

/-- The drive codes a run put out, for the slots it may update: shown and sent, one frame per slot (R172). -/
def driveAll (act : Nat) (slots : List Nat) (d : Dp) : Act :=
  each (d.drives.filter (fun p => slots.contains p.1)) (fun p =>
    seqs [fun _ => [.fld (Reg.HL_MA_OUT act p.1) 15 0 (enc 16 p.2)], msSend act 1 p.1 p.2])

/-- The memories a run may read, by offset in the actuator's range (Table 6.1). -/
def memIn (s : State) (act : Nat) : List (Nat × Nat) :=
  (s.regs.filter (fun p => actAddr act 0 ≤ p.1 && p.1 < actAddr act 0x40000 &&
    (isEngMem (p.1 - actAddr act 0) || isTideMem (p.1 - actAddr act 0)))).map (fun p => (p.1 - actAddr act 0, p.2.toNat))

/-- The values latched with every token: the profile, the tide centre, the followed group and active set, the output limits. -/
def latchIn (s : State) (act : Nat) : List Int :=
  let h := s.hl act
  [h.p, h.v, h.a, h.c, groupOf s act, s.fld (Reg.EBB_STAT act (groupOf s act)) 15 12, s.fld (Reg.HL_OUTLIM act) 31 16,
   s.fld (Reg.HL_OUTLIM act) 15 0, hlState s act]

/-- What a run may depend on (R158). -/
def microIn (s : State) (act kind : Nat) (token latched : List Int) : MicroIn :=
  { kind := kind, token := token, pm := (s.hl act).pm, mem := memIn s act, latched := latchIn s act ++ latched }

/-- The datapath after a run of the program. -/
def runProg (s : State) (act : Nat) (pr : Prog) (i : MicroIn) : Dp :=
  dpRun (s.fld (Reg.HL_OUTLIM act) 15 0) (s.fld (Reg.HL_OUTLIM act) 31 16) (pr.ops i)

/-- Run the front CFG token (R157, R158). -/
def cfgRun (act : Nat) (ok : Bool) : Act := fun s =>
  match (s.hl act).queue with
  | [] => []
  | (off, val) :: rest =>
    seqs [fun _ => [updHl act (fun h => { h with queue := rest }), nextTok act, .cnt (Reg.HL_TOK_CNT act) 31 0 1],
      cfgApply act off val, recCfg act off val ok] s

/-- The CFG tokens produced before another token run before it (R157). -/
def drainCfg (act : Nat) : Act := fun s => seqs ((s.hl act).queue.map (fun _ => cfgRun act true)) s

/-- A token is taken: those before it run. One that finds the queue full is told so: its program does not run and the engine fails
with OVERRUN unless a lower cause arises with it (R157, R186). [DEDUCED, log 114, unsafe] -/
def takeToken (act : Nat) (body : Bool → Act) : Act := fun s =>
  let full := decide (32 ≤ (s.hl act).queue.length)
  seqs [drainCfg act, fun _ => [nextTok act], body full,
    fun _ => [updHl act (fun h => { h with unlNew := false })]] s

/-- The supervised causes apply: FOLLOWING, or an unload ordered since the last token (R186). -/
def following (s : State) (act : Nat) : Bool := hlState s act == 2 || (s.hl act).unlNew

/-! Commands: memory writes. -/

/-- A register write to a coefficient, runout, state or tide word, or to a PG register (R155, R204). -/
def hEngMem (act off val : Nat) : Act := fun s =>
  if directWrites s act then cfgApply act off val s
  else seqs [rampDrop act off, fun s =>
    let held := s.bit (Reg.HL_CTL act) 16 && (isEngMem off || isTideMem off)
    if held && (s.hl act).hold.length < 64 then [updHl act (fun h => { h with hold := h.hold ++ [(off, val)] })]
    else if held then [.sq (Reg.HL_FLAGS act) flHoldOvf]
    else if 32 ≤ (s.hl act).queue.length then engFail act 5 0 0 s
    else [updHl act (fun h => { h with queue := h.queue ++ [(off, val)] })]] s

/-- COEF_MEMORY_WRITE (R155): a write to the engine memories at an offset in the actuator's range. -/
def execCoefMemoryWrite (init : Initiator) (act : Fin 4) (offset : BitVec 16) (data : Word) (s : State) : Res :=
  let off := offset.toNat / 4 * 4
  run (wrAccess init (actAddr act.val off)
    (if isEngMem off then hEngMem act.val off data.toNat else skip)) s

/-- COEF_HOLD returns to 0: every buffered write lands between two tokens, the earliest first (R155). -/
def holdRelease (act : Nat) : Act := fun s =>
  seqs [each (s.hl act).hold (fun p => seqs [cfgApply act p.1 p.2, recCfg act p.1 p.2 true]),
    fun _ => [updHl act (fun h => { h with hold := [] })]] s

/-- A load starts (R174): PARKED, EN at 1, the microcode not stopped and PLAUS_FAIL clear (R187), on an actuator that calibration
does not keep parked (R194, R196). [DEDUCED, log 122, unsafe] -/
def startLoad (act : Nat) : Act := fun s =>
  if hlState s act = 0 && hlRuns s act && !s.bit (Reg.HL_FLAGS act) 5 && !s.dyn.keepParked.contains act then
    (s.regs.filter (fun p => Reg.HL_STATE_RAM act 0 ≤ p.1 && p.1 < Reg.HL_STATE_RAM act 2048)).map (fun p => .reg p.1 0) ++
    [.fld (Reg.HL_CTL act) 14 12 1,
     updHl act (fun h => { h with
         loadW := List.replicate 4 [], onTrk := List.replicate 4 0, t2run := 0, relRun := 0,
         missRun := 0, curMiss := 0, sentUnload := false, park := 0, arm := 0, vcmd := 0 })]
  else []

/-- An unload starts (R175): the steps 3 and 4 of R185 without a failure. -/
def startUnload (act : Nat) : Act := fun s =>
  if hlState s act = 1 || hlState s act = 2 then
    seqs [fun _ => [.fld (Reg.HL_CTL act) 14 12 3, updHl act (fun h => { h with park := 1, unlNew := hlState s act == 2 })],
      msSend act 2 0 0, rampFinish act] s
  else []

/-- A write of HL_CTL: the RW fields take their values, the heads of GROUP are selected (R85), COEF_HOLD 1 to 0 releases buffered writes, EN 0 to 1 restarts a stopped
microcode, LOAD and UNLOAD act. -/
def hHlCtl (act : Nat) (data : Word) : Act := fun s =>
  seqs [plainWrite (Reg.HL_CTL act) data, fun s => selHeads act (groupOf s act) s,
    (if s.bit (Reg.HL_CTL act) 16 && !data.bit 16 then holdRelease act else skip),
    (if !s.bit (Reg.HL_CTL act) 0 && data.bit 0 && !s.bit (Reg.HL_FLAGS act) 5 then
      fun _ => [updHl act (fun h => { h with stopped := false })] else skip),
    (if data.bit 9 then startLoad act else skip),
    (if data.bit 8 then startUnload act else skip)] s

/-- HL_CTL's RW bits as they stand, for a write that changes one of them or sets a WO bit. -/
def hlCtlRw (s : State) (act : Nat) : Word := s.reg (Reg.HL_CTL act) &&& 0x00010C0F

/-- COEF_HOLD_RELEASE (R155): a write of HL_CTL with COEF_HOLD 0 and the rest as it stands. -/
def execCoefHoldRelease (init : Initiator) (act : Fin 4) (s : State) : Res :=
  run (wrAccess init (Reg.HL_CTL act.val) (fun s => hHlCtl act.val (hlCtlRw s act.val &&& 0xFFFEFFFF) s)) s

/-- HL_LOAD (R174): a write of LOAD to HL_CTL. -/
def execHlLoad (init : Initiator) (act : Fin 4) (s : State) : Res :=
  run (wrAccess init (Reg.HL_CTL act.val) (fun s => hHlCtl act.val (hlCtlRw s act.val ||| 0x200) s)) s

/-- HL_UNLOAD (R175): a write of UNLOAD to HL_CTL. -/
def execHlUnload (init : Initiator) (act : Fin 4) (s : State) : Res :=
  run (wrAccess init (Reg.HL_CTL act.val) (fun s => hHlCtl act.val (hlCtlRw s act.val ||| 0x100) s)) s

/-- A program memory instruction is written at HL_PM_ADDR, which advances (R153): ignored while EN is 1. [DESIGN CHOICE, log 19, unsafe] -/
def pmWrite (act v : Nat) : Act := fun s =>
  if s.bit (Reg.HL_CTL act) 0 then []
  else
    let i := s.fld (Reg.HL_PM_ADDR act) 13 0
    [updHl act (fun h => { h with pm := pmPut h.pm i v }), .fld (Reg.HL_PM_ADDR act) 13 0 (i + 1)]

/-- A write of HL_PM_DATA_HI with the low half staged, or the high half alone (R48, R153). -/
def hPmHi (act : Nat) (lo : Option Word) (hi : Word) : Act := fun s =>
  let old := (pmGet s act (s.fld (Reg.HL_PM_ADDR act) 13 0)).getD 0
  pmWrite act ((match lo with | some w => w.toNat | none => old % 2 ^ 32) + 2 ^ 32 * hi.toNat) s

/-- PM_DATA_WRITE (R153): a write of HL_PM_DATA_HI, which commits the instruction. -/
def execPmDataWrite (init : Initiator) (act : Fin 4) (data : Word) (s : State) : Res :=
  run (wrAccess init (Reg.HL_PM_DATA_HI act.val)
    (hiWrite init (Reg.HL_PM_DATA_LO act.val) (fun lo => hPmHi act.val lo data))) s

/-- TIDE_HI_COMMIT (R48, R75): the staged low word and this word become the entry; without a stage the high half alone. -/
def hTideHi (act idx : Nat) (lo : Option Word) (data : Word) : Act := fun s =>
  let l := match lo with
    | some w => w
    | none => s.reg (Reg.TIDE_LO act idx)
  hEngMem act (0xD000 + idx * 8) (l.toNat + 2 ^ 32 * data.toNat) s

/-- TIDE_HI_COMMIT (R75). -/
def execTideHiCommit (init : Initiator) (act : Fin 4) (group : Fin 4) (seg : Fin 256) (data : Word) (s : State) : Res :=
  let idx := group.val * 256 + seg.val
  run (wrAccess init (Reg.TIDE_HI act.val idx)
    (hiWrite init (Reg.TIDE_LO act.val idx) (fun lo => hTideHi act.val idx lo data))) s

/-! Commands: tokens. -/

/-- CFG_TOKEN_RUN (R158): the sequencer runs the CFG token at the front of its queue. -/
def execCfgTokenRun (act : Fin 4) (rec : Bool) (s : State) : Res :=
  run (fun s => if hlUp s act.val then cfgRun act.val rec s else []) s

/-- The loop record of the tick before is written, or dropped (R463, R465). -/
def flushLoop (act : Nat) (ok : Bool) : Act := fun s =>
  let h := s.hl act
  if !armedAct s act || !h.acc.live || (wrkState s = 2 && s.dyn.wrk.post = 0) then []
  else if ok && reqReady s then
    let off := (activeSet s act (groupOf s act)).any (fun j =>
      h.onTrk.getD j 0 < max 1 (s.fld (Reg.WA_CFG act) 15 12))
    let rec_ := loopRecord h (s.dyn.wrk.dropped.getD act false) (hlState s act)
      (s.reg (Reg.HL_FLAGS act)).toNat off (s.reg (Reg.PG_POS act))
    seqs [ringWrite act rec_, fun _ => [updWrk (fun w => { w with
      dropped := setAt w.dropped act false, post := if wrkState s = 2 then w.post - 1 else w.post })]] s
  else recDrop act s

/-- A new tick begins in the recorder (R463). -/
def beginLoop (act phase : Nat) (curOk : Bool) (current : Int) : Act := fun s =>
  if armedAct s act then
    [updHl act (fun h => { h with acc :=
        { live := true, tick := s.dyn.wrk.tick.getD act 0, phase := phase, curOk := curOk, current := current } }),
     updWrk (fun w => { w with tick := modAt w.tick act (fun t => (t + 1) % 2 ^ 32) })]
  else []

/-- The frame of a CUR token by state (R169, R185): while loaded the code the program last put out (R166). -/
def curFrame (act : Nat) : Act := fun s =>
  let st := hlState s act
  if !s.bit (Reg.HL_CTL act) 2 then []
  else if st = 1 then vcSend act 3 0 s
  else if st = 2 then
    seqs [vcSend act 1 (s.hl act).vcmd, fun s => [updHl act (fun h => { h with acc := { h.acc with vcmd := (s.hl act).vcmd } })]] s
  else if st = 0 then vcSend act 0 0 s
  else if (s.hl act).park = 2 then []
  else seqs [vcSend act 2 0, fun _ => [updHl act (fun h => { h with sentUnload := true })]] s

/-- A Q2.30 word of the general coefficient memory (Table 6.2). -/
def coefQ (s : State) (act off : Nat) : Int := sgn 32 (s.reg (actAddr act off)).toNat

/-- The observer's prediction at a CUR token (R183): v̂ = v̂ + KOA × i, then x̂ = x̂ + KOV × v̂. [DEDUCED, log 89, unsafe] -/
def observe (s : State) (act : Nat) (i : Int) (h : HlD) : HlD :=
  let v := h.vh + coefQ s act 0x4100 * i
  { h with vh := v, xh := h.xh + coefQ s act 0x4104 * v / 2 ^ 30 }

/-- The current set-point: the arm compensator's output plus KFF times the profile acceleration in 1/256 track, stored from the
accumulator with a shift of 30 (R166). [DEDUCED, log 115, unsafe] -/
def setPoint (s : State) (act : Nat) : Int :=
  let h := s.hl act
  satTo 32 (h.arm + satTo 32 (roundShift 30 (satTo 64 (coefQ s act 0x400C * divTZ h.a 65536))))

/-- What a CUR token does (R166, R169-R171, R183, R185): `valid` says that a new CURRENT value came since the last one. Only VCMD
frames are answered with CURRENT (R170), so only tokens while FOLLOWING count as missing one. Of several causes the lowest is
recorded (R186). [DEDUCED, log 86, unsafe] -/
def curBody (a phase : Nat) (valid : Bool) (current : Int) (pr : Prog) (full : Bool) : Act := fun s =>
  let miss := if valid || !following s a then 0 else (s.hl a).curMiss + 1
  let i := microIn s a 1 [phase, current, if valid then 1 else 0] [setPoint s a, satTo 32 (setPoint s a - current)]
  seqs [fun s => [updHl a (fun h => observe s a current { h with curMiss := miss, curFresh := false })],
    (if hlRuns s a && !full then microEffects a (runProg s a pr i) (pr.micro i).cycles else skip),
    (if hlRuns s a && 4 ≤ miss then engFail a 3 0 0
      else if hlRuns s a && !full && pr.ecc.isSome then engFail a 4 0 0
      else if full then engFail a 5 0 0 else skip),
    curFrame a] s

/-- CUR_TOKEN_RUN (R158, R166, R169-R171, R183, R185). -/
def execCurTokenRun (act : Fin 4) (tick : Fin 8) (ecc : Option Nat) (rec : Bool) (s : State) : Res :=
  let a := act.val
  run (fun s =>
    if !hlUp s a || hlReplay s a then []
    else takeToken a (fun full s =>
      let h := s.hl a
      seqs [flushLoop a rec, beginLoop a tick.val h.curFresh h.current,
        curBody a tick.val h.curFresh h.current (theProg ecc) full] s) s) s

/-- An SRV token's 8 bytes (Table 6.4). -/
def srvBytes (seqNo : Nat) (t : SrvToken) : List Byte :=
  leBytes 8 (seqNo % 256 * 2 ^ 56 + t.pos.val * 2 ^ 54 + t.status.val * 2 ^ 52 + t.wedge.toNat * 2 ^ 42 +
    t.track.toNat * 2 ^ 18 + t.pes.toNat * 2 ^ 8 + t.amp.toNat)

/-- The repeatable runout of a slot at a wedge, 1/256 track (R156). -/
def rro (s : State) (act slot wedge : Nat) : Int :=
  sgn 16 ((s.reg (actAddr act (0x6000 + slot * 0x600 + wedge / 2 * 4))).toNat / 2 ^ (16 * (wedge % 2)))

/-- Put a sample at the head of a window of the last n. -/
def pushWin (n : Nat) (x : Int) (l : List Int) : List Int := (x :: l).take n

/-- p advanced by a position's share of the wedge interval since the PRF token, 1/256 track (R162). -/
def pAhead (h : HlD) (pos : Nat) : Int :=
  (h.p + divTZ (h.v * pos) 4 + divTZ (h.a * pos * pos) 32) / 65536

/-- What a decoded sample measures (R160-R164, R167): the arm's measurement w and error e, the position error, the unclamped
microactuator set-point and the one the loop uses, the tide offset. -/
structure Sample where
  w    : Int
  z    : Int
  e    : Int
  err  : Int
  req  : Int
  mset : Int
  o    : Int
deriving DecidableEq, Repr

/-- 15/16 of STROKE_Q6 in 1/256 track (R163). -/
def strokeLim (s : State) (act : Nat) : Int := divTZ (15 * s.fld (Reg.EBB_STROKE act) 15 0) 4

/-- The measurement of a decoded sample of position j, with the modelled displacement of its microactuator (R160-R163). -/
def sampleOf (s : State) (act : Nat) (t : SrvToken) (m : Int) : Sample :=
  let h := s.hl act
  let q := groupOf s act
  let j := t.pos.val
  let slot := 4 * q + j
  let y := (t.track.toNat : Int) * 256 + sgn 10 t.pes.toNat - rro s act slot t.wedge.toNat
  let z := y - m
  let p := posP s act
  let o := tide256 s act q j p
  let act_ := (activeSet s act q).contains j
  let b := if act_ then 0 else meanI (h.zWin.getD slot [])
  let w := z - h.c - b
  let req := p + o - z
  { w := w, z := z, e := pAhead h j - w, err := p + o - y, req := req,
    mset := if act_ then req else clampI (-strokeLim s act) (strokeLim s act) req, o := o }

/-- The samples of a slot's window that are less than 64 wedges old. -/
def young (l : List (Nat × Int)) : List (Nat × Int) := (l.filter (fun p => p.1 < 64)).take 64

/-- HL_MA_REQ and HL_DRIFT of a slot from its window: the mean of m* over the last 64 wedges, and its excess over the tide offset
(R164). A window without a sample leaves them as they are. [DEDUCED, log 89, unsafe] [DESIGN CHOICE, log 116, unsafe] -/
def reqReport (s : State) (act slot : Nat) (win : List (Nat × Int)) : List Eff :=
  let req := divTZ (meanI (win.map (·.2))) 4
  if win.isEmpty then []
  else [.fld (Reg.HL_MA_REQ act slot) 15 0 (enc 16 req),
    .fld (Reg.HL_DRIFT act slot) 15 0 (enc 16 (req - divTZ (tide256 s act (slot / 4) (slot % 4) (posP s act) - (s.hl act).c) 4))]

/-- What a sample leaves in the registers and windows of its slot (R162-R164, R167). [DEDUCED, log 89, unsafe] -/
def sampleStore (act slot j : Nat) (x : Sample) : Act := fun s =>
  let h := s.hl act
  let win := young ((0, x.req) :: h.reqWin.getD slot [])
  let lim : Int := 4 * s.fld (Reg.WA_CFG act) 23 16
  let ok := (x.err.natAbs : Int) ≤ lim
  .fld (Reg.HL_HEAD_ERR act slot) 15 0 (enc 16 (clampI (-32767) 32767 (divTZ x.err 4))) ::
  reqReport s act slot win ++
  [updHl act (fun h => { h with
       reqWin := setAt h.reqWin slot win,
       zWin := modAt h.zWin slot (pushWin 64 (x.z - h.c - posP s act)),
       onTrk := modAt h.onTrk j (fun n => if ok then n + 1 else 0),
       missed := setAt h.missed j false, missRun := 0, loadW := modAt h.loadW j (pushWin 4 x.w) })]

/-- A wedge interval ends for the windows of R164: samples grow older, and a slot that loses one reports its mean anew. -/
def ageWindows (act : Nat) : Act := fun s =>
  let older := (s.hl act).reqWin.map (fun l => l.map (fun p => (p.1 + 1, p.2)))
  (indexed older).flatMap (fun p => if (young p.2).length = p.2.length then [] else reqReport s act p.1 (young p.2)) ++
  [updHl act (fun h => { h with reqWin := older.map young })]

/-- Enabled lanes of an actuator, by position. -/
def enabledPos (s : State) (act : Nat) : List Nat := (List.range 4).filter (fun j => s.bit (Reg.LN_CTL (4 * act + j)) 0)

/-- The load completes once every enabled lane has delivered 4 decoded wedges in a row: p is the mean of their w (R174). The
observer starts there. [DEDUCED, log 89, unsafe] [DESIGN CHOICE, log 117, unsafe] -/
def loadDone (act : Nat) : Act := fun s =>
  let h := s.hl act
  let ps := enabledPos s act
  if hlState s act = 1 && !ps.isEmpty && ps.all (fun j => 4 ≤ (h.loadW.getD j []).length) then
    let m := meanI (ps.flatMap (fun j => h.loadW.getD j []))
    [.fld (Reg.HL_CTL act) 14 12 2, .fld (Reg.PG_TGT act) 23 0 ((m + 128) / 256).toNat, .fld (Reg.PG_POS act) 31 0 (enc 32 m),
     updHl act (fun h => { h with p := m * 65536, v := 0, a := 0, xh := m * 2 ^ 30, vh := 0 })]
  else []

/-- The observer's correction by a residual (R183). -/
def correct (s : State) (act : Nat) (rho : Int) (h : HlD) : HlD :=
  { h with xh := h.xh + coefQ s act 0x4108 * rho, vh := h.vh + coefQ s act 0x410C * rho, acc := { h.acc with resid := rho } }

/-- The supervisor compares one residual with its thresholds (R184, R185): three in a row above T2 fail the engine. [DESIGN CHOICE, log 117, unsafe] -/
def supervise (act head wedge : Nat) (rho : Int) : Act := fun s =>
  let h := s.hl act
  let t1 : Int := 4 * s.fld (Reg.HL_SUP act) 7 0
  let t2 : Int := 4 * max (s.fld (Reg.HL_SUP act) 15 8) (s.fld (Reg.HL_SUP act) 7 0)
  let big1 := t1 < (rho.natAbs : Int)
  let big2 := t2 < (rho.natAbs : Int)
  let rel := max 1 (s.fld (Reg.HL_SUP act) 23 20)
  seqs [
    fun _ => [updHl act (fun h => { h with
        t2run := if big2 then h.t2run + 1 else 0,
        relRun := if big1 then 0 else h.relRun + 1,
        plausInh := if big1 then true else h.plausInh && h.relRun + 1 < rel })],
    (if big1 then seqs [fun _ => [.sq (Reg.HL_FLAGS act) flWarn, .cnt (Reg.HL_WARN_CNT act) 31 0 1], trigger 1 act] else skip),
    (if big2 && 3 ≤ h.t2run + 1 then engFail act 1 head wedge else skip)] s

/-- The fields of an SRV token as a run reads them. -/
def srvFields (t : SrvToken) : List Int :=
  [t.pos.val, t.status.val, t.wedge.toNat, t.track.toNat, sgn 10 t.pes.toNat, t.amp.toNat]

/-- The causes of failure after the supervised ones: an uncorrectable program word, a full queue (R153, R157, R186). [DEDUCED, log 114, unsafe] -/
def lateFail (act head wedge : Nat) (runs ecc full : Bool) : Act :=
  if runs && !full && ecc then engFail act 4 head wedge else if full then engFail act 5 head wedge else skip

/-- A decoded SRV token (R160-R167, R174, R183-R185); of several causes of failure the lowest is recorded (R186). -/
def srvDecoded (act : Nat) (t : SrvToken) (pr : Prog) (full : Bool) : Act := fun s =>
  let j := t.pos.val
  let slot := 4 * groupOf s act + j
  let x := sampleOf s act t (pr.mdl (microIn s act 2 (srvFields t) [slot]))
  let i := microIn s act 2 (srvFields t) [x.w, x.e, x.mset, x.err]
  let runs := hlRuns s act && !full
  let d := runProg s act pr i
  let rho := x.w - (s.hl act).xh / 2 ^ 30
  seqs [(if runs then microEffects act d (pr.micro i).cycles else skip),
    sampleStore act slot j x,
    fun s => [updHl act (correct s act rho)],
    (if following s act && hlRuns s act then supervise act (16 * act + slot) t.wedge.toNat rho else skip),
    lateFail act (16 * act + slot) t.wedge.toNat runs pr.ecc.isSome full,
    loadDone act, fun s => if !runs || (s.hl act).stopped then [] else
      driveAll act ((List.range 4).map (fun k => 4 * groupOf s act + k)) d s] s

/-- A missing sample (R161): the arm loop takes the observer's prediction for its measurement. -/
def srvMissing (act : Nat) (t : SrvToken) (pr : Prog) (full : Bool) : Act := fun s =>
  let j := t.pos.val
  let slot := 4 * groupOf s act + j
  let n := (s.hl act).missRun + 1
  let w := (s.hl act).xh / 2 ^ 30
  let i := microIn s act 2 (srvFields t) [w, pAhead (s.hl act) j - w, 0, 0]
  let runs := hlRuns s act && !full
  let d := runProg s act pr i
  seqs [(if runs then microEffects act d (pr.micro i).cycles else skip),
    fun _ => [.cnt (Reg.HL_MISS_CNT act) 31 0 1, .fld (Reg.HL_HEAD_ERR act slot) 15 0 0x8000,
      updHl act (fun h => { h with missRun := n, missed := setAt h.missed j true, loadW := setAt h.loadW j [] })],
    (if hlRuns s act && max 1 (s.fld (Reg.HL_SUP act) 31 24) ≤ n then engFail act 2 (16 * act + slot) t.wedge.toNat else skip),
    lateFail act (16 * act + slot) t.wedge.toNat runs pr.ecc.isSome full,
    fun s => if !runs || (s.hl act).stopped then [] else
      driveAll act (((List.range 4).filter (· ≠ j)).map (fun k => 4 * groupOf s act + k)) d s] s

/-- What an SRV token does (R159-R167). -/
def srvBody (a : Nat) (tok : SrvToken) (bytes : List Byte) (pr : Prog) (full : Bool) : Act := seqs [
  fun _ => [updHl a (fun h => { h with acc := { h.acc with srv := some bytes, others := h.acc.others + 1 } })],
  if tok.status.val = 0 then srvDecoded a tok pr full else srvMissing a tok pr full]

/-- SRV_TRIG rises and falls with an expected wedge of a position of the followed group (R489). [DESIGN CHOICE, log 128, safe] -/
def srvPulse (a : Nat) : Act := fun _ => [.emit (.srvTrig a true), .emit (.srvTrig a false)]

/-- SRV_TOKEN_RUN (R159-R167, R489): the token of an enabled lane's expected wedge. -/
def execSrvTokenRun (act : Fin 4) (tok : SrvToken) (ecc : Option Nat) (s : State) : Res :=
  let a := act.val
  run (fun s =>
    if !hlUp s a || hlReplay s a || !(enabledPos s a).contains tok.pos.val then []
    else seqs [srvPulse a,
      takeToken a (fun full s => srvBody a tok (srvBytes (s.hl a).tokNo tok) (theProg ecc) full s)] s) s

/-- The profile moves by one PRF token (R176-R180). [DEDUCED, log 87, unsafe] -/
def profileRun (act : Nat) : Act := fun s =>
  let h := s.hl act
  let rpm0 := s.fld (Reg.HL_SPIN act) 31 16 * s.fld (Reg.HL_SPIN act) 9 0 = 0
  let hh := pgH s act (s.fresh % 2 ^ 40)
  let lim := pgLimits s act hh
  let t := s.fld (Reg.PG_TGT act) 23 0
  let lo := s.fld (Reg.PG_TRK_LO act) 23 0
  let hi := s.fld (Reg.PG_TRK_HI act) 23 0
  let tgt := max lo (min hi t)
  let o := pgStep lim ((tgt : Int) * q24) h.p h.v h.a (s.fld (Reg.PG_STAT act) 2 0)
  (if rpm0 then [.draw] else []) ++
  [updHl act (fun h => { h with p := o.p, v := o.v, a := o.a }),
   .reg (Reg.PG_POS act) (w32 (enc 32 (o.p / 65536))),
   .reg (Reg.PG_STAT act) (w32 (enc 16 (divTZ o.v hh) * 65536 + o.mode))] ++
  (if tgt ≠ t || o.clip then [.sq (Reg.HL_FLAGS act) flClip] else []) ++
  (if o.arrive then [.sq (Reg.HL_FLAGS act) flArrive] else [])

/-- The followed group and its active set, as one number. -/
def setSel (s : State) (act : Nat) : Nat := 16 * groupOf s act + s.fld (Reg.EBB_STAT act (groupOf s act)) 15 12

/-- The tide centre takes its value; after a change of the active set or GROUP it moves there by at most 2/64 track per PRF token
(R165). -/
def centreSlew (act : Nat) : Act := fun s =>
  let h := s.hl act
  let t := tideCentre s act
  let c := if h.slew || h.sel ≠ setSel s act then h.c + clampI (-8) 8 (t - h.c) else t
  [updHl act (fun h => { h with c := c, sel := setSel s act, slew := c != t })]

/-- What a PRF token does (R164, R172, R176-R180, R202): the fixed-function units act at every token, the program while the
microcode runs. -/
def prfBody (a : Nat) (wedge : Nat) (pr : Prog) (full : Bool) : Act := seqs [
  fun s => [.upd (fun d => { d with hl := modAt d.hl a (fun h => { h with
      senseL := h.sense,
      satAge := h.satAge.map (fun n => min 64 (n + 1)),
      acc := { h.acc with prf := some wedge, prfFirst := h.acc.srv.isNone, others := h.acc.others + 1 } }) }),
    .fld (Reg.HL_CYC_MAX a) 15 0 (max (s.fld (Reg.HL_CYC_MAX a) 15 0) (min 65535 (s.hl a).cycles)),
    updHl a (fun h => { h with cycles := 0 })],
  rampStep a,
  fun s =>
    let i := microIn s a 3 (wedge :: (s.hl a).senseL) []
    let runs := hlRuns s a && !full
    let d := runProg s a pr i
    seqs [(if runs then microEffects a d (pr.micro i).cycles else skip),
      lateFail a 0 wedge runs pr.ecc.isSome full,
      profileRun a, centreSlew a, ageWindows a,
      fun s => if !runs || (s.hl a).stopped then [] else
        driveAll a ((List.range 16).filter (fun i => i / 4 ≠ groupOf s a)) d s] s]

/-- PRF_TOKEN_RUN (R172, R178, R202): one per wedge interval, with the SENSE values of all slots. -/
def execPrfTokenRun (act : Fin 4) (wedge : BitVec 10) (ecc : Option Nat) (s : State) : Res :=
  let a := act.val
  run (fun s => if !hlUp s a || hlReplay s a then [] else takeToken a (prfBody a wedge.toNat (theProg ecc)) s) s

/-! Commands: links. -/

/-- VC_CURRENT_FRAME (R169-R171): a valid value is carried by the next CUR token; a bad CRC is counted. -/
def execVcCurrentFrame (act : Fin 4) (value : BitVec 16) (crcOk : Bool) (s : State) : Res :=
  run (fun s =>
    if !hlUp s act.val || !s.bit (Reg.HL_CTL act.val) 2 then []
    else if !crcOk then [.cnt (Reg.HL_CRC_CNT act.val) 31 16 1]
    else [updHl act.val (fun h => { h with current := sgn 16 value.toNat, curFresh := true })]) s

/-- VC_STATUS_FRAME (R171, R185): RETRACTING or FAULT before any UNLOAD fails the engine with MPD; PARKED ends an unload. -/
def execVcStatusFrame (act : Fin 4) (value : BitVec 16) (crcOk : Bool) (s : State) : Res :=
  let a := act.val
  run (fun s =>
    if !hlUp s a || !s.bit (Reg.HL_CTL a) 2 then []
    else if !crcOk then [.cnt (Reg.HL_CRC_CNT a) 31 16 1]
    else if (value.getLsbD 2 || value.getLsbD 3) && !(s.hl a).sentUnload then engFail a 6 0 0 s
    else if value.getLsbD 0 && (hlState s a = 3 || hlState s a = 4) && (s.hl a).park ≠ 0 then enterParked a false s
    else []) s

/-- PARK_TIMEOUT (R185, steps 5 and 6), after a failure; an unload without one has steps 3 and 4 alone (R175). [DEDUCED, log 88, unsafe] -/
def execParkTimeout (act : Fin 4) (s : State) : Res :=
  let a := act.val
  run (fun s =>
    if !hlUp s a then []
    else if hlState s a ≠ 4 then []
    else if (s.hl a).park = 1 then [updHl a (fun h => { h with park := 2 })]
    else if (s.hl a).park = 2 then enterParked a true s
    else []) s

/-- MS_SENSE_FRAME (R173): a slot's SENSE value, or a bad frame counted. -/
def execMsSenseFrame (act : Fin 4) (slot : Fin 16) (value : BitVec 16) (crcOk : Bool) (s : State) : Res :=
  run (fun s =>
    if !hlUp s act.val || !s.bit (Reg.HL_CTL act.val) 1 then []
    else if !crcOk then [.cnt (Reg.HL_CRC_CNT act.val) 15 0 1]
    else [updHl act.val (fun h => { h with sense := setAt h.sense slot.val (sgn 16 value.toNat) })]) s

/-- A write of HL_FLAGS (R35, R182, R187): one that would clear PLAUS_FAIL is ignored until the engine is PARKED; HL_SAT_SRC clears
with SAT_OUT. -/
def hHlFlags (act : Nat) (data : Word) : Act := fun s =>
  if hlState s act ≠ 0 && data.bit 5 && s.bit (Reg.HL_FLAGS act) 5 then []
  else seqs [plainWrite (Reg.HL_FLAGS act) data,
    fun s' => if s.bit (Reg.HL_FLAGS act) 1 && !s'.bit (Reg.HL_FLAGS act) 1 then [.reg (Reg.HL_SAT_SRC act) 0] else []] s

/-- HL_FLAGS_WRITE (R187). -/
def execHlFlagsWrite (init : Initiator) (act : Fin 4) (data : Word) (s : State) : Res :=
  run (wrAccess init (Reg.HL_FLAGS act.val) (hHlFlags act.val data)) s

/-- RAMP_GO (R202): a write of HL_RAMP_CTL with GO set. [DEDUCED, log 12, unsafe] -/
def execRampGo (init : Initiator) (act : Fin 4) (data : Word) (s : State) : Res :=
  run (wrAccess init (Reg.HL_RAMP_CTL act.val) (hRamp act.val (data ||| 1))) s

end Sys2Proof.Machine
end

