-- ==== Sys2Proof/Machine/Breakwater.lean ====
section
/-! DEFINITION. The start-budget arbiter Breakwater (R430-R435, R437, R438, R537). -/

namespace Sys2Proof.Machine

/-- Change Breakwater's and the power states' own state. -/
def updPwr (g : PwrD → PwrD) : Eff := .upd (fun d => { d with pwr := g d.pwr })

/-- The budget of a rail. -/
def bwBudget (s : State) (r : Nat) : Nat := s.fld (Reg.BW_BUDGET r) 15 0

/-- Tokens a rail has given out. -/
def bwUsed (p : PwrD) (r : Nat) : Nat := (p.holds.filter (fun h => h.rail == r)).foldl (fun n h => n + h.cost) 0

/-- Free tokens of a rail; below zero after a budget is lowered (R433). -/
def bwFree (s : State) (r : Nat) : Int := (bwBudget s r : Int) - bwUsed s.dyn.pwr r

/-- Show the free tokens (BW_FREE). -/
def bwMirror : Act := fun s => (List.range 4).map (fun r => .fld (Reg.BW_FREE r) 16 0 (enc 17 (bwFree s r)))

/-- Breakwater enforces budgets (BW_CTL.EN). -/
def bwOn (s : State) : Bool := s.bit Reg.BW_CTL 16

/-- A request a rail considers next: the oldest of the highest priority (R431). [DEDUCED, log 67, safe] -/
def bwHead (s : State) (r : Nat) : Option BwReq :=
  let w := s.dyn.pwr.queue.filter (fun q => q.rail == r)
  let top := w.foldl (fun m q => min m q.prio) 3
  w.find? (fun q => q.prio == top)

/-- The tokens a grant takes now, if it may be made (R431, R433). [DEDUCED, log 67, safe] -/
def bwTake (s : State) (q : BwReq) : Option Nat :=
  if q.stag then none
  else if !bwOn s then some 0
  else if bwBudget s q.rail < q.cost then (if bwUsed s.dyn.pwr q.rail = 0 then some (bwBudget s q.rail) else none)
  else if (q.cost : Int) ≤ bwFree s q.rail then some q.cost
  else none

/-- A grant is made (R431, R433-R435). -/
def bwGrant (q : BwReq) (take : Nat) (waited : Bool) : Act := fun s =>
  let us := s.dyn.us
  (if bwOn s && bwBudget s q.rail < q.cost then [.sq Reg.BW_STAT 1] else []) ++
  [.cnt Reg.BW_GRANT_CNT 31 0 1] ++ (if waited then [.cnt Reg.BW_WAIT_CNT 31 0 1] else []) ++
  [.reg Reg.BW_MAXWAIT (w32 (max (s.reg Reg.BW_MAXWAIT).toNat (min 0xFFFFFFFF (us - q.at_)))),
   updPwr (fun p => { p with
     queue := p.queue.erase q,
     raised := if q.sw then p.raised else p.raised.filter (fun x => x != (q.cls, q.idx)),
     holds := if take = 0 then p.holds else p.holds ++ [⟨q.rail, take, 10 * us + q.hold⟩],
     granted := if q.sw then p.granted else p.granted ++ [(q.cls, q.idx)],
     spin1 := p.spin1 && q.cls != 4 })] ++
  (if q.sw then [.fld Reg.BW_SWSTAT 1 0 2, .sq Reg.BW_STAT 4] else [])

/-- Grant what a rail can grant, at most n times; a request considered and not granted keeps later ones waiting (R431). -/
def bwRail (r : Nat) (new : Option BwReq) : Nat → Act
  | 0 => skip
  | n + 1 => fun s =>
    match (if bwOn s then bwHead s r else (s.dyn.pwr.queue.find? (fun q => q.rail == r && !q.stag))) with
    | none => []
    | some q =>
      match bwTake s q with
      | none => []
      | some t => seqs [bwGrant q t (some q != new), bwRail r new n] s

/-- Grant on every rail (R431: each independently). `new` is the request that arrives now. -/
def bwRun (new : Option BwReq) : Act := fun s =>
  let n := s.dyn.pwr.queue.length
  seqs [bwRail 0 new n, bwRail 1 new n, bwRail 2 new n, bwRail 3 new n, bwMirror] s

/-- The stagger delay of this slot in µs (R435). -/
def stagDelay (s : State) : Nat := s.dyn.rst.slotId.toNat * s.fld Reg.BW_CTL 15 0 * 100000

/-- A request as it arrives (R431, R435). -/
def bwMake (s : State) (cls idx : Nat) (sw : Bool) : BwReq :=
  let c := s.reg (Reg.BW_CLASS cls)
  let late := s.dyn.pwr.spin1 && !s.dyn.pwr.stagOk && s.dyn.us < s.dyn.pwr.d1us.getD s.dyn.us + stagDelay s
  let wake := s.bit Reg.BW_SLOT 0 && s.dyn.pwr.ps == 5 && 0 < stagDelay s
  { cls := cls, idx := idx, rail := c.fld 31 30, prio := c.fld 29 28, cost := s.fld (Reg.BW_COST cls) 15 0,
    hold := c.fld 19 0 * (if c.bit 20 then 10000 else 1), at_ := s.dyn.us, sw := sw,
    stag := cls == 4 && (late || wake) }

/-- A request reaches Breakwater (R431). [DEDUCED, log 67, safe] -/
def bwArrive (cls idx : Nat) (sw : Bool) : Act := fun s =>
  let q := bwMake s cls idx sw
  seqs [fun _ => [updPwr (fun p => { p with queue := p.queue ++ [q] })], bwRun (some q)] s

/-- The starts still raised arrive as Breakwater is released, in ascending class, then requester index (R432, R537); each rail's
free tokens equal its budget. -/
def bwRelease : Act := fun s =>
  let rs := (List.range 5).flatMap (fun c => ((List.range 64).filter (fun i => s.dyn.pwr.raised.contains (c, i))).map (fun i => (c, i)))
  seqs [fun s => [updPwr (fun p => { p with queue := rs.map (fun x => bwMake s x.1 x.2 false) })], bwRun none] s

/-- A requester raises a start; it stays raised until granted (R537). -/
def bwRaise (cls idx : Nat) : Eff := updPwr (fun p =>
  if p.raised.contains (cls, idx) then p else { p with raised := p.raised ++ [(cls, idx)] })

/-- A requester withdraws a start that has not been granted. -/
def bwWithdraw (cls idx : Nat) : Eff := updPwr (fun p => { p with
    raised := p.raised.filter (fun x => x != (cls, idx)),
    queue := p.queue.filter (fun q => q.sw || q.cls != cls || q.idx != idx) })

/-- A requester has been granted its start. -/
def hasGrant (s : State) (cls idx : Nat) : Bool := s.dyn.pwr.granted.contains (cls, idx)

/-- A requester takes up its grant. [DEDUCED, log 67, safe] -/
def useGrant (cls idx : Nat) : Eff := updPwr (fun p => { p with granted := p.granted.filter (fun x => x != (cls, idx)) })

/-- BW_REQUEST (R431): a start request reaches Breakwater and is granted or queued. One already waiting there stays. -/
def execBwRequest (cls : StartClass) (idx : Fin 64) (s : State) : Res :=
  run (fun s =>
    if !s.up 3 || s.dyn.pwr.queue.any (fun q => !q.sw && q.cls == cls.idx && q.idx == idx.val) then []
    else seqs [fun _ => [bwRaise cls.idx idx.val], bwArrive cls.idx idx.val false] s) s

/-- The hold of a rail that ends first. -/
def bwFirstHold (s : State) (r : Nat) : Option BwHold :=
  let w := s.dyn.pwr.holds.filter (fun h => h.rail == r)
  let t := w.foldl (fun m h => min m h.till) (w.headD ⟨0, 0, 0⟩).till
  w.find? (fun h => h.till == t)

/-- BW_HOLD_END (R431): the hold that ends first on a rail returns its tokens, and waiting requests are granted. [DESIGN CHOICE, log 73, unsafe] -/
def execBwHoldEnd (rail : Fin 4) (s : State) : Res :=
  run (fun s =>
    match bwFirstHold s rail.val with
    | none => []
    | some h =>
      if s.up 3 then seqs [fun _ => [updPwr (fun p => { p with holds := p.holds.erase h })], bwRun none] s else []) s

/-- A write of BW_SWREQ (R434). -/
def hBwSwreq (data : Word) : Act := fun s =>
  if 4 < data.fld 2 0 then []
  else if s.bit Reg.BW_SWSTAT 0 then [.sq Reg.BW_STAT 2]
  else seqs [fun _ => [.fld Reg.BW_SWSTAT 1 0 1], bwArrive (data.fld 2 0) (data.fld 15 8) true] s

/-- BW_SWREQ_WRITE (R434). -/
def execBwSwreqWrite (init : Initiator) (data : Word) (s : State) : Res :=
  run (wrAccess init Reg.BW_SWREQ (hBwSwreq data)) s

/-- SPIN_STAGGER_EXPIRY (R435): the slot's delay has passed; waiting SPIN requests may be granted. [DESIGN CHOICE, log 73, unsafe] -/
def execSpinStaggerExpiry (s : State) : Res :=
  run (fun s =>
    if s.up 3 then seqs [fun _ => [updPwr (fun p => { p with
        stagOk := true, queue := p.queue.map (fun q => { q with stag := false }) })], bwRun none] s
    else []) s

/-- BW_MAXWAIT_WRITE (Table 14.12): a write of any value clears the register. -/
def execBwMaxwaitWrite (init : Initiator) (_data : Word) (s : State) : Res :=
  run (wrAccess init Reg.BW_MAXWAIT (fun _ => [.reg Reg.BW_MAXWAIT 0])) s

end Sys2Proof.Machine
end

