-- ==== Sys2Proof/Machine/Ldpc.lean ====
section
/-! DEFINITION. The sector frame and its code: metadata (R69, Table 3.4), the LDPC matrix (R92), the frame (R67, R68). -/

namespace Sys2Proof.Machine

/-- Bytes 0-5 of a sector's metadata as a number (Table 3.4). -/
def metaWord (head band sector kind : Nat) : Nat :=
  head % 64 * 2 ^ 42 + band % 2 ^ 16 * 2 ^ 26 + sector % 2 ^ 17 * 2 ^ 9 + kind % 4 * 2 ^ 7

/-- The tag and EPOCH: metadata bytes 0-7 (Table 3.4). -/
def metaTag (head band sector kind epoch : Nat) : List Byte := leBytes 6 (metaWord head band sector kind) ++ leBytes 2 epoch

/-- The 16 metadata bytes of a sector over its user bytes (Table 3.4). -/
def metaBytes (head band sector kind epoch : Nat) (user : List Byte) : List Byte :=
  metaTag head band sector kind epoch ++ leBytes 4 (crc32c user).toNat ++ zeros 4

/-- The shift of block (r, j) of H for j < 257, or none where the block is zero (R92). -/
def hShift (r j : Nat) : Option Nat :=
  if (List.range 4).any (fun m => r == (j + 8 * m) % 31) then some ((17 * r * (j + 1) + 3 * j) % 128) else none

/-- Rotate a 128-bit block, its first bit the most significant: row t of P^s reads bit (t + s) mod 128. -/
def rotBlock (x s : Nat) : Nat := x * 2 ^ s % 2 ^ 128 + x / 2 ^ (128 - s)

/-- The 128-bit blocks of a codeword, first bit most significant. -/
def blocks : Nat → List Byte → List Nat
  | 0, _ => []
  | n + 1, bs => ofBE (fit 16 (bs.take 16)) :: blocks n (bs.drop 16)

/-- The information part of check row r: the sum of its blocks (R92). -/
def rowInfo (r : Nat) : Nat → List Nat → Nat
  | _, [] => 0
  | j, x :: xs =>
    match hShift r j with
    | some k => Nat.xor (rotBlock x k) (rowInfo r (j + 1) xs)
    | none => rowInfo r (j + 1) xs

/-- The syndrome of a codeword: 31 rows of 128 checks (R92). The parity part of row r is block 257 + r and, after the
first row, block 256 + r. [DEDUCED, log 63, unsafe] -/
def syndrome (code : List Byte) : List Nat :=
  let b := blocks 288 code
  let info := b.take 257
  let par := b.drop 257
  (List.range 31).map (fun r =>
    Nat.xor (Nat.xor (rowInfo r 0 info) (par.getD r 0)) (if r = 0 then 0 else par.getD (r - 1) 0))

/-- The number of unsatisfied checks. -/
def unsatisfied (code : List Byte) : Nat :=
  (syndrome code).foldl (fun n x => n + ((List.range 128).filter (fun i => x.testBit i)).length) 0

/-- Every check is satisfied. -/
def isCodeword (code : List Byte) : Bool := (syndrome code).all (fun x => x == 0)

/-- The 31 parity blocks of an information part: row r gives block r from the one before (R92). -/
def parityBlocks (info : List Nat) : Nat → Nat → List Nat
  | 0, _ => []
  | n + 1, prev =>
    let x := Nat.xor (rowInfo (30 - n) 0 info) prev
    x :: parityBlocks info n x

/-- The codeword of the 4,112 information bytes (R69, R92). -/
def ldpcEncode (info : List Byte) : List Byte :=
  fit 4112 info ++ (parityBlocks (blocks 257 (fit 4112 info)) 31 0).flatMap (beBytes 16)

/-- The bits of a byte string, each byte most significant bit first. -/
def bitsBE (bs : List Byte) : List Bool := bs.flatMap (fun b => (List.range 8).map (fun i => b.getLsbD (7 - i)))

/-- A 2T pattern: two bits of one value, then two of the other. -/
def twoT (n : Nat) : List Bool := (List.range n).map (fun i => i / 2 % 2 == 0)

/-- The channel bits of a frame (Table 3.3): preamble, mark A, gap, mark B, codeword, postamble. -/
def frameBits (info : List Byte) (post : List Bool) : List Bool :=
  twoT 240 ++ bitsBE (beBytes 4 0x1E7AC4B3) ++ twoT 64 ++ bitsBE (beBytes 4 0xD629F185) ++ bitsBE (ldpcEncode info) ++
    (post ++ List.replicate 32 false).take 32

/-- The checks of R97 on decoded bytes: identity, EPOCH and CRC (skipped for KIND 1), as the bits of CHECK that fail. -/
def frameChecks (head band sector kind epoch : Nat) (code : List Byte) : Nat :=
  let m := slice code 4096 16
  (if leAt m 0 6 / 2 ^ 7 = metaWord head band sector kind / 2 ^ 7 then 0 else 1) +
  (if leAt m 6 2 = epoch % 2 ^ 16 then 0 else 2) +
  (if kind = 1 || leAt m 8 4 = (crc32c (slice code 0 4096)).toNat then 0 else 4)

end Sys2Proof.Machine
end

