-- ==== Sys2Proof/Machine/Lanes.lean ====
section
/-! DEFINITION. Channel lanes (R85-R105, R115): rates, transfers, sync resolution, decoding, capture, the failure FIFO. -/

namespace Sys2Proof.Machine

/-- Change the lanes' state. -/
def updCh (g : ChanD → ChanD) : Eff := .upd (fun d => { d with ch := g d.ch })

/-- Change one lane's state. -/
def updLane (g : Nat) (h : LaneD → LaneD) : Eff := updCh (fun c => { c with lanes := modAt c.lanes g h })

/-- A lane's state. -/
def State.lane (s : State) (g : Nat) : LaneD := s.dyn.ch.lanes.getD g {}

/-- A lane's digital part runs. -/
def laneUp (s : State) (g : Nat) : Bool := s.up (38 + g)

/-- A rate a synthesiser can lock at (R86, R118). -/
def rateOk (khz : Nat) : Bool := 2200000 ≤ khz && khz ≤ 5400000

/-- A rate register takes a new word: a change of rate clears LOCK until the synthesiser locks again (R86, R118). -/
def rateSet (a : Nat) (data : Word) : Act := fun s =>
  plainWrite a data s ++ (if data.fld 22 0 = s.fld a 22 0 then [] else [.fld a 31 31 0])

/-- A write of LN_RATE (R87): deferred while the lane is transferring, else the newest word stands. -/
def hLnRate (g : Nat) (data : Word) : Act := fun s =>
  if (s.lane g).xfer.isSome then [updLane g (fun l => { l with rateNew := some data })]
  else seqs [rateSet (Reg.LN_RATE g) data, fun _ => [updLane g (fun l => { l with rateNew := none })]] s

/-- A deferred rate takes effect (R87). -/
def rateTake (g : Nat) : Act := fun s =>
  match (s.lane g).rateNew with
  | some w => seqs [rateSet (Reg.LN_RATE g) w, fun _ => [updLane g (fun l => { l with rateNew := none })]] s
  | none => []

/-- LN_RATE_WRITE (R87). -/
def execLnRateWrite (init : Initiator) (lane : Fin 16) (data : Word) (s : State) : Res :=
  run (wrAccess init (Reg.LN_RATE lane.val) (hLnRate lane.val data)) s

/-- LN_RATE_APPLY (R87): the transfer has ended and a deferred write takes effect. -/
def execLnRateApply (lane : Fin 16) (s : State) : Res :=
  let g := lane.val
  run (fun s => if laneUp s g && (s.lane g).xfer.isNone then rateTake g s else []) s

/-- SYNTH_LOCK (R86, R118): synthesiser idx (read, or write of path idx) locks where its rate is legal. -/
def execSynthLock (write : Bool) (idx : Fin 16) (s : State) : Res :=
  run (fun s =>
    let g := idx.val
    let a := if write then Reg.WP_RATE (g / 4) (g % 4) else Reg.LN_RATE g
    let dom := if write then 80 + g else 64 + g
    let blk := if write then 54 + g / 4 else 38 + g
    if s.up dom && s.up blk && rateOk (s.fld a 22 0) then [.fld a 31 31 1] else []) s

/-- A write of LN_CTL (R88, R99): setting DATA_PWR raises a LANE start, clearing it powers the data path down; a CAP_MODE
that becomes 2 arms afresh. -/
def hLnCtl (g : Nat) (data : Word) : Act := fun s =>
  let a := Reg.LN_CTL g
  seqs [plainWrite a data, fun _ => [updLane g (fun l => { l with
      pass := if data.fld 11 10 = 2 && s.fld a 11 10 ≠ 2 then 0 else l.pass, ready := l.ready && data.bit 1 })] ++
    (if data.bit 1 && !s.bit a 1 then [bwRaise 2 g]
     else if !data.bit 1 then [bwWithdraw 2 g, useGrant 2 g] else [])] s

/-- LANE_DATA_PWR_SET (R88): firmware sets DATA_PWR and leaves the other fields as they are. -/
def execLaneDataPwrSet (init : Initiator) (lane : Fin 16) (s : State) : Res :=
  run (wrAccess init (Reg.LN_CTL lane.val) (hLnCtl lane.val (s.reg (Reg.LN_CTL lane.val) ||| 2))) s

/-- LANE_POWER_UP_READY (R88): 150 µs after the grant the data path is ready. -/
def execLanePowerUpReady (lane : Fin 16) (s : State) : Res :=
  run (fun s =>
    if laneUp s lane.val && s.bit (Reg.LN_CTL lane.val) 1 && hasGrant s 2 lane.val then
      [useGrant 2 lane.val, updLane lane.val (fun l => { l with ready := true })]
    else []) s

/-! The failure FIFO and capture. -/

/-- The words of an LN_FAIL entry (Table 4.14). -/
def failEntry (f : LFrame) (slot : Option Nat) : Word × Word :=
  (w32 (f.band % 32768 * 2 ^ 17 + f.sector % 2 ^ 17),
   w32 (2 ^ 31 + f.cas % 8 * 2 ^ 28 + f.reason % 16 * 2 ^ 24 + f.iter % 16 * 2 ^ 20 + (slot.getD 0) % 8 * 2 ^ 17 +
     (if slot.isSome then 65536 else 0) + f.head % 64 * 1024))

/-- The sectors of a transfer from its `k`-th sector in band on; none when no sector remains. -/
def restOf (x : LaneXfer) (next : Nat) : Option LaneXfer :=
  if next < x.first + x.count then
    some { x with first := next, count := x.first + x.count - next, buf := x.buf + 4160 * (next - x.first) }
  else none

/-- A transfer ends at a sector boundary; what is left is reread on the next revolution (R16, R102). [DESIGN CHOICE, log 97, unsafe] -/
def cutXfer (g : Nat) : Eff := updLane g (fun l =>
  match l.xfer with
  | some x => { l with xfer := none, resume := restOf x l.next }
  | none => l)

/-- Push an LN_FAIL entry; a full FIFO sets FIFO_OVF, discards it and ends the transfer (R102). -/
def pushFail (g : Nat) (f : LFrame) (slot : Option Nat) : Act := fun s =>
  if 32 ≤ (s.lane g).fails.length then [.sq (Reg.LN_STAT g) 8, cutXfer g]
  else [updLane g (fun l => { l with fails := l.fails ++ [failEntry f slot], seen := true })]

/-- The capture mode in force: 3 acts as 1 (Table 4.10). -/
def capMode (s : State) (g : Nat) : Nat := if s.fld (Reg.LN_CTL g) 11 10 = 3 then 1 else s.fld (Reg.LN_CTL g) 11 10

/-- A decided frame is to be captured (R99). -/
def wantCap (s : State) (g : Nat) (f : LFrame) : Bool :=
  (capMode s g == 1 && f.reason != 0 && f.reason != 8) ||
  (capMode s g == 2 && f.sector == s.fld (Reg.LN_CAP_RANGE g) 16 0)

/-- The lowest-numbered free capture slot (R100). -/
def freeSlot (s : State) (g : Nat) : Option Nat := (List.range 8).find? (fun i => !s.bit (Reg.LN_CAP_SLOTS g) i)

/-- After an armed pass: the last one sets CAP_MODE to 1 (R99). -/
def armedPass (g : Nat) : Act := fun s =>
  if capMode s g ≠ 2 then []
  else if s.fld (Reg.LN_CAP_RANGE g) 19 17 ≤ (s.lane g).pass then
    [.fld (Reg.LN_CTL g) 11 10 1, updLane g (fun l => { l with pass := 0 })]
  else [updLane g (fun l => { l with pass := l.pass + 1 })]

/-- A decided frame waits for capture where R99 says so, else a failed one is reported at once (R99, R100, R102). [DESIGN CHOICE, log 105, unsafe] -/
def captureOrReport (g : Nat) (f : LFrame) : Act := fun s =>
  let report := if f.reason = 0 then skip else pushFail g f none
  if wantCap s g f then
    seqs [(match freeSlot s g, (s.lane g).cap with
        | some k, none => fun _ => [updLane g (fun l => { l with cap := some (k, f) })]
        | _, _ => seqs [fun _ => [.sq (Reg.LN_STAT g) 4], report]), armedPass g] s
  else report s

/-- Sectors in a lane's output buffer go to DRAM once it accepts them (R16, R98). -/
def flushLane (g : Nat) : Act := fun s =>
  if reqReady s && !(s.lane g).outq.isEmpty then
    seqs [each (s.lane g).outq (fun p => reqWrite .media false p.1 p.2), fun _ => [updLane g (fun l => { l with outq := [] })]] s
  else []

/-- A frame is decided with a reason of Table 4.4, or 0 for success with its 4,112 bytes (R97, R98); parity is written only where
recovery of its run needs it (R13). -/
def decide_ (g : Nat) (f : LFrame) (reason : Nat) (bytes : List Byte) : Act :=
  let f := { f with reason := reason }
  seqs [
    (if reason = 0 then
      seqs [fun _ => [.cnt (Reg.LN_SECT_CNT g) 31 0 1] ++
          (if f.kind = 1 && !f.par then [] else [updLane g (fun l => { l with outq := l.outq ++ [(f.buf, fit 4112 bytes)] })]),
        flushLane g]
    else fun _ => [.cnt (Reg.LN_FAIL_CNT g) 31 0 1, .sq (Reg.LN_STAT g) 1]),
    captureOrReport g f]

/-! Transfers. -/

/-- The kind expected of a sector in band (Table 3.4, R59): parity, spare, or the transfer's data kind. -/
def kindAt (dataKind sector : Nat) : Nat := if 67584 ≤ sector then 2 else if 64 ≤ sector % 66 then 1 else dataKind

/-- The head index a lane reads with in a group (R85). -/
def laneHead (g q : Nat) : Nat := g / 4 * 16 + 4 * q + g % 4

/-- A frame of a transfer with nothing measured. -/
def bareFrame (s : State) (g : Nat) (x : LaneXfer) (sector : Nat) : LFrame :=
  { no := s.dyn.ch.frames, head := laneHead g x.group.val, band := x.band, sector := sector, epoch := x.epoch.toNat,
    kind := kindAt x.kind.val sector, par := x.par, buf := x.buf + 4160 * (sector - x.first),
    cas := 0, d := 0, distA := 0, distB := 0, posA := none, posB := none, start := 0, eras := [], iter := 0, spans := [], wedge := none,
    rate := s.fld (Reg.LN_RATE g) 22 0, skew := (s.lane g).skew, freq := 0, cur0 := 0, cur1 := 0, taps := [] }

/-- Every sector of a transfer on an unlocked lane fails with NOT_READY (R87), up to a FIFO overflow (R102). The frame was
never received: its CASE is a free value, and no iteration was spent on it. -/
def notReady (g : Nat) (x : LaneXfer) : Nat → Nat → Act
  | 0, _ => skip
  | n + 1, sector => fun s =>
    if 32 ≤ (s.lane g).fails.length then
      [.cnt (Reg.LN_FAIL_CNT g) 31 0 1, .sq (Reg.LN_STAT g) 9,
       updLane g (fun l => { l with resume := restOf x (sector + 1) })]
    else
      let f := { bareFrame s g x sector with reason := 8, cas := s.fresh % 8 }
      seqs [fun _ => [.draw, .cnt (Reg.LN_FAIL_CNT g) 31 0 1, .sq (Reg.LN_STAT g) 1], pushFail g f none,
        notReady g x n (sector + 1)] s

/-- Another transfer of the actuator excludes this one: another group's read, or a write (R14). -/
def readExcluded (s : State) (g q : Nat) : Bool :=
  ((s.dyn.wa.getD (g / 4) {}).paths.any (fun p => p.on)) ||
  (List.range 4).any (fun j =>
    match (s.lane (g / 4 * 4 + j)).xfer with
    | some x => x.group.val != q
    | none => false)

/-- A transfer starts on the rate in force (R87, R89): every adaptive value is loaded from its seed. -/
def beginXfer (g : Nat) (x : LaneXfer) : Act := fun s =>
  if !s.bit (Reg.LN_RATE g) 31 then notReady g x (min x.count 33) x.first s
  else
    let s0 := s.reg (Reg.LN_SEED0 g)
    let s0 := (s0.setFld 31 24 (min 240 (s0.fld 31 24))).setFld 23 16 (min 240 (s0.fld 23 16))
    [.reg (Reg.LN_CUR0 g) s0, .reg (Reg.LN_CUR1 g) (s.reg (Reg.LN_SEED1 g)), .reg (Reg.LN_TIMING g) 0] ++
    (List.range 24).map (fun i => .fld (Reg.LN_EQ_TAP g i) 27 16 (s.fld (Reg.LN_EQ_TAP g i) 11 0)) ++
    [updLane g (fun l => { l with xfer := some x, next := x.first, skew := s.fld (Reg.LN_SKEW g) 10 0 })]

/-- A transfer starts: a rate still deferred takes effect first (R87), and the group's heads are selected (R85). -/
def startXfer (g : Nat) (x : LaneXfer) : Act := seqs [rateTake g, selHeads (g / 4) x.group.val, beginXfer g x]

/-- A transfer can start on a lane: enabled, data path ready, idle, its position transfers (R79), nothing excludes it (R14). -/
def canStart (s : State) (g : Nat) (x : LaneXfer) : Bool :=
  laneUp s g && s.bit (Reg.LN_CTL g) 0 && (s.lane g).ready && (s.lane g).xfer.isNone && x.count != 0 &&
  (activeSet s (g / 4) x.group.val).contains (g % 4) && !readExcluded s g x.group.val

/-- LANE_TRANSFER_START (R89). -/
def execLaneTransferStart (lane : Fin 16) (xfer : LaneXfer) (s : State) : Res :=
  run (fun s => if canStart s lane.val xfer then
    seqs [fun _ => [updLane lane.val (fun l => { l with resume := none })], startXfer lane.val xfer] s else []) s

/-- LANE_DRAM_STALL_CUT (R16): two sectors undelivered end the transfer at the boundary. -/
def execLaneDramStallCut (lane : Fin 16) (s : State) : Res :=
  run (seqs [flushLane lane.val, fun s =>
    if laneUp s lane.val && 2 ≤ (s.lane lane.val).outq.length then [cutXfer lane.val] else []]) s

/-- SECTOR_REREAD (R16): the remaining sectors of a cut transfer are read on the next revolution. -/
def execSectorReread (lane : Fin 16) (s : State) : Res :=
  run (seqs [flushLane lane.val, fun s =>
    match (s.lane lane.val).resume with
    | some x =>
      if canStart s lane.val x then
        seqs [fun _ => [updLane lane.val (fun l => { l with resume := none })], startXfer lane.val x] s
      else []
    | none => []]) s

/-! Frames. -/

/-- WIN and TOL in force (Table 4.10). -/
def syncWin (s : State) (g : Nat) : Nat := max 8 (min 47 (s.fld (Reg.LN_SYNC g) 21 16))
/-- The accepted Hamming distance. -/
def syncTol (s : State) (g : Nat) : Nat := min 8 (s.fld (Reg.LN_SYNC g) 12 8)

/-- The CASE of Table 4.3. -/
def syncCase : Option Int → Option Int → Nat
  | none, none => 5
  | some _, none => 1
  | none, some _ => 2
  | some a, some b => if b - a - 96 = 0 then 0 else if (b - a - 96).natAbs ≤ 3 then 3 else 4

/-- The reference is mark B (Table 4.3). -/
def refIsB (cas distA distB : Nat) : Bool := cas == 2 || ((cas == 3 || cas == 4) && distB ≤ distA)

/-- A code clamped to Table 4.1: gains at most 240, signed bytes at least -127. -/
def clampGain (w : Word) (hi lo : Nat) : Word := w.setFld hi lo (min 240 (w.fld hi lo))
/-- A signed byte field clamped to -127. -/
def clampByte (w : Word) (hi lo : Nat) : Word := if w.fld hi lo = 128 then w.setFld hi lo 129 else w

/-- An early hard decision at a bit position (R93). -/
def earlyBit (e : BitVec 224) (pos : Int) : Bool := e.getLsbD (pos - 192).toNat

/-- The Hamming distance of a mark from the decisions at a position; the mark is written most significant bit first (R68, R93). -/
def markDist (e : BitVec 224) (mark : Nat) (pos : Int) : Nat :=
  ((List.range 32).filter (fun (i : Nat) => earlyBit e (pos + (i : Int)) != mark.testBit (31 - i))).length

/-- The position of least distance within WIN of the nominal one, the earliest on a tie, with that distance (R93). -/
def searchMark (e : BitVec 224) (mark : Nat) (nominal : Int) (win : Nat) : Int × Nat :=
  (List.range (2 * win + 1)).foldl (fun b (i : Nat) =>
    let p := nominal - win + (i : Int)
    if markDist e mark p < b.2 then (p, markDist e mark p) else b) (nominal - win, markDist e mark (nominal - win))

/-- Both searches of R93, for a window and a tolerance: the positions accepted, and the least distances. -/
def searchBoth (e : BitVec 224) (win tol : Nat) : Option Int × Option Int × Nat × Nat :=
  let a := searchMark e 0x1E7AC4B3 240 win
  let b := searchMark e 0xD629F185 336 win
  (if a.2 ≤ tol then some a.1 else none, if b.2 ≤ tol then some b.1 else none, a.2, b.2)

/-- The codeword start (R94): from the reference mark; 368 without one. -/
def codeStart (pa pb : Option Int) (isB : Bool) : Int :=
  match (if isB then pb.map (· + 32) else pa.map (· + 128)) with
  | some p => p
  | none => 368

/-- The asperity spans of one excursion (R91): a span starts 16 bits before the fourth consecutive sample that deviates by more than
TA_THR, and ends 32 bits after the baseline returns. `i` is the present sample, `n` the samples above so far, `b` an open span. -/
def taScan (thr : Nat) : Nat → Nat → Option Nat → List Nat → List (Nat × Nat)
  | i, _, some b, [] => [(b, i + 32 - b)]
  | _, _, none, [] => []
  | i, n, b, d :: ds =>
    if thr < d then taScan thr (i + 1) (n + 1) (if b.isNone && n + 1 = 4 then some (i - 16) else b) ds
    else match b with
      | some k => (k, i + 32 - k) :: taScan thr (i + 1) 0 none ds
      | none => taScan thr (i + 1) 0 none ds

/-- The asperity spans of a frame, each a start sample and a length. -/
def taSpans (thr : Nat) (base : List (Nat × List Nat)) : List (Nat × Nat) := base.flatMap (fun e => taScan thr e.1 0 none e.2)

/-- The codeword bits spans erase (R91, R109): bit 0 lies `start` bits, and the samples begin 512 cycles, from the nominal frame. -/
def spanBits (start : Int) (spans : List (Nat × Nat)) : List (Nat × Nat) :=
  spans.filterMap (fun x =>
    let lo := max 0 ((x.1 : Int) - 512 - start)
    let hi := min 36864 ((x.1 + x.2 : Nat) - 512 - start)
    if lo < hi then some (lo.toNat, (hi - lo).toNat) else none)

/-- A wedge that splits a frame lies inside its codeword (R70), which begins 512 + 368 samples into the record. -/
def wedgeIn (w : Option (Nat × Nat)) : Option (Nat × Nat) := w.filter (fun x => 880 < x.1 && x.1 < 37744)

/-- A value stands at a limit of Table 4.1: gains 0 and 240, offsets and asymmetries ±127, taps ±4, frequency ±20,000. -/
def atLimit (c0 c1 : Word) (taps : List (BitVec 12)) (f : Int) (frozen : Bool) : Bool :=
  let gain (n : Nat) : Bool := n == 0 || n == 240
  let byte (n : Nat) : Bool := (sgn 8 n).natAbs == 127
  f.natAbs == 20000 || (!frozen && (gain (c0.fld 31 24) || gain (c0.fld 23 16) || byte (c0.fld 15 8) || byte (c0.fld 7 0) ||
    byte (c1.fld 15 8) || byte (c1.fld 7 0) || taps.any (fun t => t == 0x800 || t == 0x7FF)))

/-- The working values after a frame (R90): those reached, within the limits; held while FREEZE is 1, but for timing. A value at a
limit sets LIMIT. -/
def adapt (g : Nat) (a : Arrival) : Act := fun s =>
  let c0 := clampByte (clampByte (clampGain (clampGain a.cur0 31 24) 23 16) 15 8) 7 0
  let c1 := clampByte (clampByte (a.cur1 &&& 0xFFFF) 15 8) 7 0
  let f := clampI (-20000) 20000 (sgn 16 a.freq.toNat)
  (if s.bit (Reg.LN_CTL g) 15 then [] else
    [.reg (Reg.LN_CUR0 g) c0, .reg (Reg.LN_CUR1 g) c1] ++
    ((List.range 24).zip a.taps).map (fun p => .fld (Reg.LN_EQ_TAP g p.1) 27 16 p.2.toNat)) ++
  [.fld (Reg.LN_TIMING g) 15 0 (enc 16 f)] ++ (if atLimit c0 c1 a.taps f (s.bit (Reg.LN_CTL g) 15) then [.sq (Reg.LN_STAT g) 32] else [])

/-- The frame as received (R91, R93, R94, Table 4.5). The spacing of marks that were not both accepted is a free value. -/
def mkFrame (s : State) (g : Nat) (x : LaneXfer) (a : Arrival) : LFrame :=
  let m := searchBoth a.early (syncWin s g) (syncTol s g)
  let pa := m.1
  let pb := m.2.1
  let da := m.2.2.1
  let db := m.2.2.2
  let start := codeStart pa pb (refIsB (syncCase pa pb) da db)
  let spans := taSpans (s.fld (Reg.LN_ADAPT g) 31 24) a.base
  { bareFrame s g x a.sector with
    cas := syncCase pa pb
    d := (match pa, pb with
      | some p, some q => clampI (-127) 127 (q - p - 96)
      | _, _ => sgn 8 s.fresh)
    distA := da, distB := db, posA := pa, posB := pb, start := start, spans := spans, eras := spanBits start spans,
    wedge := wedgeIn a.wedge,
    freq := s.fld (Reg.LN_TIMING g) 15 0, cur0 := s.reg (Reg.LN_CUR0 g), cur1 := s.reg (Reg.LN_CUR1 g),
    taps := (List.range 24).map (fun i => s.fld (Reg.LN_EQ_TAP g i) 27 16) }

/-- What a frame's marks and asperity spans record (R91, R94, Table 4.13): REF is free where no mark is the reference. -/
def frameLog (g : Nat) (f : LFrame) : Act := fun s =>
  let ref := if f.cas = 5 then s.fresh % 2 else if refIsB f.cas f.distA f.distB then 1 else 0
  [.reg (Reg.LN_SYNC_LAST g) (w32 (f.cas * 2 ^ 29 + enc 8 f.d * 2 ^ 21 + f.distA % 64 * 2 ^ 15 + f.distB % 64 * 2 ^ 9 + ref * 256)),
   .draw, .cnt (Reg.LN_CASE_CNT g f.cas) 31 0 1, .cnt (Reg.LN_TA_CNT g) 31 0 f.spans.length] ++
  (if f.spans.isEmpty then [] else [.sq (Reg.LN_STAT g) 16]) ++ (if f.cas = 5 then [.sq (Reg.LN_STAT g) 2] else [])

/-- A frame enters the lane (R91, R94, R96): a fourth undecided frame fails the oldest; a frame without a mark or with more
than 4 asperity spans fails at once. [DESIGN CHOICE, log 103, unsafe] -/
def enterFrame (g : Nat) (f : LFrame) : Act := fun s =>
  seqs [
    (match (s.lane g).frames with
      | o :: rest =>
        if 2 ≤ rest.length then
          seqs [fun _ => [updLane g (fun l => { l with frames := rest })], decide_ g o 2 []]
        else skip
      | [] => skip),
    frameLog g f,
    (if f.cas = 5 then decide_ g f 3 []
     else if 4 < f.spans.length then decide_ g f 7 []
     else fun _ => [updLane g (fun l => { l with frames := l.frames ++ [f] })])] s

/-- The transfer moves past a sector, and ends after its last one. -/
def advance (g : Nat) : Eff := updLane g (fun l =>
  match l.xfer with
  | some x => { l with next := l.next + 1, xfer := if l.next + 1 < x.first + x.count then some x else none }
  | none => l)

/-- FRAME_ARRIVAL (R91, R93, R94, R96): the next frame of the transfer has arrived. -/
def execFrameArrival (lane : Fin 16) (arr : Arrival) (s : State) : Res :=
  let g := lane.val
  run (seqs [flushLane g, fun s =>
    match (s.lane g).xfer with
    | some x =>
      if laneUp s g && arr.sector = (s.lane g).next then
        seqs [adapt g arr, fun s =>
          let f := mkFrame s g x arr
          seqs [fun _ => [.draw, updCh (fun c => { c with frames := c.frames + 1 }), advance g], enterFrame g f] s] s
      else []
    | none => []]) s

/-- The iteration limit in force (Table 4.10). -/
def maxIter (s : State) (g : Nat) : Nat :=
  let n := s.fld (Reg.LN_ITER g) 3 0
  if n = 0 || 12 < n then 12 else n

/-- GLOBAL_ITERATION (R95, R97): one iteration on the oldest undecided frame leaves the hard decisions given. [DESIGN CHOICE, log 104, unsafe] -/
def execGlobalIteration (lane : Fin 16) (hard : List Byte) (s : State) : Res :=
  let g := lane.val
  run (seqs [flushLane g, fun s =>
    match (s.lane g).frames with
    | o :: rest =>
      let f := { o with iter := o.iter + 1 }
      let code := fit 4608 hard
      let chk := frameChecks f.head f.band f.sector f.kind f.epoch code
      let out := fun reason => seqs [fun _ => [updLane g (fun l => { l with frames := rest })], decide_ g f reason code]
      if !laneUp s g then []
      else seqs [fun _ => [.cnt (Reg.LN_ITER_CNT g) 31 0 1],
        (if isCodeword code then
          out (if chk % 2 = 1 then 4 else if chk / 2 % 2 = 1 then 5 else if chk / 4 = 1 then 6 else 0)
        else if maxIter s g ≤ f.iter then out 1
        else fun _ => [updLane g (fun l => { l with frames := f :: rest })])] s
    | [] => []]) s

/-! Capture records. -/

/-- The lane whose frame waits for capture and ended first (R101). -/
def nextCapture (s : State) : Option Nat :=
  (List.range 16).foldl (fun best g =>
    match (s.lane g).cap with
    | none => best
    | some c =>
      match best with
      | none => some g
      | some b => if c.2.no < ((s.lane b).cap.map (fun x => x.2.no)).getD 0 then some g else best) none

/-- CAPTURE_WRITE_START (R101): the capture writer takes the waiting record whose frame ended first. -/
def execCaptureWriteStart (s : State) : Res :=
  run (fun s =>
    match s.dyn.ch.writing, nextCapture s with
    | none, some g => if laneUp s g && reqReady s then [updCh (fun c => { c with writing := some g })] else []
    | _, _ => []) s

/-- The sample pairs of a record (R105): those of the wedge are left out, and at most 40,960 are kept. -/
def recSamples (f : LFrame) (raw : List (BitVec 7 × BitVec 7)) : List (BitVec 7 × BitVec 7) :=
  (match f.wedge with
    | some w => raw.take w.1 ++ raw.drop (w.1 + w.2)
    | none => raw).take 40960

/-- A 7-bit sample, sign-extended (Table 4.5). -/
def sampleByte (x : BitVec 7) : Byte := b8 (enc 8 (sgn 7 x.toNat))

/-- The record of a frame (Table 4.5), from the samples since 512 ADC cycles before its nominal first preamble bit. [DESIGN CHOICE, log 106, unsafe] -/
def captureRecord (s : State) (g : Nat) (f : LFrame) (raw : List (BitVec 7 × BitVec 7)) : List Byte :=
  let samples := recSamples f raw
  let pos := fun (p : Option Int) => leBytes 2 (match p with
    | some v => enc 16 v
    | none => 0x7FFF)
  let span := fun (i : Nat) => (f.spans[i]?).getD (0, 0)
  [b8 g, b8 f.head] ++ leBytes 2 f.band ++ leBytes 4 f.sector ++ leBytes 2 f.epoch ++
  [b8 f.kind, b8 f.reason, b8 f.cas, b8 (enc 8 f.d), b8 f.distA, b8 f.distB] ++ pos f.posA ++ pos f.posB ++
  leBytes 4 f.rate ++ leBytes 2 (match f.wedge with
    | some w => w.1
    | none => 0xFFFF) ++ leBytes 2 (match f.wedge with
    | some w => w.2
    | none => 0) ++ leBytes 2 samples.length ++
  [b8 f.iter, b8 (min 4 f.spans.length)] ++ leBytes 2 (enc 16 (sgn 11 f.skew)) ++ leBytes 2 f.freq ++ leBytes 4 f.cur0.toNat ++
  leBytes 2 f.cur1.toNat ++ (List.range 5).flatMap (fun i => leBytes 2 (enc 16 (sgn 12 (s.fld (Reg.LN_TARGET g i) 11 0)))) ++
  (List.range 4).flatMap (fun i => leBytes 2 (span i).1 ++ leBytes 2 (span i).2) ++ zeros 12 ++
  (List.range 24).flatMap (fun i => leBytes 2 (enc 16 (sgn 12 (f.taps.getD i 0)))) ++
  samples.flatMap (fun p => [sampleByte p.1, sampleByte p.2])

/-- CAPTURE_RECORD_DONE (R102, R105): the record is in DRAM in whole bursts, the slot is full, a failed frame's entry is pushed.
Bytes after the last sample of the last burst are free. [DEDUCED, log 69, unsafe] -/
def execCaptureRecordDone (samples : List (BitVec 7 × BitVec 7)) (s : State) : Res :=
  run (fun s =>
    match s.dyn.ch.writing with
    | none => []
    | some g =>
      match (s.lane g).cap with
      | none => []
      | some (k, f) =>
        let r := captureRecord s g f samples
        if !laneUp s g || !reqReady s then []
        else seqs [reqWrite .media false (s.pair (Reg.LN_CAP_BASE_LO g) + k * 86016) (r ++ leBytes ((64 - r.length % 64) % 64) s.fresh),
          fun _ => [.draw, .fld (Reg.LN_CAP_SLOTS g) k k 1, updLane g (fun l => { l with cap := none }),
            updCh (fun c => { c with writing := none })],
          (if f.reason = 0 then skip else pushFail g f (some k))] s) s

/-- A write of LN_CAP_FREE (R103): slots the recorder holds stay full (R468). -/
def hCapFree (g : Nat) (data : Word) : Act := fun s =>
  [.reg (Reg.LN_CAP_SLOTS g) (s.reg (Reg.LN_CAP_SLOTS g) &&& ~~~(data &&& ~~~(w32 (s.dyn.wrk.held.getD g 0))))]

/-- LN_CAP_FREE_WRITE (R103). -/
def execLnCapFreeWrite (init : Initiator) (lane : Fin 16) (data : Word) (s : State) : Res :=
  run (wrAccess init (Reg.LN_CAP_FREE lane.val) (hCapFree lane.val data)) s

/-- What a read of LN_FAIL_LO finds: the oldest entry; of an empty FIFO VALID is 0 and the rest free, but 0 until the first entry
since reset (Table 4.14). -/
def failFront (s : State) (g : Nat) : Word × Word :=
  match (s.lane g).fails with
  | e :: _ => e
  | [] => if !(s.lane g).seen then (0, 0) else (w32 s.fresh, w32 (s.fresh / 2 ^ 32) &&& 0x7FFFFC00)

/-- A read of LN_FAIL_LO removes the entry and latches LN_FAIL_HI for its initiator (R47, Table 4.14). [DEDUCED, log 69, unsafe] -/
def failPop (init : Initiator) (g : Nat) : Act := fun s =>
  [.upd (fun d => { d with sys := { d.sys with
      shadow := setAt d.sys.shadow init.id (some (Reg.LN_FAIL_HI g, (failFront s g).2)) } }), .draw,
   updLane g (fun l => { l with fails := l.fails.drop 1 })]

/-- LN_FAIL_READ (R115): a 32-bit read of LN_FAIL_LO. -/
def execLnFailRead (init : Initiator) (lane : Fin 16) (s : State) : Res :=
  run (rdAccess init (Reg.LN_FAIL_LO lane.val) 4 (fun s => (failFront s lane.val).1.toNat) (failPop init lane.val)) s

end Sys2Proof.Machine
end

