-- ==== Sys2Proof/Machine/Media.lean ====
section
/-! DEFINITION. The media: sectors as written, band pointers, zero-filled bands, the relocation table's entries (R59, R66,
R142, R221, R274). -/

namespace Sys2Proof.Machine

/-- Change what the media hold. -/
def updMedia (g : MediaD → MediaD) : Eff := .upd (fun d => { d with media := g d.media })

/-- Look up a value by head and band. -/
def hbGet (l : List (Nat × Nat × Nat)) (head band : Nat) : Option Nat :=
  (l.find? (fun e => e.1 == head && e.2.1 == band)).map (fun e => e.2.2)

/-- Set a value by head and band. -/
def hbPut (l : List (Nat × Nat × Nat)) (head band v : Nat) : List (Nat × Nat × Nat) :=
  (head, band, v) :: l.filter (fun e => e.1 != head || e.2.1 != band)

/-! The relocation table (R228). -/

/-- A sector's place in the order of the table. -/
def Reloc.key (e : Reloc) : Nat := (e.head * 65536 + e.band) * 131072 + e.sector

/-- An entry as Table 8.4 lays it out. -/
def Reloc.bytes (e : Reloc) : List Byte :=
  leBytes 8 (e.head % 64 * 2 ^ 58 + e.band % 65536 * 2 ^ 42 + e.sector % 131072 * 2 ^ 25 + e.spare % 512 * 2 ^ 16 + e.state % 4 * 2 ^ 14 +
    e.step % 8 * 2 ^ 11 + (if e.zp then 2 ^ 10 else 0))

/-- One change of the table, in its order, with its record in both copies of the journal; STATE 0 removes the entry. -/
def tableSet (m : MediaD) (e : Reloc) : MediaD := { m with
  table := m.table.filter (fun x => x.key < e.key) ++ (if e.state = 0 then [] else [e]) ++ m.table.filter (fun x => e.key < x.key)
  jrnA := e.bytes :: m.jrnA
  jrnB := e.bytes :: m.jrnB }

/-- The entries that satisfy a condition go, one change each. -/
def tableDrop (p : Reloc → Bool) (m : MediaD) : MediaD :=
  (m.table.filter p).foldl (fun x e => tableSet x { e with state := 0 }) m

/-- An entry of a sector. -/
def Reloc.at (head band sector : Nat) (e : Reloc) : Bool := e.head == head && e.band == band && e.sector == sector

/-- A frame is written (R141, R142): a whole one moves the band's media write pointer past it and ends an UNREC entry (R221). -/
def mediaPut (head band sector : Nat) (info : List Byte) (cut : Bool) : Eff := updMedia (fun m =>
  let x := { m with
    secs := ⟨head, band, sector, info, cut⟩ :: m.secs.filter (fun x => x.head != head || x.band != band || x.sector != sector),
    ptr := if cut then m.ptr else hbPut m.ptr head band (sector + 1) }
  if cut then x else tableDrop (fun e => e.at head band sector && e.state == 3) x)

/-- The sum over i of g^i × Di in GF(2^8) with polynomial 0x11D, for one byte position (R66): Horner's rule, last sector
first. -/
def gf2x (v : Nat) : Nat := if 128 ≤ v then Nat.xor (2 * v) 0x11D else 2 * v

/-- Multiply by g, byte by byte. -/
def mulG (bs : List Byte) : List Byte := bs.map (fun b => b8 (gf2x b.toNat))

/-- P of a run's data sectors (R66). -/
def parP (n : Nat) (ds : List (List Byte)) : List Byte := ds.foldl (fun a d => xorBytes a (fit n d)) (zeros n)

/-- Q of a run's data sectors (R66). -/
def parQ (n : Nat) (ds : List (List Byte)) : List Byte := ds.foldr (fun d a => xorBytes (mulG a) (fit n d)) (zeros n)

/-- The product of two bytes in that field. -/
def gf2mul : Nat → Nat → Nat → Nat
  | 0, _, _ => 0
  | n + 1, a, b => Nat.xor (if b % 2 = 1 then a else 0) (gf2mul n (gf2x a) (b / 2))

/-- g^i. -/
def gf2pow (i : Nat) : Nat := iter gf2x i 1

/-- The inverse of a nonzero byte. -/
def gf2inv (a : Nat) : Nat := ((List.range 256).find? (fun b => gf2mul 8 a b == 1)).getD 0

/-- Multiply a byte string by a constant of the field. -/
def mulC (c : Nat) (bs : List Byte) : List Byte := bs.map (fun b => b8 (gf2mul 8 c b.toNat))

/-- The 64 data sectors of a run with the lost ones rebuilt (R215), byte position by byte position over 4,112 bytes. `sec`
gives the surviving sectors by run position. -/
def rebuildRun (sec : Nat → List Byte) (lost : List Nat) : List (List Byte) :=
  let ds := (List.range 64).map (fun i => if lost.contains i then zeros 4112 else fit 4112 (sec i))
  let p' := xorBytes (fit 4112 (sec 64)) (parP 4112 ds)
  let q' := xorBytes (fit 4112 (sec 65)) (parQ 4112 ds)
  match lost.filter (fun i => i < 64) with
  | [a] => ds.set a (if lost.contains 64 then mulC (gf2inv (gf2pow a)) q' else p')
  | [a, b] =>
    let da := mulC (gf2inv (Nat.xor (gf2pow a) (gf2pow b))) (xorBytes q' (mulC (gf2pow b) p'))
    (ds.set a da).set b (xorBytes p' da)
  | _ => ds

/-- The stored P (k = 0) or Q (k = 1) of a run: bytes 4,096 to 4,103 are the sector's own tag and EPOCH (R66). -/
def parityInfo (k head band sector epoch : Nat) (ds : List (List Byte)) : List Byte :=
  let p := if k = 0 then parP 4112 ds else parQ 4112 ds
  p.take 4096 ++ metaTag head band sector 1 epoch ++ p.drop 4104

/-- A lost sector of a run as rebuilt (R215, R216): bytes 4,096 to 4,103 from what the device knows. -/
def rebuiltInfo (sec : Nat → List Byte) (lost : List Nat) (i head band sector0 kind epoch : Nat) : List Byte :=
  let ds := rebuildRun sec lost
  if i < 64 then
    let d := ds.getD i []
    d.take 4096 ++ metaTag head band (sector0 + i) kind epoch ++ d.drop 4104
  else parityInfo (i - 64) head band (sector0 + i) epoch ds

/-- The stored bytes of a data sector. -/
def dataInfo (head band sector kind epoch : Nat) (user : List Byte) : List Byte :=
  fit 4096 user ++ metaBytes head band sector kind epoch (fit 4096 user)

/-- A sector of a band filled with zeros with parity (R274). -/
def zeroInfo (head band sector epoch : Nat) : List Byte :=
  let z := fun (i : Nat) => dataInfo head band (sector / 66 * 66 + i) 3 epoch (zeros 4096)
  if sector % 66 < 64 then z (sector % 66)
  else parityInfo (sector % 66 - 64) head band sector epoch ((List.range 64).map z)

/-- The frame on the media at a place; none where nothing was ever written. -/
def State.msec (s : State) (head band sector : Nat) : Option MSec :=
  match s.dyn.media.secs.find? (fun x => x.head == head && x.band == band && x.sector == sector) with
  | some x => some x
  | none =>
    match hbGet s.dyn.media.zero head band with
    | some ep => if sector < 67584 then some ⟨head, band, sector, zeroInfo head band sector ep, false⟩ else none
    | none => none

/-- A band's media write pointer: the first sector not completely written (R142). -/
def bandPtr (s : State) (head band : Nat) : Nat := (hbGet s.dyn.media.ptr head band).getD 0

/-- The band's next spare (R223, R224): spares are used in ascending order, and one that has failed is not taken again. [DEDUCED, log 53, unsafe] -/
def nextSpare (s : State) (head band : Nat) : Nat := (hbGet s.dyn.media.spares head band).getD 0

/-- No lane of an actuator reads and no write path of it writes, so that a transfer of another group or direction may begin (R14). -/
def actFree (s : State) (a : Nat) : Bool :=
  (List.range 4).all (fun j => (s.dyn.ch.lanes.getD (4 * a + j) {}).xfer.isNone && !((s.dyn.wa.getD a {}).paths.getD j {}).on)

/-- A relocation table entry of a sector. -/
def relocOf (s : State) (head band sector : Nat) : Option Reloc :=
  s.dyn.media.table.find? (Reloc.at head band sector)

end Sys2Proof.Machine
end

