-- ==== Sys2Proof/Machine/Write.lean ====
section
/-! DEFINITION. Write paths, energy assist and the front-end link (R117-R149). -/

namespace Sys2Proof.Machine

/-- WP_CTL.STATE: 0 idle, 1 waiting, 2 writing, 3 inhibited. -/
def pathState (s : State) (act j : Nat) : Nat := s.fld (Reg.WP_CTL act j) 4 3

/-- An assist command: 1 BIAS, 2 ARM, 3 DISARM, 4 OFF, on a mask of slots. -/
def feAssist (act op mask : Nat) : Act := feWrite act 1 op mask

/-- AS_STATE of a slot. -/
def asState (s : State) (act slot : Nat) : Nat := s.fld (Reg.AS_STATE act slot) 1 0

/-- Slots of an actuator in an assist state. -/
def slotsIn (s : State) (act st : Nat) : List Nat := (List.range 16).filter (fun k => asState s act k == st)

/-- The mask of a list of slots. -/
def maskOf (l : List Nat) : Nat := l.foldl (fun m k => m + 2 ^ k) 0

/-- Every ARMED head goes back to BIAS with one DISARM (R130). -/
def disarm (act : Nat) : Act := fun s =>
  let l := slotsIn s act 3
  if l.isEmpty then [] else seqs [feAssist act 3 (maskOf l), fun _ => l.map (fun k => .fld (Reg.AS_STATE act k) 1 0 2)] s

/-- Write drivers enabled at the front end (R126, register 0x03). -/
def sendDrv (act mask : Nat) : Act :=
  seqs [feWrite act 0 3 mask, fun _ => [updWa act (fun w => { w with drv := mask })]]

/-- All assists and drivers of an actuator are off: the link's frames stop or were lost (R131, R138, R148). -/
def feSilent (act : Nat) : Act := fun _ =>
  (List.range 16).map (fun k => .fld (Reg.AS_STATE act k) 1 0 0) ++
  (List.range 4).map (fun j => .fld (Reg.WP_CTL act j) 2 2 0) ++
  [updWa act (fun w => { w with
      drv := 0, codes := List.replicate 16 none, headSel := none,
      paths := w.paths.map (fun p => { p with idleDrv := false }) })]

/-- A head's write power code (R132), T in 1/16 °C. [DEDUCED, log 65, unsafe] -/
def pwrCode (s : State) (act slot : Nat) : Nat :=
  let code := s.fld (Reg.AS_PWR act slot (s.fld (Reg.WP_CTL act (slot % 4)) 9 5)) 11 0
  let a2 := s.reg (Reg.WA_ASSIST2 act)
  let t := sgn 16 (s.reg (Reg.THM_SENSE (24 + act))).toNat
  (clampI 0 (s.fld (Reg.WA_ASSIST act) 11 0)
    (divTZ (64 * (code : Int) + sgn 8 (a2.fld 23 16) * (t - 16 * sgn 8 (a2.fld 31 24))) 64)).toNat

/-- Recompute a head's code and send it when it changed (R132). -/
def sendCode (act slot : Nat) : Act := fun s =>
  let c := pwrCode s act slot
  if !feOn s act || (s.waD act).codes.getD slot none = some c then []
  else seqs [feWrite act 0 (0x20 + slot) c, fun _ => [updWa act (fun w => { w with codes := setAt w.codes slot (some c) })]] s

/-! Inhibits (R145, Table 5.3). -/

/-- The positions whose heads transfer: started paths that write or were cut off, on heads ebb mode has not removed. -/
def writing (s : State) (act : Nat) : List Nat :=
  (List.range 4).filter (fun j => (s.path act j).on && 2 ≤ pathState s act j && (activeSet s act (s.waD act).group).contains j)

/-- A source of Table 5.3 holds. OFFTRACK and SERVO_MISS look at the heads that transfer. -/
def inhibitOf (s : State) (act : Nat) (r : Inhibit) : Bool :=
  let h := s.hl act
  let on := writing s act
  match r with
  | .plaus => h.plausInh || s.bit (Reg.HL_FLAGS act) 5
  | .offtrack => on.any (fun j => h.onTrk.getD j 0 < max 1 (s.fld (Reg.WA_CFG act) 15 12))
  | .servoMiss => on.any (fun j => h.missed.getD j false)
  | .tide => (h.ebb.getD (s.waD act).group {}).tideInh
  | .feFault => (s.waD act).faultN
  | .link => s.bit (Reg.FE_STAT act) 0
  | .kill => s.bit (Reg.WA_KILL act) 0

/-- The inhibit sources. -/
def inhibits : List Inhibit := [.plaus, .offtrack, .servoMiss, .tide, .feFault, .link, .kill]

/-- Any source holds. -/
def inhibited (s : State) (act : Nat) : Bool := inhibits.any (inhibitOf s act)

/-! Transfers. -/

/-- The band and epoch of a path's transfer. -/
def pathBand (s : State) (act j : Nat) : Nat := s.fld (Reg.WP_LOC act j) 31 17
/-- The epoch (R121). -/
def pathEpoch (s : State) (act j : Nat) : Nat := s.fld (Reg.WP_CNT act j) 31 16

/-- The head a path writes with (R117). -/
def pathHead (s : State) (act j : Nat) : Nat := act * 16 + 4 * (s.waD act).group + j

/-- A slot's HEAD, BAND, SECTOR and EPOCH agree with the path's (R121). -/
def slotOk (s : State) (act j sector : Nat) (slot : List Byte) : Bool :=
  let m := leAt slot 4096 6
  m / 2 ^ 9 == metaWord (pathHead s act j) (pathBand s act j) sector 0 / 2 ^ 9 &&
  leAt slot 4102 2 == pathEpoch s act j

/-- WP_DONE after a sector, or with a sector cut off. -/
def wpDone (act j : Nat) (last : Option Nat) (intr : Bool) : Act := fun s =>
  match last with
  | some n => [.reg (Reg.WP_DONE act j) (w32 (n % 2 ^ 17 + (if intr then 2 ^ 31 else 0)))]
  | none => [.reg (Reg.WP_DONE act j) ((s.reg (Reg.WP_DONE act j)).setBit 31 intr)]

/-! What the writer is given (R67, R70, R122-R124). -/

/-- WG_LEAD in force (R123, Table 5.7). -/
def wgLead (s : State) (act j : Nat) : Nat := max 16 (min 192 (s.fld (Reg.WP_GATE act j) 7 0))

/-- WG_LAG. -/
def wgLag (s : State) (act j : Nat) : Nat := s.fld (Reg.WP_GATE act j) 15 8

/-- The bits of a wedge's pad, 12 servo symbols, at the path's rate; none while HL_SPIN names no speed (R124, Table 3.6). -/
def padBits (s : State) (act j : Nat) : Option Nat :=
  let n := s.fld (Reg.HL_SPIN act) 31 16 * s.fld (Reg.HL_SPIN act) 9 0
  if n = 0 then none else some (12 * s.fld (Reg.WP_RATE act j) 22 0 * 60000 / (3200 * n))

/-- The lead of a gate that rises in a wedge's pad: never before the pad begins (R124). -/
def wedgeLead (s : State) (act j : Nat) : Nat :=
  match padBits s act j with
  | some n => min n (wgLead s act j)
  | none => wgLead s act j

/-- The delay of a transition that lies `n` bits after the one before, in 1/64 bit (R122); codes above 31 act as 31. -/
def precomp (w : Word) (n : Nat) : Nat := min 31 (if n = 1 then w.fld 5 0 else if n = 2 then w.fld 11 6 else w.fld 17 12)

/-- Channel bits with the delay of the transition each begins with: `last` is the bit before, `n` the bits since a transition. [DESIGN CHOICE, log 127, safe] -/
def shaped (w : Word) : Bool → Nat → List Bool → List (Bool × Nat)
  | _, _, [] => []
  | last, n, b :: bs => if b == last then (b, 0) :: shaped w b (n + 1) bs else (b, precomp w n) :: shaped w b 1 bs

/-- The codeword bits of a sector that a wedge lets through before it, at most one split per frame and inside the codeword (R70). -/
def splitOf (w : WriteRun) (j sector : Nat) : Option Nat :=
  (w.splits.find? (fun x => x.1.val = j && x.2.1 = sector && 0 < x.2.2 && x.2.2 < 36864)).map (fun x => x.2.2)

/-- A sector's frame goes to the writer (R67, R68); a wedge that splits it finds the gate low, and the codeword resumes at the next
bit (R70, R124). The postamble's bits are free. [DESIGN CHOICE, log 127, safe] -/
def writeFrame (act j : Nat) (w : WriteRun) (sector : Nat) (info : List Byte) : Act := fun s =>
  let cells := shaped (s.reg (Reg.WP_PRECOMP act j)) false 3 (frameBits info (bitsBE (beBytes 4 s.fresh)))
  match splitOf w j sector with
  | some b => seqs [fun _ => [.draw, .emit (.written act j (cells.take (368 + b)))], gateSet act j false 0,
      gateSet act j true (wedgeLead s act j), fun _ => [.emit (.written act j (cells.drop (368 + b)))]] s
  | none => [.draw, .emit (.written act j cells)]

/-- How writing sectors ended. -/
inductive WriteEnd where
  | all | metaBad | noData
deriving DecidableEq, Repr

/-- Write up to n sectors from the path's next (R120, R121, R141): what lands, and why it ended. -/
def writeSectors (act j : Nat) (w : WriteRun) : Nat → Act
  | 0 => skip
  | n + 1 => fun s =>
    let p := s.path act j
    match reqRead s p.src 4160 with
    | none => reqReadEv false p.src 4160 0 s
    | some slot =>
      if !slotOk s act j p.next slot then reqReadEv false p.src 4160 0 s
      else seqs [reqReadEv false p.src 4160 0, writeFrame act j w p.next (slot.take 4112), fun _ => [
          mediaPut (pathHead s act j) (pathBand s act j) p.next (slot.take 4112) false,
          .cnt (Reg.WP_SECT_CNT act j) 31 0 1,
          updPath act j (fun p => { p with next := p.next + 1, left := p.left - 1, src := p.src + 4160 })],
        wpDone act j (some p.next) false, writeSectors act j w n] s

/-- A path writes on to the last sector the operand gives for it, at most n sectors. -/
def writeUpTo (act j : Nat) (w : WriteRun) (n : Nat) : Act := fun s =>
  writeSectors act j w (min (w.done.getD j 0 + 1 - (s.path act j).next) n) s

/-- Why a path's next sector would not be written. -/
def nextEnd (s : State) (act j : Nat) : WriteEnd :=
  let p := s.path act j
  if p.left = 0 then .all
  else match reqRead s p.src 4160 with
    | none => .noData
    | some slot => if slotOk s act j p.next slot then .all else .metaBad

/-- A path's part of the transfer is over: its driver stays on for one revolution (R127); when no path of the transfer is
left, DISARM is sent and DONE set (R130, R141). -/
def pathEnd (act j : Nat) (bits : Word) : Act := fun s =>
  seqs [gateSet act j false (wgLag s act j), fun _ => [.fld (Reg.WP_CTL act j) 4 3 0,
      updPath act j (fun p => { p with on := false, restart := false, idleDrv := s.bit (Reg.WP_CTL act j) 2 })] ++
      (if bits = 0 then [] else [.sq (Reg.WA_STAT act) bits]),
    fun s => if (s.waD act).paths.any (fun p => p.on) then []
      else seqs [disarm act, fun _ => [.sq (Reg.WA_STAT act) 2,
        updWa act (fun w => { w with cut := false, verify := false })]] s] s

/-- The transfer ends on every path that is left. -/
def endAll (act : Nat) (bits : Word) : Act := fun s =>
  seqs [fun _ => if bits = 0 then [] else [.sq (Reg.WA_STAT act) bits],
    each ((List.range 4).filter (fun j => (s.path act j).on)) (fun j => pathEnd act j 0)] s

/-- The slot of a path's next sector is read, and what the reads meet recorded (R120). -/
def slotEv (act j : Nat) : Act := fun s => if (s.path act j).left = 0 then [] else reqReadEv false (s.path act j).src 4160 0 s

/-- A slot's metadata disagrees: the other paths have written up to where they stand, and the transfer ends with META (R121). -/
def metaEnd (act : Nat) (w : WriteRun) : Act := fun s =>
  seqs [each ((List.range 4).filter (fun j => pathState s act j == 2)) (fun j => fun s => writeUpTo act j w (s.path act j).left s),
    endAll act 16] s

/-- A band belongs to the pivot of an actuator: even bands to pivot 1, odd ones to pivot 2 (R56). -/
def ownBand (act band : Nat) : Bool := band % 2 == act / 2

/-- Paths whose driver is still on need no new grant (R127); where the transfer's group gives such a path another head, the front
end is sent the enable of that head's slot in place of the old one (R126). [DEDUCED, log 83, unsafe] -/
def moveDrv (act q : Nat) (js : List Nat) : Act := fun s =>
  let on := js.filter (fun j => s.bit (Reg.WP_CTL act j) 2)
  if on.all (fun j => (s.waD act).drv.testBit (4 * q + j)) then []
  else sendDrv act (maskOf ((List.range 16).filter (fun k =>
    if on.contains (k % 4) then k / 4 == q else (s.waD act).drv.testBit k))) s

/-- A started path writes nothing and its part ends at once: COUNT 0, LOCK 0 (R118), or a band of the other pivot (R56). [DESIGN CHOICE, log 120, unsafe] -/
def noWrite (s : State) (act j : Nat) : Bool :=
  s.fld (Reg.WP_CNT act j) 15 0 == 0 || !s.bit (Reg.WP_RATE act j) 31 || !ownBand act (pathBand s act j)

/-- A write of WA_GO (R85, R118, R125): the named enabled paths form a transfer; one already in progress keeps the actuator. [DESIGN CHOICE, log 82, unsafe] -/
def hWaGo (act : Nat) (data : Word) : Act := fun s =>
  let js := (bitsOf 4 (data.fld 3 0)).filter (fun j => s.bit (Reg.WP_CTL act j) 0)
  let q := groupOf s act
  if (s.waD act).paths.any (fun p => p.on) || js.isEmpty then []
  else seqs [
    fun _ => [updWa act (fun w => { w with group := q, retry := 0, cut := false, verify := false })],
    selHeads act q,
    each js (fun j => fun s =>
      let n := s.fld (Reg.WP_CNT act j) 15 0
      [.fld (Reg.WP_DONE act j) 31 31 0, .fld (Reg.WP_DONE act j) 17 17 1, .fld (Reg.WP_CTL act j) 4 3 1,
       updPath act j (fun p => { p with
         next := s.fld (Reg.WP_LOC act j) 16 0, left := n, src := s.pair (Reg.WP_SRC_LO act j),
         restart := false, idleDrv := false, on := true })] ++
      (if noWrite s act j then []
       else (if s.bit (Reg.WP_CTL act j) 2 then [] else [bwRaise 0 (4 * act + j)]) ++
        (if asState s act (4 * q + j) = 0 then [bwRaise 1 (16 * act + 4 * q + j)] else []))),
    moveDrv act q js,
    each js (fun j => fun s =>
      if noWrite s act j then pathEnd act j 0 s else [])] s

/-- WA_GO (R125). [DEDUCED, log 12, unsafe] -/
def execWaGo (init : Initiator) (act : Fin 4) (data : Word) (s : State) : Res :=
  run (wrAccess init (Reg.WA_GO act.val) (hWaGo act.val data)) s

/-- Granted write drivers of the transfer are enabled at the front end (R126). -/
def enableDrv (act : Nat) : Act := fun s =>
  let js := (List.range 4).filter (fun j => (s.path act j).on && hasGrant s 0 (4 * act + j))
  if js.isEmpty || !feOn s act then []
  else seqs [sendDrv act (maskOf ((List.range 16).filter (fun k => (s.waD act).drv.testBit k ||
        (k / 4 == (s.waD act).group && js.contains (k % 4))))),
    fun _ => js.flatMap (fun j => [useGrant 0 (4 * act + j), .fld (Reg.WP_CTL act j) 2 2 1])] s

/-- The conditions of R126, with the heads armed (R130), the actuator following, and no read in progress (R14). -/
def pathReady (s : State) (act j : Nat) : Bool :=
  feOn s act && s.bit (Reg.WP_CTL act j) 2 && asState s act (4 * (s.waD act).group + j) == 3 &&
  s.bit (Reg.WP_RATE act j) 31 &&
  max 1 (s.fld (Reg.WA_CFG act) 15 12) ≤ (s.hl act).onTrk.getD j 0 && !inhibited s act &&
  (activeSet s act (s.waD act).group).contains j &&
  (List.range 4).all (fun k => (s.lane (4 * act + k)).xfer.isNone)

/-- A waiting path starts to write and raises its gate (R123), or ends the transfer where its first slot's metadata disagrees
(R121, R126). -/
def startPath (act j : Nat) (w : WriteRun) : Act := fun s =>
  if !pathReady s act j then []
  else match nextEnd s act j with
    | .metaBad => seqs [slotEv act j, metaEnd act w] s
    | .noData => slotEv act j s
    | .all => seqs [fun _ => [.fld (Reg.WP_CTL act j) 4 3 2, updPath act j (fun p => { p with restart := false })],
        gateSet act j true (wgLead s act j)] s

/-- WRITE_PATH_START (R126). `w` says where the other paths stand. -/
def execWritePathStart (act : Fin 4) (path : PathRun) (s : State) : Res :=
  run (seqs [enableDrv act.val, fun s =>
    if pathState s act.val path.path.val = 1 && !(s.path act.val path.path.val).restart then startPath act.val path.path.val path.run s else []]) s

/-- LATE_GRANT_RETRY (R19): the conditions held only after the first target sector had passed; the path starts there on the
next revolution. -/
def execLateGrantRetry (act : Fin 4) (path : PathRun) (s : State) : Res :=
  run (seqs [enableDrv act.val, fun s =>
    if pathState s act.val path.path.val = 1 && (s.path act.val path.path.val).next = s.fld (Reg.WP_LOC act.val path.path.val) 16 0 &&
      !(s.path act.val path.path.val).restart then startPath act.val path.path.val path.run s else []]) s

/-- WDRV_IDLE_DISABLE (R127): one revolution after its transfer ended, the path's driver goes off. -/
def execWdrvIdleDisable (act path : Fin 4) (s : State) : Res :=
  let a := act.val
  let j := path.val
  run (fun s =>
    if feUp s a && (s.path a j).idleDrv && !(s.path a j).on then
      seqs [sendDrv a (maskOf ((bitsOf 16 (s.waD a).drv).filter (fun k => k % 4 ≠ j))),
        fun _ => [.fld (Reg.WP_CTL a j) 2 2 0, updPath a j (fun p => { p with idleDrv := false })]] s
    else []) s

/-! Assist (R128-R134). -/

/-- ASSIST_BIAS_SEND (R129): after the warm-up grant the head is sent BIAS; granted drivers are enabled in the same slot of
time (Table 5.1). -/
def execAssistBiasSend (act : Fin 4) (slot : Fin 16) (s : State) : Res :=
  let a := act.val
  let k := slot.val
  run (fun s =>
    if feOn s a && asState s a k = 0 && hasGrant s 1 (16 * a + k) then
      seqs [enableDrv a, fun _ => [useGrant 1 (16 * a + k)], feAssist a 1 (2 ^ k),
        fun _ => [.fld (Reg.AS_STATE a k) 1 0 1]] s
    else []) s

/-- ASSIST_WARM_DONE (R129): WARM_US after the BIAS frame. -/
def execAssistWarmDone (act : Fin 4) (slot : Fin 16) (s : State) : Res :=
  run (fun s =>
    if feUp s act.val && asState s act.val slot.val = 1 then
      [.fld (Reg.AS_STATE act.val slot.val) 1 0 2, .cnt (Reg.AS_WARM_CNT act.val slot.val) 31 0 1]
    else []) s

/-- ASSIST_ARM_SEND (R130, R134): one ARM frame names the started heads that are in BIAS, once every waiting head has left
warm-up and no inhibit holds. -/
def execAssistArmSend (act : Fin 4) (s : State) : Res :=
  let a := act.val
  run (seqs [enableDrv a, fun s =>
    let slots := ((List.range 4).filter (fun j => (s.path a j).on)).map (fun j => 4 * (s.waD a).group + j)
    let l := slots.filter (fun k => asState s a k == 2)
    if !feOn s a || l.isEmpty || slots.any (fun k => asState s a k < 2) || inhibited s a then []
    else seqs [feAssist a 2 (maskOf l), fun _ => l.map (fun k => .fld (Reg.AS_STATE a k) 1 0 3)] s]) s

/-- ASSIST_BIAS_HOLD_EXPIRY (R131): a head that stayed in BIAS for BIAS_HOLD ms is sent OFF; 0 keeps it in BIAS. -/
def execAssistBiasHoldExpiry (act : Fin 4) (slot : Fin 16) (s : State) : Res :=
  run (fun s =>
    if feOn s act.val && asState s act.val slot.val = 2 && s.fld (Reg.WA_ASSIST2 act.val) 15 8 ≠ 0 then
      seqs [feAssist act.val 4 (2 ^ slot.val), fun _ => [.fld (Reg.AS_STATE act.val slot.val) 1 0 0]] s
    else []) s

/-- A write of AS_PWR recomputes the head's code (R132). -/
def hAsPwr (act slot zone : Nat) (data : Word) : Act :=
  seqs [plainWrite (Reg.AS_PWR act slot zone) data, sendCode act slot]

/-- AS_PWR_WRITE (R132). -/
def execAsPwrWrite (init : Initiator) (act : Fin 4) (slot : Fin 16) (zone : Fin 32) (data : Word) (s : State) : Res :=
  run (wrAccess init (Reg.AS_PWR act.val slot.val zone.val) (hAsPwr act.val slot.val zone.val data)) s

/-- ARM_IDLE_EXPIRY (R134): an ARMED head whose gate has stayed low for ARM_IDLE is taken as returned to BIAS, also one that waits
for its next ebb round. -/
def execArmIdleExpiry (act : Fin 4) (slot : Fin 16) (s : State) : Res :=
  run (fun s =>
    if feUp s act.val && asState s act.val slot.val = 3 &&
      !((s.path act.val (slot.val % 4)).wg && slot.val / 4 == (s.waD act.val).group) then
      [.fld (Reg.AS_STATE act.val slot.val) 1 0 2]
    else []) s

/-! The link (R136, R149). -/

/-- A read returned a bad CRC (Table 5.11). -/
def feCrcErr (act : Nat) : Act := fun _ => [.cnt (Reg.FE_CRC_CNT act) 31 0 1, .sq (Reg.FE_STAT act) 4]

/-- FE_HEARTBEAT (R136): register 0x00 is read; the third bad answer in a row sets DOWN. -/
def execFeHeartbeat (act : Fin 4) (id : BitVec 16) (crcOk : Bool) (s : State) : Res :=
  let a := act.val
  run (fun s =>
    if !feOn s a then []
    else
      let bad := !crcOk || id.toNat != (s.waD a).feId
      let n := if bad then (s.waD a).bad + 1 else 0
      seqs [feReadFrame a 0, fun _ => [updWa a (fun w => { w with bad := if n = 3 then 0 else n })],
        (if crcOk then skip else feCrcErr a),
        (if n = 3 then seqs [fun _ => [.sq (Reg.FE_STAT a) 1], feSilent a] else skip)] s) s

/-- A write of FE_CTL: setting EN starts the link, reads its ID and writes ARM_IDLE (R138, R149); clearing it stops the frames,
and the front end drops assist (R148). An ID with a bad CRC is counted and not taken (R150). [DEDUCED, log 64, unsafe] -/
def hFeCtl (act : Nat) (data : Word) (id : Nat) (crcOk : Bool) : Act := fun s =>
  let a := Reg.FE_CTL act
  seqs [plainWrite a data,
    (if data.bit 0 && !s.bit a 0 then
      seqs [feReadFrame act 0, fun _ => [updWa act (fun w => { w with feId := if crcOk then id else 0, bad := 0, headSel := none })],
        (if crcOk then skip else feCrcErr act),
        feWrite act 0 4 (s.fld (Reg.WA_ASSIST2 act) 7 0), fun s => selHeads act (groupOf s act) s]
     else if !data.bit 0 && s.bit a 0 then feSilent act
     else skip)] s

/-- FE_LINK_ENABLE (R149): a write of FE_CTL with EN set; the front end answers its ID. -/
def execFeLinkEnable (init : Initiator) (act : Fin 4) (data : Word) (id : IdAnswer) (s : State) : Res :=
  run (wrAccess init (Reg.FE_CTL act.val) (hFeCtl act.val (data ||| 1) id.id.toNat id.crcOk)) s

/-! The end of a transfer, underruns and inhibits (R141-R147). -/

/-- A path stops because its next slot has not arrived (R144): its gate falls, INTR is clear, and it waits for its restart, which takes one of the
transfer's retries, or ends once they are spent. -/
def underrun (act j : Nat) : Act := seqs [fun s => gateSet act j false (wgLag s act j) s, wpDone act j none false, fun s =>
  if s.fld (Reg.WA_CFG act) 10 8 ≤ (s.waD act).retry then pathEnd act j 0x24 s
  else [.fld (Reg.WP_CTL act j) 4 3 1, .sq (Reg.WA_STAT act) 0x20, updPath act j (fun p => { p with restart := true }),
    updWa act (fun w => { w with retry := w.retry + 1 })]]

/-- A writing path finds its next slot's metadata wrong: it has stopped, and the transfer ends (R121). -/
def pathMeta (act j : Nat) (w : WriteRun) : Act := seqs [pathEnd act j 0, metaEnd act w]

/-- WRITE_TRANSFER_END (R141): a writing path has written all its sectors, or stopped where a slot's metadata disagrees (R121)
or DRAM gives no slot (R144). -/
def execWriteTransferEnd (act : Fin 4) (path : PathRun) (s : State) : Res :=
  let a := act.val
  let j := path.path.val
  run (fun s =>
    if !feUp s a || pathState s a j ≠ 2 || inhibited s a then []
    else seqs [writeSectors a j path.run (s.path a j).left, fun s =>
      match nextEnd s a j with
      | .all => pathEnd a j 0 s
      | .metaBad => pathMeta a j path.run s
      | .noData => underrun a j s] s) s

/-- WRITE_UNDERRUN (R144): the sectors up to `last` are written; the next slot has not arrived. -/
def execWriteUnderrun (act : Fin 4) (path : PathRun) (last : Nat) (s : State) : Res :=
  let a := act.val
  let j := path.path.val
  run (fun s =>
    let p := s.path a j
    if !feUp s a || pathState s a j ≠ 2 || inhibited s a || last + 1 < p.next || p.next + p.left ≤ last + 1 then []
    else seqs [writeSectors a j path.run (last + 1 - p.next), fun s =>
      if (s.path a j).next = last + 1 then underrun a j s
      else match nextEnd s a j with
        | .metaBad => pathMeta a j path.run s
        | _ => underrun a j s] s) s

/-- UNDERRUN_RESTART (R144): on the next revolution the path goes on at LAST + 1. -/
def execUnderrunRestart (act : Fin 4) (path : PathRun) (s : State) : Res :=
  let a := act.val
  let j := path.path.val
  run (fun s =>
    if pathState s a j = 1 && (s.path a j).restart && nextEnd s a j ≠ .noData then startPath a j path.run s else []) s

/-- A path is cut off (R146): the sectors up to the last one written in full are on the media, and the next one is left cut; it was
not begun where its slot's metadata disagrees (R121). -/
def cutPath (a : Nat) (w : WriteRun) (j : Nat) : Act := fun s =>
  seqs [writeUpTo a j w ((s.path a j).left - 1), gateSet a j false 0, fun s =>
    let p := s.path a j
    if nextEnd s a j = .metaBad then wpDone a j none false s
    else seqs [slotEv a j, wpDone a j none true, fun _ =>
      [mediaPut (pathHead s a j) (pathBand s a j) p.next (fit 4112 ((reqRead s p.src 4160).getD [])) true]] s] s

/-- WRITE_INHIBIT_BEGIN (R146, steps 1 and 2; R147): a source that holds cuts off the paths that write. `w` gives, by
position, the last sector each had written whole. -/
def execWriteInhibitBegin (act : Fin 4) (reason : Inhibit) (wedge : BitVec 10) (head : Fin 64) (w : WriteRun) (s : State) :
    Res :=
  let a := act.val
  run (fun s =>
    let js := (List.range 4).filter (fun j => pathState s a j == 2)
    if !feUp s a || !inhibitOf s a reason || js.isEmpty then []
    else seqs [
      each js (cutPath a w),
      gatesLow a, disarm a,
      fun _ => [.reg (Reg.WA_INH_LAST a) (w32 (reason.code * 2 ^ 28 + wedge.toNat * 2 ^ 18 + head.val * 4096)),
          .cnt (Reg.WA_INH_CNT a) 31 0 1, .sq (Reg.WA_STAT a) 1,
          updWa a (fun w => { w with
            cut := true, verify := (reason == .plaus || reason == .offtrack) && s.bit (Reg.WA_CFG a) 11 })] ++
        (List.range 4).flatMap (fun j => if (s.path a j).on then [.fld (Reg.WP_CTL a j) 4 3 3] else []),
      (fun s => if js.any (fun j => nextEnd s a j == .metaBad) then endAll a 16 s else []),
      trigger 2 a] s) s

/-- FE_FAULT_ASSERT (R145): the ball falls. -/
def execFeFaultAssert (act : Fin 4) (s : State) : Res :=
  run (fun s => [updWa act.val (fun w => { w with faultN := true })] ++
    (if feUp s act.val && !(s.waD act.val).faultN then [.sq (Reg.FE_STAT act.val) 2] else [])) s

/-- FE_FAULT_DEASSERT (R145): the ball rises. -/
def execFeFaultDeassert (act : Fin 4) (s : State) : Res :=
  run (fun _ => [updWa act.val (fun w => { w with faultN := false })]) s

/-- WA_KILL_WRITE (R145). -/
def execWaKillWrite (init : Initiator) (act : Fin 4) (data : Word) (s : State) : Res :=
  run (wrAccess init (Reg.WA_KILL act.val) (plainWrite (Reg.WA_KILL act.val) data)) s

/-- A verified frame of the arc is decided as read (R146): a failed one reaches its lane's LN_FAIL with its reason. -/
def verifyFrame (act q : Nat) (j : Nat) (a : Arrival) (iter reason : Nat) : Act := fun s =>
  let g := 4 * act + j
  let x : LaneXfer := ⟨(BitVec.ofNat 2 q).toFin, pathBand s act j, a.sector, 1, BitVec.ofNat 16 (pathEpoch s act j),
    (if isConvBand s (pathBand s act j) then 3 else 0), 0, false⟩
  let f := { mkFrame s g x a with iter := iter }
  seqs [fun _ => [.draw, updCh (fun c => { c with frames := c.frames + 1 })], frameLog g f, decide_ g f reason []] s

/-- INHIBIT_VERIFY_READ (R146, steps 3 and 4): the arc of the previous track (of both neighbours in a conventional band) is
read; a failed frame ends the transfer with VERIFY_BAD. [DESIGN CHOICE, log 72, safe] -/
def execInhibitVerifyRead (act : Fin 4) (frames : List (Fin 4 × Arrival × Nat × Fin 9)) (s : State) : Res :=
  let a := act.val
  run (fun s =>
    if !feUp s a || !(s.waD a).cut || !(s.waD a).verify then []
    else
      let fs := frames.filter (fun f => (s.path a f.1.val).on)
      seqs [fun _ => [updWa a (fun w => { w with verify := false })],
        each fs (fun f => if f.2.2.2.val = 0 then skip else verifyFrame a (s.waD a).group f.1.val f.2.1 f.2.2.1 f.2.2.2.val),
        (if fs.any (fun f => f.2.2.2.val != 0) then endAll a 8 else skip)] s) s

/-- INHIBIT_REWRITE (R146, steps 5 and 6): once no source holds the transfer goes on from LAST + 1 of each path; it ends with
RETRY_EXH once the retries are spent or the actuator has unloaded. -/
def execInhibitRewrite (act : Fin 4) (s : State) : Res :=
  let a := act.val
  run (fun s =>
    if !feUp s a || !(s.waD a).cut || (s.waD a).verify then []
    else if s.fld (Reg.WA_CFG a) 10 8 ≤ (s.waD a).retry || s.bit (Reg.HL_FLAGS a) 5 then endAll a 4 s
    else if inhibited s a then []
    else [updWa a (fun w => { w with cut := false, retry := w.retry + 1 })] ++
      (List.range 4).flatMap (fun j => if (s.path a j).on then [.fld (Reg.WP_CTL a j) 4 3 1] else [])) s

end Sys2Proof.Machine
end

