-- ==== Sys2Proof/Machine/Thermal.lean ====
section
/-! DEFINITION. Power states and the thermal monitor (R411-R429): sensors, levels, throttling, the trip and its record. -/

namespace Sys2Proof.Machine

/-! Power states (R427-R429). -/

/-- Lanes, assist and write drivers off (Table 14.5, PS2). -/
def lanesOff : Act := seqs [
  each (List.range 16) (fun g s => if laneUp s g then hLnCtl g (s.reg (Reg.LN_CTL g) &&& ~~~2) s else []),
  each (List.range 4) (fun a s => if feUp s a then
    seqs [feAssist a 4 0xFFFF, sendDrv a 0, fun _ =>
      (List.range 16).map (fun k => .fld (Reg.AS_STATE a k) 1 0 0) ++
      (List.range 4).map (fun j => .fld (Reg.WP_CTL a j) 2 2 0)] s else [])]

/-- Engines unload and synthesisers stop (PS3). -/
def unloadAll : Act := seqs [
  each (List.range 4) (fun a s => if hlUp s a then hHlCtl a (hlCtlRw s a ||| 0x100) s else []),
  fun s => (List.range 16).flatMap (fun g =>
    (if laneUp s g then [.fld (Reg.LN_RATE g) 31 31 0] else []) ++
    (if feUp s (g / 4) then [.fld (Reg.WP_RATE (g / 4) (g % 4)) 31 31 0] else []))]

/-- MC1 to MC3 halt (PS5), or run again unless the debug port holds them. -/
def coresHalt (on : Bool) : Act := fun s =>
  let dbg := s.fld Reg.DBG_CORE 3 0
  [.upd (fun d => { d with rst := { d.rst with cores := (List.range 4).map (fun c =>
      let x := d.rst.cores.getD c .waiting
      if c = 0 then x
      else if on then (if x == .running then .halted else x)
      else if x == .halted && !dbg.testBit c then .running else x) } })]

/-- The device enters a power state with the actions of Table 14.5. [DESIGN CHOICE, log 96, safe] -/
def enterPs (n : Nat) : Act := fun s =>
  let old := s.dyn.pwr.ps
  if n = old then []
  else seqs [
    if 2 ≤ n && old < 2 then lanesOff else skip,
    if 3 ≤ n && old < 3 then unloadAll else skip,
    if n = 5 then coresHalt true else if old = 5 then coresHalt false else skip,
    fun _ => [updPwr (fun p => { p with ps := n, lastOp := if n < 2 then n else p.lastOp })]] s

/-- An I/O command in a non-operational state returns the device to the last operational state (R314). -/
def ioWake : Act := fun s => if 2 ≤ s.dyn.pwr.ps then enterPs s.dyn.pwr.lastOp s else []

/-- An I/O command has been fetched and not completed. -/
def ioBusy (s : State) : Bool := s.dyn.hq.cmds.any (fun c => !c.admin && c.done.isNone && !c.orphan)

/-- APST_IDLE_EXPIRY (R314, R429): the idle time has passed with no I/O command at hand. -/
def execApstIdleExpiry (s : State) : Res :=
  run (fun s =>
    match s.dyn.zn.apst[s.dyn.pwr.ps]? with
    | some (itps, itpt) => if s.up 19 && s.dyn.zn.apste && itpt ≠ 0 && itps ≤ 5 && !ioBusy s then enterPs itps s else []
    | none => []) s

/-! Sensors (R411-R417). -/

/-- Change the thermal monitor's state. -/
def updThm (g : ThmD → ThmD) : Eff := .upd (fun d => { d with thm := g d.thm })

/-- The sensors excluded: the four lowest-numbered of bits 4 to 23 at most (R417). -/
def exclMask (s : State) : List Nat :=
  ((bitsOf 24 (s.fld Reg.THM_EXCL 23 0)).filter (fun i => 4 ≤ i)).take 4

/-- A sensor counts (R413, R417). -/
def sensCounted (s : State) (i : Nat) : Bool :=
  if i < 24 then !(exclMask s).contains i
  else if i < 28 then s.bit (Reg.HL_CTL (i - 24)) 1
  else s.bit Reg.THM_CTL (i - 28)

/-- A sensor's reading in 1/16 °C. -/
def sensTemp (s : State) (i : Nat) : Int := sgn 16 (s.reg (Reg.THM_SENSE i)).toNat

/-- A sensor has been declared broken (R416). -/
def sensBroken (s : State) (i : Nat) : Bool := s.bit Reg.THM_BROKEN i

/-- A sensor's register takes a reading, 255 °C where it is broken (R416). -/
def putSens (i : Nat) (t : Int) : Act := fun s =>
  let b := sensBroken s i
  [.reg (Reg.THM_SENSE i) (w32 ((if b then 2 ^ 31 else 0) + (if sensCounted s i then 2 ^ 30 else 0) +
    (if b then 0x0FF0 else enc 16 t)))]

/-- A sensor is declared broken (R416). -/
def breakSens (i : Nat) : Act := fun s =>
  if sensBroken s i then [] else [.fld Reg.THM_BROKEN i i 1, .sq Reg.THM_STAT 64]

/-- The nearest non-excluded on-die sensor below (or above) an index, modulo 24 (R416). -/
def neighbour (s : State) (i : Nat) (up : Bool) : Nat :=
  let c := (List.range 23).map (fun k => if up then (i + 1 + k) % 24 else (i + 23 - k) % 24)
  (c.find? (fun k => !(exclMask s).contains k)).getD i

/-- A raw conversion as a code, the ends of the range outside every temperature. -/
def convCode : Conv → Int
  | .temp t => t
  | .railLow => -0x10000
  | .railHigh => 0x10000

/-- The sensor a conversion's place in the list belongs to: TS0 to TS23, then the diodes (R413). -/
def convSens (k : Nat) : Nat := if k < 24 then k else k + 4

/-- One sensor is converted: range and repeat checks (R416). [DEDUCED, log 45, unsafe] -/
def convert (i : Nat) (c : Conv) : Act := fun s =>
  let x := s.dyn.thm.sens.getD i {}
  let rep := if x.raw = some (convCode c) then x.rep + 1 else 0
  let n := s.fld Reg.THM_BRK_CFG 7 0
  let bad := sensCounted s i && (c == .railLow || c == .railHigh || (n ≠ 0 && n ≤ rep))
  seqs [fun _ => [updThm (fun t => { t with sens := modAt t.sens i (fun y => { y with raw := some (convCode c), rep := rep }) })],
    if bad then breakSens i else skip,
    putSens i (match c with
      | .temp t => t
      | .railLow => -2048
      | .railHigh => 0x0FF0)] s

/-- The neighbour check of an on-die sensor after all are converted (R416). -/
def nbrCheck (i : Nat) : Act := fun s =>
  let far (k : Nat) : Bool := 16 * max 1 (s.fld Reg.THM_BRK_CFG 15 8) < (sensTemp s i - sensTemp s k).natAbs
  let n := if far (neighbour s i false) && far (neighbour s i true) then (s.dyn.thm.sens.getD i {}).nbr + 1 else 0
  if !sensCounted s i then []
  else seqs [fun _ => [updThm (fun t => { t with sens := modAt t.sens i (fun y => { y with nbr := n }) })],
    if 8 ≤ n then seqs [breakSens i, fun s => putSens i (sensTemp s i) s] else skip] s

/-! Thresholds and levels (R414, R415). -/

/-- The threshold set of a sensor: 0 die, 1 head, 2 diode. -/
def sensSet (i : Nat) : Nat := if i < 24 then 0 else if i < 28 then 1 else 2

/-- WARN, THROTTLE or CRITICAL (k = 0, 1, 2) of a set, in °C, with the limits of Table 14.10. -/
def thmThr (s : State) (set k : Nat) : Int :=
  let f (i : Nat) : Int := sgn 8 (s.fld (Reg.THM_THR set) (8 * i + 7) (8 * i))
  let w := f 0
  let t := max w (f 1)
  let c := max t (f 2)
  if k = 0 then w else if k = 1 then t else if set = 0 then min 124 c else c

/-- The counted sensors. -/
def countedSens (s : State) : List Nat := (List.range 30).filter (sensCounted s)

/-- A level's state after the readings: entered when any counted sensor reaches it, left when all are 3 °C below. -/
def lvlNext (s : State) (k : Nat) : Bool :=
  if s.dyn.thm.lvl.testBit k then (countedSens s).any (fun i => 16 * thmThr s (sensSet i) k - 48 < sensTemp s i)
  else (countedSens s).any (fun i => 16 * thmThr s (sensSet i) k ≤ sensTemp s i)

/-- The grace time in µs (Table 14.10). -/
def graceUs (s : State) : Nat := min 600 (max 1 (s.fld Reg.THM_GRACE 9 0)) * 100000

/-- Enforcement begins (R419). -/
def enforce : Act := fun s =>
  [.fld Reg.THM_STAT 11 10 2, .sq Reg.THM_STAT 16, .cnt Reg.THM_ENF_CNT 31 0 1] ++
  (if s.up 100 then [.fld Reg.SHL_CTL 1 1 1] else [])

/-- THROTTLE is entered (R418, R420). -/
def enterThrottle : Act := fun s =>
  seqs [fun _ => [.sq Reg.THM_STAT 4], raiseHeat,
    (match s.dyn.thm.rel with
      | some t => if s.dyn.us ≤ t + graceUs s then enforce else fun _ => [.fld Reg.THM_STAT 10 10 1]
      | none => fun _ => [.fld Reg.THM_STAT 10 10 1])] s

/-- THROTTLE is left: enforcement ends, a running grace timer stops (R420). [DEDUCED, log 45, unsafe] -/
def leaveThrottle : Act := fun s =>
  if s.bit Reg.THM_STAT 11 then
    [.fld Reg.THM_STAT 11 10 0, .sq Reg.THM_STAT 32, updThm (fun t => { t with rel := some s.dyn.us })] ++
    (if s.up 100 then [.fld Reg.SHL_CTL 1 1 0] else [])
  else [.fld Reg.THM_STAT 10 10 0]

/-- CRITICAL is entered (R422); a Calibrate run ends, the set unchanged (R201). [DEDUCED, log 35, unsafe] -/
def enterCrit : Act := fun _ => [.sq Reg.THM_STAT 8, .emit .interrupt, .upd (fun d => { d with cal := none })]

/-- The hottest counted on-die sensor, the lowest index on a tie. -/
def hottest (s : State) : Nat :=
  (List.range 24).foldl (fun m i => if sensCounted s i && (!sensCounted s m || sensTemp s m < sensTemp s i) then i else m) 0

/-- Levels and their events, from the readings (R415). -/
def thmLevels : Act := fun s =>
  let old (k : Nat) : Bool := s.dyn.thm.lvl.testBit k
  let new := (List.range 3).map (lvlNext s)
  let on (k : Nat) : Bool := new.getD k false
  let lvl := (if on 0 then 1 else 0) + (if on 1 then 2 else 0) + (if on 2 then 4 else 0)
  seqs [
    fun _ => [updThm (fun t => { t with lvl := lvl }),
      .fld Reg.THM_STAT 15 14 (if on 2 then 3 else if on 1 then 2 else if on 0 then 1 else 0)],
    if on 0 && !old 0 then (fun _ => [.sq Reg.THM_STAT 2]) else skip,
    if on 1 && !old 1 then enterThrottle else if old 1 && !on 1 then leaveThrottle else skip,
    if on 2 && !old 2 then enterCrit else skip] s

/-- A reading in kelvin (R421). [DEDUCED, log 45, unsafe] -/
def kelvin (t : Int) : Nat := ((t + 8) / 16 + 273).toNat

/-- The sensor TMPSEL selects (R421). -/
def tmpSens (s : State) (k : Nat) : Nat := if k = 0 then hottest s else 23 + k

/-- The over threshold of a TMPSEL, by default die WARN. -/
def tOver (s : State) (k : Nat) : Nat := (s.dyn.zn.tOver.getD k none).getD (thmThr s 0 0 + 273).toNat

/-- The under threshold of a TMPSEL. -/
def tUnder (s : State) (k : Nat) : Nat := (s.dyn.zn.tUnder.getD k none).getD 0

/-- A TMPSEL's reading stands at or above the over threshold. -/
def isOver (s : State) (k : Nat) : Bool := sensCounted s (tmpSens s k) && tOver s k ≤ kelvin (sensTemp s (tmpSens s k))

/-- A TMPSEL's reading stands at or below the under threshold. -/
def isUnder (s : State) (k : Nat) : Bool := sensCounted s (tmpSens s k) && kelvin (sensTemp s (tmpSens s k)) ≤ tUnder s k

/-- Readings that cross a host threshold raise the event (R421). -/
def thmHost : Act := fun s =>
  let o := (List.range 7).map (isOver s)
  let u := (List.range 7).map (isUnder s)
  let fire := (List.range 7).any (fun k => (o.getD k false && !s.dyn.thm.above.getD k false) ||
    (u.getD k false && !s.dyn.thm.below.getD k false))
  seqs [fun _ => [updThm (fun t => { t with above := o, below := u })], if fire then raiseHeat else skip] s

/-- Bit 1 of the SMART Critical Warning (R421, R422). -/
def heatWarn (s : State) : Bool :=
  s.dyn.thm.above.any (fun b => b) || s.dyn.thm.below.any (fun b => b) || s.dyn.thm.lvl.testBit 2

/-- THM_HOT and the interval (R412). -/
def thmHot : Act := fun s =>
  let h := hottest s
  let t := sensTemp s h
  [.reg Reg.THM_HOT (w32 (h * 65536 + enc 16 t)),
   .fld Reg.THM_STAT 13 12 (if 1952 ≤ t then 2 else if 16 * (thmThr s 0 1 - 10) ≤ t then 1 else 0)]

/-! The media safe group and the trip (R148, R423). -/

/-- The media safe group falls: gates low, front-end links and voice-coil links silent (R148). A sector being written is left
partial (R141). -/
def mediaSafe : Act := seqs [
  each (List.range 4) (fun a => seqs [
    each (List.range 4) (fun j s =>
      if pathState s a j = 2 then [mediaPut (pathHead s a j) (pathBand s a j) (s.path a j).next [] true] else []),
    gatesLow a, feSilent a])]

/-- The first counted on-die sensor at or above 125 °C. [DEDUCED, log 45, unsafe] -/
def tripSens (s : State) : Option Nat := (List.range 24).find? (fun i => sensCounted s i && 2000 ≤ sensTemp s i)

/-- The trip: the beached state, which overrides a reset sequence in progress (R423). `lvl` is the level before it. -/
def tripNow (i lvl : Nat) : Act := fun s =>
  seqs [mediaSafe, fun _ => [.upd (fun d => { d with
    rst := { d.rst with beached := true, seq := none },
    aon := { d.aon with tripDue := true, tripUs := d.us, tripLvl := lvl, tripLatch := w32 (2 ^ 31 + i * 2 ^ 24 + (if sensBroken s i then 65536 else 0) +
      (if sensBroken s i then 0x0FF0 else enc 16 (sensTemp s i))) } })]] s

/-- THERMAL_CONVERSION (R412): the on-die sensors, and the diodes that count, are converted. -/
def execThermalConversion (convs : List Conv) (s : State) : Res :=
  let lvl := s.fld Reg.THM_STAT 15 14
  run (fun s =>
    if !s.up 2 then []
    else seqs [
      each ((List.range convs.length).zip convs) (fun p s =>
        if p.1 < 24 || (p.1 < 26 && sensCounted s (convSens p.1)) then convert (convSens p.1) p.2 s else []),
      each (List.range 24) nbrCheck, thmHot, thmLevels, thmHost,
      fun s => match tripSens s with
        | some i => tripNow i lvl s
        | none => []] s) s

/-- A head-region reading has changed: levels, and write power codes (R132, R413). -/
def headSample (act : Nat) : Act :=
  seqs [thmLevels, thmHost, each (List.range 16) (fun k => sendCode act k)]

/-- MS_TEMP_FRAME (R413, R132). -/
def execMsTempFrame (act : Fin 4) (value : BitVec 16) (crcOk : Bool) (s : State) : Res :=
  run (fun s =>
    if !hlUp s act.val || !s.bit (Reg.HL_CTL act.val) 1 then []
    else if !crcOk then [.cnt (Reg.HL_CRC_CNT act.val) 15 0 1]
    else if !s.up 2 then []
    else seqs [putSens (24 + act.val) (sgn 16 value.toNat), headSample act.val] s) s

/-- HEAD_SENSOR_TIMEOUT (R416): no valid TEMP frame for 4 ms while MS_EN is 1. -/
def execHeadSensorTimeout (act : Fin 4) (s : State) : Res :=
  run (fun s =>
    if s.up 2 && s.bit (Reg.HL_CTL act.val) 1 then
      seqs [breakSens (24 + act.val), putSens (24 + act.val) 0, headSample act.val] s
    else []) s

/-- GRACE_EXPIRY (R419). -/
def execGraceExpiry (s : State) : Res :=
  run (fun s => if s.up 2 && s.bit Reg.THM_STAT 10 then enforce s else []) s

/-! The trip record (R424, Table 14.3). -/

/-- Change the always-on state. -/
def updAon (g : AonD → AonD) : Eff := .upd (fun d => { d with aon := g d.aon })

/-- The record of Table 14.3. -/
def tripRecord (s : State) (erase : Nat) : List Byte :=
  let l := s.dyn.aon.tripLatch
  let b := leBytes 4 0x5A3E7219 ++ leBytes 8 s.dyn.aon.tripUs ++ [b8 (l.fld 28 24), if l.bit 16 then 1 else 0] ++
    leBytes 2 (l.fld 15 0) ++ leBytes 4 s.dyn.aon.count ++ [b8 s.dyn.aon.tripLvl, b8 erase] ++ zeros 6
  b ++ leBytes 4 (crc32c b).toNat

/-- The writer ends with an outcome. -/
def tripEnd (n : Nat) : Act := fun _ => [updAon (fun a => { a with tripStat := w32 n, tripDue := false })]

/-- TRIP_RECORD_WRITE (R424): `wait` says which of the waits the writer makes runs out, `suspended` that the NOR reports the erase
suspended, `readBackOk` that the record reads back as written. -/
def execTripRecordWrite (wait : TripWait) (readBackOk suspended : Bool) (s : State) : Res :=
  run (fun s =>
    let a := s.dyn.aon
    let op := a.norOp.map (fun p => p.1)
    let erase := if op = some 3 || op = some 4 then (if a.suspend && suspended then 1 else 2) else 0
    if !s.dyn.rst.beached || !a.tripDue then []
    else if op = some 2 && wait == .before then tripEnd 4 s
    else if erase = 2 && wait == .before then tripEnd 5 s
    else if !a.tripNext.bit 31 then tripEnd 2 s
    else
      let at_ := a.tripNext.fld 27 5 * 32
      if (norPass s (s.norBytes at_ 32)).any (fun b => b != 0xFF) then seqs [fun _ => [.draw], tripEnd 3] s
      else if wait == .program then seqs [fun _ => [.draw], fun s => [.draw, .nor at_ (leBytes 32 s.fresh)], tripEnd 4] s
      else if !readBackOk then seqs [fun _ => [.draw], fun s => [.draw, .nor at_ (leBytes 32 s.fresh)], tripEnd 6] s
      else seqs [fun _ => [.draw], fun s => [.draw, .nor at_ (norPass s (tripRecord s erase))], tripEnd 1] s) s

end Sys2Proof.Machine
end

