-- ==== Sys2Proof/Machine/Aes.lean ====
section
/-! DEFINITION. AES as Shoal's engines use it (R320, R338, R339, R347): the block cipher with 128-bit and 256-bit keys, XTS, and the
CTR and CBC state of CRYPT entries. Blocks are lists of 16 bytes. -/

namespace Sys2Proof.Machine

/-- The AES substitution table, 16 entries to a number, entry 0 lowest. -/
def aesSboxRows : List Nat :=
  [0x76ABD7FE2B670130C56F6BF27B777C63,
   0xC072A49CAFA2D4ADF04759FA7DC982CA,
   0x1531D871F1E5A534CCF73F362693FDB7,
   0x75B227EBE28012079A059618C323C704,
   0x842FE329B3D63B52A05A6E1B1A2C8309,
   0xCF584C4A39BECB6A5BB1FC20ED00D153,
   0xA89F3C507F02F94585334D43FBAAEFD0,
   0xD2F3FF1021DAB6BCF5389D928F40A351,
   0x73195D643D7EA7C41744975FEC130CCD,
   0xDB0B5EDE14B8EE4688902A22DC4F8160,
   0x79E4959162ACD3C25C2406490A3A32E0,
   0x08AE7A65EAF4566CA94ED58D6D37C8E7,
   0x8A8BBD4B1F74DDE8C6B4A61C2E2578BA,
   0x9E1DC186B95735610EF6034866B53E70,
   0xDF2855CEE9871E9B948ED9691198F8E1,
   0x16BB54B00F2D99416842E6BF0D89A18C]

/-- The inverse substitution table, 16 entries to a number, entry 0 lowest. -/
def aesInvRows : List Nat :=
  [0xFBD7F3819EA340BF38A53630D56A0952,
   0xCBE9DEC444438E3487FF2F9B8239E37C,
   0x4EC3FA420B954CEE3D23C2A632947B54,
   0x25D18B6D49A25B76B224D92866A12E08,
   0x92B6655DCC5CA4D41698688664F6F872,
   0x849D8DA75746155EDAB9EDFD5048706C,
   0x0645B3B80558E4F70AD3BC8C00ABD890,
   0x6B8A130103BDAFC1020F3FCA8F1E2CD0,
   0x73E6B4F0CECFF297EADC674F4111913A,
   0x6EDF751CE837F9E28535ADE72274AC96,
   0x1BBE18AA0E62B76F89C5291D711AF147,
   0xF45ACD78FEC0DB9A2079D2C64B3E56FC,
   0x5FEC8027591012B131C7078833A8DD1F,
   0xEF9CC9939F7AE52D0D4AB519A97F5160,
   0x619953833CBBEBC8B0F52AAE4D3BE0A0,
   0x7D0C2155631469E126D677BA7E042B17]

/-- Look a byte up in a table of 16 rows. -/
def tableByte (rows : List Nat) (b : Byte) : Byte := b8 (rows.getD (b.toNat / 16) 0 / 2 ^ (8 * (b.toNat % 16)))

/-- SubBytes on one byte. -/
def aesSub (b : Byte) : Byte := tableByte aesSboxRows b

/-- Its inverse. -/
def aesInv (b : Byte) : Byte := tableByte aesInvRows b

/-- Multiply by x in GF(2^8) with polynomial 0x11B. -/
def aesX (b : Byte) : Byte := if b.getLsbD 7 then (b <<< 1) ^^^ 0x1B else b <<< 1

/-- The key schedule: words of 4 bytes, newest last. `i` words exist; `rc` is the next round constant. -/
def aesExpand (nk : Nat) : Nat → Nat → Byte → List (List Byte) → List (List Byte)
  | 0, _, _, ws => ws
  | n + 1, i, rc, ws =>
    let prev := ws.getLastD []
    let t :=
      if i % nk = 0 then
        match prev.drop 1 ++ prev.take 1 with
        | a :: rest => (aesSub a ^^^ rc) :: rest.map aesSub
        | [] => []
      else if nk = 8 && i % nk = 4 then prev.map aesSub
      else prev
    aesExpand nk n (i + 1) (if i % nk = 0 then aesX rc else rc) (ws ++ [xorBytes (ws.getD (i - nk) []) t])

/-- Cut a byte string into words of 4 bytes. -/
def words4 : Nat → List Byte → List (List Byte)
  | 0, _ => []
  | n + 1, bs => bs.take 4 :: words4 n (bs.drop 4)

/-- The round keys of a 16-byte or 32-byte key, 16 bytes each. -/
def aesKeys (key : List Byte) : List (List Byte) :=
  let nk := key.length / 4
  let nr := nk + 6
  let ws := aesExpand nk (4 * (nr + 1) - nk) nk 1 (words4 nk key)
  (List.range (nr + 1)).map (fun r => ((ws.drop (4 * r)).take 4).flatten)

/-- ShiftRows: byte 4c + r comes from byte 4(c + r) + r. -/
def aesShift (b : List Byte) : List Byte := (List.range 16).map (fun i => b.getD ((4 * (i / 4 + i % 4) + i % 4) % 16) 0)

/-- Its inverse. -/
def aesUnshift (b : List Byte) : List Byte := (List.range 16).map (fun i => b.getD ((4 * (i / 4 + 4 - i % 4) + i % 4) % 16) 0)

/-- MixColumns on one column. -/
def aesMixCol (c : List Byte) : List Byte :=
  let a := c.getD 0 0
  let b := c.getD 1 0
  let d := c.getD 2 0
  let e := c.getD 3 0
  [aesX a ^^^ aesX b ^^^ b ^^^ d ^^^ e, a ^^^ aesX b ^^^ aesX d ^^^ d ^^^ e, a ^^^ b ^^^ aesX d ^^^ aesX e ^^^ e,
   aesX a ^^^ a ^^^ b ^^^ d ^^^ aesX e]

/-- MixColumns. -/
def aesMix (b : List Byte) : List Byte := (words4 4 b).flatMap aesMixCol

/-- Its inverse: three more applications (MixColumns has order 4). -/
def aesUnmix (b : List Byte) : List Byte := aesMix (aesMix (aesMix b))

/-- Encrypt one block under round keys. [DEDUCED, log 63, unsafe] -/
def aesEnc (ks : List (List Byte)) (b : List Byte) : List Byte :=
  match ks with
  | [] => b
  | k0 :: rest =>
    let mid := rest.dropLast.foldl (fun x k => xorBytes (aesMix (aesShift (x.map aesSub))) k) (xorBytes b k0)
    xorBytes (aesShift (mid.map aesSub)) (rest.getLastD [])

/-- Decrypt one block under round keys. -/
def aesDec (ks : List (List Byte)) (b : List Byte) : List Byte :=
  match ks with
  | [] => b
  | k0 :: rest =>
    let mid := (aesUnshift (xorBytes b (rest.getLastD []))).map aesInv
    let out := rest.dropLast.foldr (fun k x => (aesUnshift (aesUnmix (xorBytes x k))).map aesInv) mid
    xorBytes out k0

/-! XTS (R338, R339). -/

/-- Multiply a 128-bit little-endian tweak by x in GF(2^128). -/
def xtsDouble (t : Nat) : Nat := if 2 ^ 127 ≤ t then Nat.xor (2 * t - 2 ^ 128) 0x87 else 2 * t

/-- XTS over whole blocks with a block function and a tweak. -/
def xtsBlocks (g : List Byte → List Byte) : Nat → Nat → List Byte → List Byte
  | 0, _, _ => []
  | n + 1, t, bs =>
    let tb := leBytes 16 t
    xorBytes (g (xorBytes (fit 16 (bs.take 16)) tb)) tb ++ xtsBlocks g n (xtsDouble t) (bs.drop 16)

/-- One 4,096-byte data unit under a 32-byte or 64-byte key whose first half is the data key (R338), with the tweak given. [DEDUCED, log 63, unsafe] -/
def xts (enc : Bool) (key : List Byte) (tweak : Nat) (bs : List Byte) : List Byte :=
  let h := key.length / 2
  let kd := aesKeys (key.take h)
  let t := ofLE (aesEnc (aesKeys (key.drop h)) (leBytes 16 tweak))
  xtsBlocks (if enc then aesEnc kd else aesDec kd) 256 t bs

/-! CRYPT entries (R347). -/

/-- Where a CRYPT leaves off: the last ciphertext block (CBC), or the next counter block and unused keystream (CTR). -/
structure CryptSt where
  prev : List Byte
  ctr  : Nat
  ks   : List Byte
deriving DecidableEq, Repr

/-- The next counter block: the low 64 bits increment modulo 2^64 (R347). -/
def ctrNext (c : Nat) : Nat := c / 2 ^ 64 * 2 ^ 64 + (c + 1) % 2 ^ 64

/-- Encrypt bytes of at most one block with the next unused keystream bytes. -/
def ctrTake (ks : List (List Byte)) (st : CryptSt) (bs : List Byte) : List Byte × CryptSt :=
  let have_ := if st.ks.length < bs.length then st.ks ++ aesEnc ks (beBytes 16 st.ctr) else st.ks
  let c := if st.ks.length < bs.length then ctrNext st.ctr else st.ctr
  (xorBytes bs have_, { st with ctr := c, ks := have_.drop bs.length })

/-- The blocks of a range from the `i`-th on (R347): `cb` of every `cb + sb` are encrypted, all where there is no pattern; a final
partial block is encrypted only in CTR without a pattern. -/
def cryptBlocks (ks : List (List Byte)) (cbc : Bool) (cb sb : Nat) : Nat → Nat → CryptSt → List Byte → List Byte × CryptSt
  | 0, _, st, bs => (bs, st)
  | n + 1, i, st, bs =>
    if bs.isEmpty then ([], st)
    else
      let b := bs.take 16
      let on := if cb + sb = 0 then b.length = 16 || !cbc else b.length = 16 && i % (cb + sb) < cb
      let r : List Byte × CryptSt :=
        if !on then (b, st)
        else if cbc then
          let c := aesEnc ks (xorBytes b st.prev)
          (c, { st with prev := c })
        else ctrTake ks st b
      let r2 := cryptBlocks ks cbc cb sb n (i + 1) r.2 (bs.drop 16)
      (r.1 ++ r2.1, r2.2)

end Sys2Proof.Machine
end

