-- ==== Sys2Proof/Machine/Recipe.lean ====
section
/-! DEFINITION. Derive recipes: their layout, validation and the execution of a segment (R343, R344, R346, R347). -/

namespace Sys2Proof.Machine

/-- A recipe entry (Table 11.7) with its recipe offset. -/
structure Entry where
  off : Nat
  b   : List Byte
deriving DecidableEq, Repr

/-- OP. -/
def Entry.op (e : Entry) : Nat := leAt e.b 0 1
/-- DST. -/
def Entry.dst (e : Entry) : Nat := leAt e.b 8 4
/-- LEN. -/
def Entry.len (e : Entry) : Nat := leAt e.b 12 4
/-- SRC. -/
def Entry.src (e : Entry) : Nat := leAt e.b 16 4
/-- MODE is CBC. -/
def Entry.cbc (e : Entry) : Bool := (leAt e.b 1 1).testBit 0
/-- CHAIN. -/
def Entry.chain (e : Entry) : Bool := (leAt e.b 1 1).testBit 1
/-- KEY. -/
def Entry.key (e : Entry) : Nat := leAt e.b 4 2 % 1024

/-- The header's fields (Table 11.6). -/
def rcNent (r : List Byte) : Nat := leAt r 6 2
/-- OUT_LEN. -/
def rcOut (r : List Byte) : Nat := leAt r 8 4
/-- LIT_OFS. -/
def rcLitOfs (r : List Byte) : Nat := leAt r 12 4
/-- LIT_LEN. -/
def rcLitLen (r : List Byte) : Nat := leAt r 16 4

/-- The entries of a recipe, in order. -/
def entriesFrom (off : Nat) : Nat → List Byte → List Entry
  | 0, _ => []
  | n + 1, bs => ⟨off, fit 32 (bs.take 32)⟩ :: entriesFrom (off + 32) n (bs.drop 32)

/-- The entries of a recipe (R343). -/
def rcEntries (r : List Byte) : List Entry := entriesFrom 64 (rcNent r) (r.drop 64)

/-- Rule 1 of R344. -/
def rcHeaderOk (r : List Byte) (size : Nat) : Bool :=
  64 ≤ size && leAt r 0 4 == 0x5A3EDE71 && leAt r 4 2 == 1 && (slice r 20 44).all (fun b => b == 0) &&
  1 ≤ rcNent r && rcNent r ≤ 2046 && 64 + 32 * rcNent r ≤ size &&
  rcLitOfs r + rcLitLen r ≤ size && 64 + 32 * rcNent r ≤ rcLitOfs r

/-- Rule 8 of R344: OP is legal and every zero field is zero. -/
def rcZeros (e : Entry) : Bool :=
  let z := fun (o n : Nat) => (slice e.b o n).all (fun b => b == 0)
  if e.op = 4 then leAt e.b 1 1 < 4 && leAt e.b 2 1 < 16 && leAt e.b 3 1 < 16 && leAt e.b 4 2 < 1024 && z 6 2
  else 1 ≤ e.op && e.op ≤ 5 && z 1 7 && z 20 12 && (e.op != 1 || e.src == 0)

/-- What validation carries: the current window, where the next one starts, the segment's previous CRYPT. -/
structure RcScan where
  w0   : Nat := 0
  w1   : Nat := 0
  prev : Option Entry := none
deriving DecidableEq, Repr

/-- A range lies within a window. -/
def inside (a n w0 w1 : Nat) : Bool := w0 ≤ a && a + n ≤ w1

/-- The rules of R344 an entry must keep. `slot` gives the length of a key slot and whether it is bound as a media key. -/
def rcEntryOk (r : List Byte) (srcLen : Nat) (slot : Nat → Nat × Bool) (first lastSeg : Bool) (sc : RcScan) (e : Entry) : Bool :=
  rcZeros e && (!first || e.op == 1) &&
  (if e.op = 1 then
    e.dst == sc.w1 && 1 ≤ e.len && e.len ≤ 98304 && e.dst + e.len ≤ rcOut r && (!lastSeg || e.dst + e.len == rcOut r)
  else
    inside e.dst (if e.op = 5 then 32 else e.len) sc.w0 sc.w1 &&
    (match e.op with
      | 2 => e.src + e.len ≤ srcLen
      | 3 => e.src + e.len ≤ rcLitLen r
      | 5 => inside e.src e.len sc.w0 sc.w1
      | _ =>
        let k := slot e.key
        (k.1 == 0 || k.1 == 16 || k.1 == 32) && !k.2 && ((leAt e.b 2 1 == 0) == (leAt e.b 3 1 == 0)) &&
        (!e.chain || (match sc.prev with
          | some p => p.cbc == e.cbc && p.key == e.key
          | none => false))))

/-- The scan after an entry. -/
def rcNext (sc : RcScan) (e : Entry) : RcScan :=
  if e.op = 1 then { w0 := e.dst, w1 := e.dst + e.len, prev := none }
  else if e.op = 4 then { sc with prev := some e }
  else sc

/-- The offset of the first entry that breaks a rule. -/
def rcScan (r : List Byte) (srcLen : Nat) (slot : Nat → Nat × Bool) : Bool → RcScan → List Entry → Option Nat
  | _, _, [] => none
  | first, sc, e :: es =>
    if rcEntryOk r srcLen slot first (!es.any (fun x => x.op == 1)) sc e then rcScan r srcLen slot false (rcNext sc e) es
    else some e.off

/-- Validate a recipe (R344): none, or the STATUS and offset it fails with. -/
def rcCheck (r : List Byte) (size srcLen olen : Nat) (slot : Nat → Nat × Bool) : Option (Nat × Nat) :=
  if !rcHeaderOk r size then some (2, 0)
  else if olen < rcOut r then some (3, 8)
  else (rcScan r srcLen slot true {} (rcEntries r)).map (fun o => (2, o))

/-- The entries after the `k`-th SEG up to the next one, with that SEG. -/
def rcSegment (k : Nat) : List Entry → Option (Entry × List Entry)
  | [] => none
  | e :: es =>
    if e.op = 1 then (if k = 0 then some (e, es.takeWhile (fun x => x.op != 1)) else rcSegment (k - 1) es)
    else rcSegment k es

/-- How many segments a recipe has. -/
def rcSegCount (r : List Byte) : Nat := ((rcEntries r).filter (fun e => e.op == 1)).length

/-- Replace part of a window. -/
def winPut (w : List Byte) (o : Nat) (bs : List Byte) : List Byte := w.take o ++ bs ++ w.drop (o + bs.length)

/-- A segment in progress: the window and the state of its last CRYPT. -/
structure SegSt where
  win : List Byte
  st  : Option CryptSt := none
deriving DecidableEq, Repr

/-- Execute one entry on the window (R346, R347). `src` gives source bytes, `key` the copied key of a slot. -/
def segEntry (r : List Byte) (src : Nat → Nat → List Byte) (key : Nat → List Byte) (w0 : Nat) (x : SegSt) (e : Entry) : SegSt :=
  match e.op with
  | 2 => { x with win := winPut x.win (e.dst - w0) (src e.src e.len) }
  | 3 => { x with win := winPut x.win (e.dst - w0) (slice r (rcLitOfs r + e.src) e.len) }
  | 4 =>
    let iv := slice e.b 16 16
    let fresh : CryptSt := { prev := iv, ctr := ofBE iv, ks := [] }
    let st := if e.chain then x.st.getD fresh else fresh
    let o := cryptBlocks (aesKeys (key e.key)) e.cbc (leAt e.b 2 1) (leAt e.b 3 1) (e.len / 16 + 1) 0 st
      (slice x.win (e.dst - w0) e.len)
    { win := winPut x.win (e.dst - w0) o.1, st := some o.2 }
  | 5 => { x with win := winPut x.win (e.dst - w0) (sha256 (slice x.win (e.src - w0) e.len)) }
  | _ => x

/-- The window of a segment after its entries, from all zeros (R346). -/
def segWindow (r : List Byte) (src : Nat → Nat → List Byte) (key : Nat → List Byte) (seg : Entry) (es : List Entry) : List Byte :=
  (es.foldl (segEntry r src key seg.dst) { win := zeros seg.len }).win

/-- The output a whole recipe gives. -/
def rcOutput (r : List Byte) (src : Nat → Nat → List Byte) (key : Nat → List Byte) : List Byte :=
  (List.range (rcSegCount r)).flatMap (fun k =>
    match rcSegment k (rcEntries r) with
    | some (seg, es) => segWindow r src key seg es
    | none => [])

end Sys2Proof.Machine
end

