-- ==== Sys2Proof/Machine/Shoal.lean ====
section
/-! DEFINITION. Shoal: submission, taking and stealing, the tasks, deadlines and fencing, key slots (R320-R350, R534, R535). -/

namespace Sys2Proof.Machine

/-- Change Shoal's state. -/
def updShl (g : ShlD → ShlD) : Eff := .upd (fun d => { d with shl := g d.shl })

/-- An engine. -/
def State.eng (s : State) (e : Nat) : SEng := s.dyn.shl.engs.getD e {}

/-- Change an engine. -/
def updEng (e : Nat) (g : SEng → SEng) : Eff := updShl (fun d => { d with engs := modAt d.engs e g })

/-- A pool's FIFO. -/
def State.fifo (s : State) (p : Nat) : List STask := s.dyn.shl.fifos.getD p []

/-- Pool p's part of Shoal runs (R535). -/
def poolUp (s : State) (p : Nat) : Bool := s.up (25 + p) && s.dyn.pwr.ps != 5

/-- Every engine that sleeps wakes (R328): something was submitted or pushed. -/
def wakeAll : Eff := updShl (fun d => { d with engs := d.engs.map (fun e => { e with asleep := false }) })

/-! The descriptor (Tables 11.2 to 11.4). -/

/-- OPCODE. -/
def STask.op (t : STask) : Nat := if t.seg.isSome then 0x85 else leAt t.desc 0 1
/-- PLAIN. -/
def STask.plain (t : STask) : Bool := (leAt t.desc 1 1).testBit 0
/-- NOTIFY. -/
def STask.notify (t : STask) : Bool := (leAt t.desc 1 1).testBit 1
/-- LEN. -/
def STask.len (t : STask) : Nat := leAt t.desc 4 4
/-- SRC. -/
def STask.src (t : STask) : Nat := leAt t.desc 8 8
/-- DST. -/
def STask.dst (t : STask) : Nat := leAt t.desc 16 8
/-- AUX. -/
def STask.aux (t : STask) : Nat := leAt t.desc 24 8
/-- KEY. -/
def STask.key (t : STask) : Nat := leAt t.desc 32 2 % 1024
/-- COMPL. -/
def STask.compl (t : STask) : Nat := leAt t.desc 48 8
/-- PARAM HEAD. -/
def STask.head (t : STask) : Nat := leAt t.desc 34 1
/-- PARAM KIND. -/
def STask.kind (t : STask) : Nat := leAt t.desc 35 1
/-- PARAM BAND. -/
def STask.band (t : STask) : Nat := leAt t.desc 36 2
/-- PARAM SECTOR. -/
def STask.sector (t : STask) : Nat := leAt t.desc 38 4
/-- PARAM EPOCH. -/
def STask.epoch (t : STask) : Nat := leAt t.desc 42 2
/-- LOST_A and LOST_B as run positions. -/
def STask.lost (t : STask) : List Nat :=
  leAt t.desc 44 1 :: (if leAt t.desc 45 1 = 0xFF then [] else [leAt t.desc 45 1])
/-- The task encrypts or decrypts sectors with its key slot. -/
def STask.keyed (t : STask) : Bool := (t.op == 1 || t.op == 2) && !t.plain

/-- LEN within Table 11.4. -/
def lenOk (op n : Nat) : Bool :=
  match op with
  | 1 => 1 ≤ n && n ≤ 2048
  | 2 => 1 ≤ n && n ≤ 64
  | 3 => n == 64
  | 4 => n == 66
  | 5 => 1 ≤ n && n ≤ 8388608
  | 6 => 1 ≤ n
  | 7 => 1 ≤ n
  | _ => false

/-- The zero bytes of PARAM by opcode (Table 11.3), as the value bytes 34 to 47 may not exceed in the listed places. -/
def paramZero (d : List Byte) (op : Nat) : Bool :=
  let z := fun (o n : Nat) => (slice d o n).all (fun b => b == 0)
  match op with
  | 2 => z 44 4
  | 3 => z 35 1 && z 44 4
  | 4 => z 46 2
  | 5 => leAt d 40 1 < 2 && z 41 7
  | 7 => leAt d 34 1 < 2 && z 35 13
  | _ => z 34 14

/-- A descriptor error of R325 (and of R340 for SECT_ENC). `keyLen` is the length of the key its slot holds. -/
def descBad (t : STask) (keyLen : Nat) : Bool :=
  let op := t.op
  let z := fun (o n : Nat) => (slice t.desc o n).all (fun b => b == 0)
  !lenOk op t.len || t.src % 64 != 0 || t.dst % 64 != 0 ||
  leAt t.desc 1 1 / 4 % 16 != 0 || leAt t.desc 32 2 / 1024 != 0 || !z 60 4 || !paramZero t.desc op ||
  (op != 1 && op != 2 && op != 5 && t.aux != 0) ||
  (t.keyed && keyLen != 0 && keyLen != 32 && keyLen != 64) ||
  (op == 2 && 64 < t.sector % 66 + t.len) ||
  (op == 4 && (65 < leAt t.desc 44 1 || (65 < leAt t.desc 45 1 && leAt t.desc 45 1 != 0xFF) ||
    leAt t.desc 44 1 == leAt t.desc 45 1))

/-- The key a slot holds; empty where it holds nothing. -/
def State.shlKey (s : State) (slot : Nat) : List Byte :=
  match s.dyn.shl.keys.find? (fun k => k.1 == slot) with
  | some k => k.2
  | none => []

/-! Submission (R323, R325, R333). -/

/-- A commit of SHL_SUBMIT_HIp: the staged low word and the word written; without a stage there is no effect (R48). [DEDUCED, log 62, unsafe] [DESIGN CHOICE, log 129, safe] -/
def hSubmit (p : Nat) (lo : Option Word) (hi : Word) : Act := fun s =>
  match lo with
  | none => []
  | some low =>
  let a := low.toNat / 64 * 64 + hi.fld 3 0 * 2 ^ 32
  let latch : Act := fun _ => [.reg (Reg.SHL_SUBMIT_LO p) low, .reg (Reg.SHL_SUBMIT_HI p) hi]
  if 1024 ≤ (s.fifo p).length || s.dyn.shl.engs.any (fun e => (e.wait.map (fun t => t.pool)) == some p) then
    seqs [latch, fun _ => [.sq Reg.SHL_STAT 16]] s
  else match (if memReady s then reqRead s a 64 else none) with
    | none => seqs [latch, (if memReady s then reqReadEv true a 64 2 else skip), fun _ => [.sq Reg.SHL_STAT 64]] s
    | some d =>
      let id := s.dyn.shl.next
      let t : STask := { id := id, pool := p, desc := d, gen := leAt d 2 2 }
      if t.compl % 16 ≠ 0 then seqs [latch, reqReadEv true a 64 2, fun _ => [.sq Reg.SHL_STAT 64]] s
      else seqs [latch, reqReadEv true a 64 2, fun _ => [updShl (fun x => { x with
          fifos := modAt x.fifos p (fun f => f ++ [t]), flight := (id, t.gen) :: x.flight, next := id + 1 }), wakeAll]] s

/-- SHOAL_SUBMIT (R323). -/
def execShoalSubmit (init : Initiator) (pool : Fin 8) (data : Word) (s : State) : Res :=
  run (wrAccess init (Reg.SHL_SUBMIT_HI pool.val)
    (hiWrite init (Reg.SHL_SUBMIT_LO pool.val) (fun lo => hSubmit pool.val lo data))) s

/-! Taking (R327, R328, R336, R338). -/

/-- An engine may take a task: enabled, idle, its memory cleared, not fenced, its pool clocked, not throttled. -/
def canTake (s : State) (e : Nat) : Bool :=
  let x := s.eng e
  s.up 100 && poolUp s (e / 8) && s.bit Reg.SHL_CTL 0 && x.run.isNone && !x.clearing && !x.fenced &&
  !(s.bit Reg.SHL_CTL 1 && 4 ≤ e / 8)

/-- The engine starts a task it has taken from pool p (R325, R338): a bad descriptor or an empty slot ends it at once. -/
def startTask (e p : Nat) (t : STask) : Act := fun s =>
  let k := s.shlKey t.key
  let res : Option (Nat × Nat) :=
    if t.seg.isSome then none
    else if descBad t k.length then some (1, 0)
    else if t.keyed && k.isEmpty then some (5, 0)
    else none
  [updEng e (fun x => { x with
      run := some { task := { t with pool := p }, key := if t.keyed then k else [], res := res },
      asleep := false, sweep := 0, op := t.op, gen := t.gen })]

/-- ENGINE_TAKE_TASK (R327, sources 1 and 2): the head of its own deque, else of its pool's FIFO. -/
def execEngineTakeTask (eng : Fin 64) (s : State) : Res :=
  let e := eng.val
  run (fun s =>
    if !canTake s e then []
    else match (s.eng e).deque, s.fifo (e / 8) with
      | t :: rest, _ => seqs [fun _ => [updEng e (fun x => { x with deque := rest })], startTask e (e / 8) t] s
      | [], t :: rest =>
        seqs [fun _ => [updShl (fun x => { x with fifos := setAt x.fifos (e / 8) rest })], startTask e (e / 8) t] s
      | [], [] => []) s

/-- The seven other engines of the pool in the order of R328, step 1. -/
def ownSweep (s : State) (e : Nat) : List Nat :=
  ((List.range 8).map (fun k => e / 8 * 8 + ((s.eng e).last + 1 + k) % 8)).filter (fun v => v != e)

/-- A sweep goes on to other pools (R328, step 2). -/
def crossOn (s : State) : Bool := s.bit Reg.SHL_CFG 8 || s.bit Reg.SHL_CTL 1

/-- What the attempt at place k of a sweep tries: a deque's tail, or a pool's FIFO head. -/
def sweepAt (s : State) (e k : Nat) : Nat ⊕ Nat :=
  if k < 7 then .inl ((ownSweep s e).getD k e)
  else
    let p := (e / 8 + (k - 7) / 9 + 1) % 8
    if (k - 7) % 9 = 0 then .inr p else .inl (8 * p + (k - 7) % 9 - 1)

/-- A steal has taken a task: it is counted, and within the pool remembered. -/
def stolen (e k v : Nat) (t : STask) : Act :=
  seqs [fun _ => [.cnt (if k < 7 then Reg.SHL_STEAL_CNT else Reg.SHL_XSTEAL_CNT) 31 0 1] ++
      (if k < 7 then [updEng e (fun x => { x with last := v % 8 })] else []),
    startTask e (if k < 7 then e / 8 else v) t]

/-- STEAL_ATTEMPT (R327, R328): one attempt of the sweep of an engine without work of its own. -/
def execStealAttempt (eng : Fin 64) (s : State) : Res :=
  let e := eng.val
  run (fun s =>
    let x := s.eng e
    let k := x.sweep
    if !canTake s e || x.asleep || !x.deque.isEmpty || !(s.fifo (e / 8)).isEmpty then []
    else
      let fail : Act := fun _ => [updEng e (fun y =>
        if k + 1 < (if crossOn s then 70 else 7) then { y with sweep := k + 1 } else { y with sweep := 0, asleep := true })]
      if 7 ≤ k && !crossOn s then fail s
      else match sweepAt s e k with
      | .inl v =>
        match (s.eng v).deque.getLast? with
        | some t => seqs [fun _ => [updEng v (fun y => { y with deque := y.deque.dropLast })],
            stolen e k (if k < 7 then v else v / 8) t] s
        | none => fail s
      | .inr p =>
        match s.fifo p with
        | t :: rest => seqs [fun _ => [updShl (fun y => { y with fifos := setAt y.fifos p rest })], stolen e k p t] s
        | [] => fail s) s

/-! Running a task. -/

/-- The task an engine runs and has not ended, of an opcode. -/
def running (s : State) (e op : Nat) : Option SRun :=
  match (s.eng e).run with
  | some r =>
    let t := r.sub.getD r.task
    if r.res.isNone && t.op = op && s.up 100 && poolUp s (e / 8) && reqReady s then some r else none
  | none => none

/-- The task ends with a STATUS and RESULT, not yet completed. -/
def endTask (e st res : Nat) : Eff := updEng e (fun x => { x with run := x.run.map (fun r => { r with res := some (st, res) }) })

/-- A fenced engine's writes are dropped (R330). -/
def engWrite (e a : Nat) (bs : List Byte) : Act := fun s => if (s.eng e).fenced then [] else reqWrite .shoal false a bs s

/-- A DRAM error ends the run (R534): whatever it had written of its `n` bytes at `dst` is undefined, so the part below MEM_SIZE holds
free bytes. [DESIGN CHOICE, log 121, safe] -/
def dramFail (e dst n : Nat) : Act := seqs [
  fun s => engWrite e dst (leBytes (min n (memEnd s - dst)) s.fresh) s,
  fun _ => [.draw, endTask e 7 0]]

/-- Run a task that reads `n` bytes at `src` and gives STATUS, RESULT and at most `m` bytes of output: a DRAM error ends it with STATUS 7
(R534). -/
def ioTask (e src n dst m : Nat) (g : List Byte → Nat × Nat × List Byte) : Act := fun s =>
  match reqRead s src n with
  | none => seqs [reqReadEv false src n 2, dramFail e dst m] s
  | some bs =>
    let o := g bs
    if o.2.2.isEmpty then seqs [reqReadEv false src n 2, fun _ => [endTask e o.1 o.2.1]] s
    else if (s.eng e).fenced || memFits s dst o.2.2.length then
      seqs [reqReadEv false src n 2, engWrite e dst o.2.2, fun _ => [endTask e o.1 o.2.1]] s
    else seqs [reqReadEv false src n 2, memAddrErr (max dst (memEnd s) / 64 * 64), dramFail e dst m] s

/-- Cut a byte string into pieces of `k` bytes. -/
def pieces (k : Nat) : Nat → List Byte → List (List Byte)
  | 0, _ => []
  | n + 1, bs => bs.take k :: pieces k n (bs.drop k)

/-- SECT_DEC (R339). -/
def execSectDec (eng : Fin 64) (s : State) : Res :=
  run (fun s =>
    match running s eng.val 1 with
    | none => []
    | some r =>
      let t := r.task
      ioTask eng.val t.src (4160 * t.len) t.dst (4096 * t.len) (fun bs => (0, 0,
        (indexed (pieces 4160 t.len bs)).flatMap (fun p =>
          if t.plain then p.2.take 4096 else xts false r.key (t.aux + p.1) (p.2.take 4096)))) s) s

/-- SECT_ENC (R340). -/
def execSectEnc (eng : Fin 64) (s : State) : Res :=
  run (fun s =>
    match running s eng.val 2 with
    | none => []
    | some r =>
      let t := r.task
      ioTask eng.val t.src (4096 * t.len) t.dst (4160 * t.len) (fun bs => (0, 0,
        (indexed (pieces 4096 t.len bs)).flatMap (fun p =>
          let c := if t.plain then p.2 else xts true r.key (t.aux + p.1) p.2
          dataInfo t.head t.band (t.sector + p.1) t.kind t.epoch c ++ zeros 48))) s) s

/-- PAR_GEN (R341). -/
def execParGen (eng : Fin 64) (s : State) : Res :=
  run (fun s =>
    match running s eng.val 3 with
    | none => []
    | some r =>
      let t := r.task
      ioTask eng.val t.src (4160 * 64) t.dst (4160 * 2) (fun bs =>
        let ds := (pieces 4160 64 bs).map (fun d => d.take 4112)
        (0, 0, parityInfo 0 t.head t.band t.sector t.epoch ds ++ zeros 48 ++
          parityInfo 1 t.head t.band (t.sector + 1) t.epoch ds ++ zeros 48)) s) s

/-- PAR_REBUILD (R342). -/
def execParRebuild (eng : Fin 64) (s : State) : Res :=
  run (fun s =>
    match running s eng.val 4 with
    | none => []
    | some r =>
      let t := r.task
      ioTask eng.val t.src (4160 * 66) t.dst (4160 * t.lost.length) (fun bs =>
        let ps := pieces 4160 66 bs
        let sec := fun (i : Nat) => (ps.getD i []).take 4112
        let out := t.lost.map (fun i => (i, rebuiltInfo sec t.lost i t.head t.band t.sector t.kind t.epoch))
        let bad := out.any (fun p => p.1 < 64 && leAt p.2 4104 4 != (crc32c (p.2.take 4096)).toNat)
        (if bad then 6 else 0, 0, out.flatMap (fun p => p.2 ++ zeros 48))) s) s

/-- DIGEST (R324). -/
def execDigest (eng : Fin 64) (s : State) : Res :=
  run (fun s =>
    match running s eng.val 6 with
    | none => []
    | some r => ioTask eng.val r.task.src r.task.len r.task.dst 32 (fun bs => (0, 0, sha256 bs)) s) s

/-- CRC (R324): CRC32C or CRC64 in RESULT. -/
def execCrc (eng : Fin 64) (s : State) : Res :=
  run (fun s =>
    match running s eng.val 7 with
    | none => []
    | some r => ioTask eng.val r.task.src r.task.len r.task.dst 0 (fun bs =>
        (0, if (leAt r.task.desc 34 1).testBit 0 then crc64 bs else (crc32c bs).toNat, [])) s) s

/-! Derive (R343-R349). -/

/-- The recipe as the device reads it: header, entries and literals only (R343); none on a DRAM error. -/
def readRecipe (s : State) (a size : Nat) : Option (List Byte) :=
  if size = 0 then some []
  else match reqRead s a 64 with
    | none => none
    | some h =>
      let ents := 32 * rcNent h
      if !(rcHeaderOk h size) then some h
      else match reqRead s (a + 64) ents, reqRead s (a + rcLitOfs h) (rcLitLen h) with
        | some e, some l => some (h ++ e ++ zeros (rcLitOfs h - 64 - ents) ++ l)
        | _, _ => none

/-- What reading the recipe records. -/
def readRecipeEv (a size : Nat) : Act := fun s =>
  if size = 0 then []
  else match reqRead s a 64 with
    | none => reqReadEv true a 64 2 s
    | some h =>
      if !(rcHeaderOk h size) then reqReadEv true a 64 2 s
      else seqs [reqReadEv true a (64 + 32 * rcNent h) 2, reqReadEv true (a + rcLitOfs h) (rcLitLen h) 2] s

/-- The length of the key in a slot and whether it is bound as a media key (R344, rule 6). -/
def slotInfo (s : State) (k : Nat) : Nat × Bool := ((s.shlKey k).length, s.dyn.shl.bound.any (fun b => b.1 == k))

/-- The first CRYPT entry whose slot is empty (R338). -/
def emptySlot (s : State) (r : List Byte) : Option Nat :=
  ((rcEntries r).find? (fun e => e.op == 4 && (s.shlKey e.key).isEmpty)).map (fun e => e.off)

/-- Validate a task's recipe and copy its keys: the STATUS and RESULT it fails with, or the recipe. [DESIGN CHOICE, log 130, unsafe] -/
def deriveCheck (s : State) (t : STask) : Sum (Nat × Nat) (List Byte) :=
  let size := 64 * leAt t.desc 34 2
  match readRecipe s t.aux size with
  | none => .inl (7, 0)
  | some r =>
    match rcCheck r size t.len (leAt t.desc 36 4) (slotInfo s) with
    | some f => .inl f
    | none =>
      match emptySlot s r with
      | some o => .inl (5, o)
      | none => .inr r

/-- A SEGMENT of a parent. -/
def segTask (par : STask) (id k : Nat) : STask := { id := id, pool := par.pool, desc := par.desc, gen := 0, seg := some (par.id, k) }

/-- Push the segments left, last first, while the deque has room; when it is full run the lowest-numbered one; with none left
release the engine (R348). -/
def pushSegs (e : Nat) : Nat → Act
  | 0 => skip
  | n + 1 => fun s =>
    match (s.eng e).run with
    | none => []
    | some r =>
      let id := s.dyn.shl.next
      match r.push.getLast?, r.push with
      | some k, k0 :: rest =>
        if (s.eng e).deque.length < 16 then
          seqs [fun _ => [updEng e (fun x => { x with
              deque := segTask r.task id k :: x.deque, run := some { r with push := r.push.dropLast } }),
            updShl (fun x => { x with flight := (id, 0) :: x.flight, next := id + 1 }), wakeAll], pushSegs e n] s
        else [updEng e (fun x => { x with
              run := some { r with push := rest, sub := some (segTask r.task id k0) }, op := 0x85, gen := 0 }),
            updShl (fun x => { x with flight := (id, 0) :: x.flight, next := id + 1 })]
      | _, _ => [updEng e (fun x => { x with run := none })]

/-- DERIVE (R344, R348): validate, copy keys and split. -/
def execDerive (eng : Fin 64) (s : State) : Res :=
  let e := eng.val
  run (fun s =>
    match running s e 5 with
    | none => []
    | some r =>
      let t := r.task
      if (leAt t.desc 40 1).testBit 0 then []
      else seqs [readRecipeEv t.aux (64 * leAt t.desc 34 2),
        (match deriveCheck s t with
          | .inl f => fun _ => [endTask e f.1 f.2]
          | .inr rec =>
            let n := rcSegCount rec
            let keys := ((rcEntries rec).filter (fun x => x.op == 4)).map (fun x => (x.key, s.shlKey x.key))
            if (s.eng e).fenced then fun _ => [endTask e 0 (rcOut rec)]
            else seqs [fun _ => [
                updShl (fun x => { x with parents := ⟨t, e, rec, keys, List.replicate n none⟩ :: x.parents }),
                updEng e (fun x => { x with run := some { r with push := List.range n } })], pushSegs e (n + 1)])] s) s

/-- DERIVE_CHECK_ONLY (R345). -/
def execDeriveCheckOnly (eng : Fin 64) (s : State) : Res :=
  let e := eng.val
  run (fun s =>
    match running s e 5 with
    | none => []
    | some r =>
      let t := r.task
      if !(leAt t.desc 40 1).testBit 0 then []
      else seqs [readRecipeEv t.aux (64 * leAt t.desc 34 2),
        fun _ => [match deriveCheck s t with
          | .inl f => endTask e f.1 f.2
          | .inr rec => endTask e 0 (rcOut rec)]] s) s

/-- The source bytes a segment's COPY entries need are readable. -/
def segReadable (s : State) (base : Nat) (es : List Entry) : Bool :=
  es.all (fun x => x.op != 2 || (reqRead s (base + x.src) x.len).isSome)

/-- The window of a segment stands in the engine's local memory (R346), from its first byte on. [DESIGN CHOICE, log 121, safe] -/
def localPut (e : Nat) (w : List Byte) : Act := fun _ =>
  [updEng e (fun x => { x with mem := x.mem.map (fun m => w ++ m.drop w.length) })]

/-- SEGMENT (R346, R347): one segment executes in local memory and its window is written. -/
def execSegment (eng : Fin 64) (s : State) : Res :=
  let e := eng.val
  run (fun s =>
    match running s e 0x85 with
    | none => []
    | some r =>
      match (r.sub.getD r.task).seg with
      | none => []
      | some (pid, k) =>
        match s.dyn.shl.parents.find? (fun p => p.task.id == pid) with
        | none => [endTask e 7 0]
        | some par =>
          match rcSegment k (rcEntries par.recipe) with
          | none => [endTask e 7 0]
          | some (seg, es) =>
            let key := fun (slot : Nat) => ((par.keys.find? (fun x => x.1 == slot)).map (fun x => x.2)).getD []
            let src := fun (o n : Nat) => (reqRead s (par.task.src + o) n).getD (zeros n)
            let rd := each (es.filter (fun x => x.op == 2)) (fun x => reqReadEv false (par.task.src + x.src) x.len 2)
            let dst := par.task.dst + seg.dst
            if !segReadable s par.task.src es then seqs [rd, dramFail e dst seg.len] s
            else seqs [rd, localPut e (segWindow par.recipe src key seg es),
              if (s.eng e).fenced || memFits s dst seg.len then
                seqs [fun s => engWrite e dst ((s.eng e).local 0 seg.len) s, fun _ => [endTask e 0 0]]
              else seqs [memAddrErr (max dst (memEnd s) / 64 * 64), dramFail e dst seg.len]] s) s

/-! Completion (R326, R335, R349). -/

/-- Write a task's completion record (Table 11.5). -/
def complRecord (t : STask) (st res engine : Nat) : Act :=
  seqs [reqWrite .shoal true t.compl (slice t.desc 56 4 ++ leBytes 2 t.gen ++ [b8 st, b8 engine] ++ leBytes 8 res),
    fun _ => [.cnt Reg.SHL_TASK_CNT 31 0 1, updShl (fun x => { x with flight := x.flight.filter (fun f => f.1 != t.id) })] ++
      (if t.notify then [.sq Reg.SHL_STAT 1] else [])]

/-- ENGINE of a record that is not a join: 0xFF for STATUS 1 to 4. -/
def complEngine (st e : Nat) : Nat := if 1 ≤ st && st ≤ 4 then 0xFF else e

/-- The parent's record once every segment has completed (R349): the first failing segment's STATUS in segment order. -/
def joinParent (pid : Nat) : Act := fun s =>
  match s.dyn.shl.parents.find? (fun p => p.task.id == pid) with
  | none => []
  | some par =>
    if par.segs.all Option.isSome then
      let bad := par.segs.find? (fun x => match x with
        | some r => r.1 != 0
        | none => false)
      let r := match bad with
        | some (some f) => f
        | _ => (0, rcOut par.recipe)
      seqs [complRecord par.task r.1 r.2 par.engine,
        fun _ => [updShl (fun x => { x with parents := x.parents.filter (fun p => p.task.id != pid) })]] s
    else []

/-- A task's completion reaches the completion unit (R326, R335): an old generation or a task out of flight is stale. -/
def complTask (t : STask) (st res engine : Nat) : Act := fun s =>
  if !s.dyn.shl.flight.contains (t.id, t.gen) then [.cnt Reg.SHL_STALE_CNT 31 0 1, .sq Reg.SHL_STAT 4]
  else match t.seg with
    | none => complRecord t st res (complEngine st engine) s
    | some (pid, k) => seqs [fun _ => [updShl (fun x => { x with
        flight := x.flight.filter (fun f => f.1 != t.id),
        parents := x.parents.map (fun p => if p.task.id = pid then { p with segs := setAt p.segs k (some (st, res)) } else p) })],
        joinParent pid] s

/-- TASK_COMPLETE (R326, R335, R349): an engine's ended task is completed; an engine in a split goes on with it. -/
def execTaskComplete (eng : Fin 64) (s : State) : Res :=
  let e := eng.val
  run (fun s =>
    match (s.eng e).run with
    | none => []
    | some r =>
      match r.res with
      | none => []
      | some (st, v) =>
        if !s.up 100 || !poolUp s (e / 8) || !reqReady s then []
        else match r.sub with
          | some t =>
            if (s.eng e).fenced then
              seqs [complTask t st v e, fun _ => [updEng e (fun x => { x with run := none })]] s
            else seqs [fun _ => [updEng e (fun x => { x with run := some { r with sub := none, res := none } })],
              complTask t st v e, pushSegs e (r.push.length + 1)] s
          | none => seqs [fun _ => [updEng e (fun x => { x with run := none })], complTask r.task st v e] s) s

/-! Deadlines (R330-R335, R348). -/

/-- Reissue a task (R330, R332, R333): at the head of its pool's FIFO, or in the reissue buffer; beyond REISSUE it completes with
STATUS 4. -/
def reissue (e : Nat) (t : STask) : Act := fun s =>
  let t' : STask := { t with gen := (t.gen + 1) % 65536, re := t.re + 1 }
  if s.fld Reg.SHL_CFG 1 0 ≤ t.re then seqs [complTask t 4 0 0xFF, fun _ => [.sq Reg.SHL_STAT 8]] s
  else seqs [fun _ => [.cnt Reg.SHL_REISSUE_CNT 31 0 1, updShl (fun x => { x with
        flight := x.flight.map (fun f => if f.1 = t.id then (t.id, t'.gen) else f) })],
    (if (s.fifo t.pool).length < 1024 then
      fun _ => [updShl (fun x => { x with fifos := modAt x.fifos t.pool (fun f => t' :: f) }), wakeAll]
    else fun _ => [updEng e (fun x => { x with wait := some t' })])] s

/-- TASK_DEADLINE_EXPIRY (R330, R332, R348): the engine is fenced and its task reissued; the segments it had not pushed go onto its
deque. [DESIGN CHOICE, log 73, unsafe] -/
def execTaskDeadlineExpiry (eng : Fin 64) (s : State) : Res :=
  let e := eng.val
  run (fun s =>
    match (s.eng e).run with
    | none => []
    | some r =>
      if !s.up 100 || !poolUp s (e / 8) || (s.eng e).fenced then []
      else
        let n := r.push.length
        let id := s.dyn.shl.next
        let segs := (indexed r.push).map (fun p => segTask r.task (id + p.1) p.2)
        seqs [fun _ => [
            updEng e (fun x => { x with
              fenced := true, reset := false, deque := segs ++ x.deque,
              run := some { r with push := [] } }),
            updShl (fun x => { x with next := id + n, flight := segs.map (fun t => (t.id, 0)) ++ x.flight }),
            .sq Reg.SHL_STAT 2, .cnt Reg.SHL_FENCE_CNT 31 0 1] ++ (if n = 0 then [] else [wakeAll]),
          reissue e (r.sub.getD r.task)] s) s

/-- REISSUE_BUFFER_DRAIN (R333): a waiting reissue moves to the head of its pool's FIFO once there is room. [DESIGN CHOICE, log 130, unsafe] -/
def execReissueBufferDrain (pool : Fin 8) (s : State) : Res :=
  let p := pool.val
  run (fun s =>
    match (List.range 64).find? (fun e => ((s.eng e).wait.map (fun t => t.pool)) == some p) with
    | none => []
    | some e =>
      match (s.eng e).wait with
      | some t =>
        if s.up 100 && (s.fifo p).length < 1024 then
          [updShl (fun x => { x with fifos := modAt x.fifos p (fun f => t :: f) }), updEng e (fun x => { x with wait := none }),
           wakeAll]
        else []
      | none => []) s

/-- The engines of a _HI commit; a _HI write without its _LO has no effect (R48). [DEDUCED, log 62, unsafe] -/
def engMask (lo : Option Word) (hi : Word) : List Nat :=
  match lo with
  | some w => bitsOf 64 (w.toNat + 2 ^ 32 * hi.toNat)
  | none => []

/-- A commit of SHL_ENG_RST (R334): fenced engines abandon their task and clear their local memory. -/
def hEngRst (lo : Option Word) (hi : Word) : Act :=
  each (engMask lo hi) (fun e => fun s =>
    if (s.eng e).fenced && poolUp s (e / 8) then [updEng e (fun x => { x with run := none, mem := none, reset := false })] else [])

/-- ENGINE_RESET (R334): a write of SHL_ENG_RST_HI. -/
def execEngineReset (init : Initiator) (data : Word) (s : State) : Res :=
  run (wrAccess init Reg.SHL_ENG_RST_HI (hiWrite init Reg.SHL_ENG_RST_LO (fun lo => hEngRst lo data))) s

/-- ENGINE_RESET_DONE (R321, R334): the local memory holds zeros with valid check bits. -/
def execEngineResetDone (eng : Fin 64) (s : State) : Res :=
  run (fun s =>
    if s.up 100 && poolUp s (eng.val / 8) && (s.eng eng.val).clearing then
      [updEng eng.val (fun x => { x with mem := some [], reset := x.fenced })]
    else []) s

/-- A commit of SHL_FENCE_CLR (R334): an engine returns to service, or CLR_REFUSED is set. -/
def hFenceClr (lo : Option Word) (hi : Word) : Act :=
  each (engMask lo hi) (fun e => fun s =>
    let x := s.eng e
    if !x.fenced then []
    else if x.reset && x.wait.isNone then [updEng e (fun y => { y with fenced := false, reset := false, asleep := false })]
    else [.sq Reg.SHL_STAT 32])

/-- FENCE_CLEAR (R334): a write of SHL_FENCE_CLR_HI. -/
def execFenceClear (init : Initiator) (data : Word) (s : State) : Res :=
  run (wrAccess init Reg.SHL_FENCE_CLR_HI (hiWrite init Reg.SHL_FENCE_CLR_LO (fun lo => hFenceClr lo data))) s

/-! Key slots (R337). -/

/-- Set or empty a slot. -/
def keyPut (slot : Nat) (bs : List Byte) : Eff := updShl (fun x => { x with
    keys := (if bs.isEmpty then [] else [(slot, bs)]) ++ x.keys.filter (fun k => k.1 != slot) })

/-- A write of SHL_KEY_SEL. -/
def hKeySel (data : Word) : Act := fun _ =>
  let n := data.fld 23 16
  let k := data.fld 9 0
  if n = 0 then [keyPut k [], updShl (fun x => { x with sel := none })]
  else if n = 16 || n = 32 || n = 64 then [updShl (fun x => { x with sel := some (k, n, []) })]
  else []

/-- A write of SHL_KEY_DATA: the slot takes the key after LEN bytes. -/
def hKeyData (data : Word) : Act := fun s =>
  match s.dyn.shl.sel with
  | none => []
  | some (k, n, bs) =>
    let bs' := bs ++ leBytes 4 data.toNat
    if n ≤ bs'.length then [keyPut k bs', updShl (fun x => { x with sel := none })]
    else [updShl (fun x => { x with sel := some (k, n, bs') })]

/-- KEY_SEL_WRITE (R337). -/
def execKeySelWrite (init : Initiator) (data : Word) (s : State) : Res :=
  run (wrAccess init Reg.SHL_KEY_SEL (hKeySel data)) s

/-- KEY_DATA_WRITE (R337). -/
def execKeyDataWrite (init : Initiator) (data : Word) (s : State) : Res :=
  run (wrAccess init Reg.SHL_KEY_DATA (hKeyData data)) s

/-- DERIVE_HOLD_EXPIRY (R350): a held source is released. [DESIGN CHOICE, log 73, unsafe] -/
def execDeriveHoldExpiry (idx : Nat) (s : State) : Res :=
  run (fun _ => [updShl (fun x => { x with holds := x.holds.eraseIdx idx })]) s

/-! What the RO registers show (Table 11.9). -/

/-- SHL_POOLp. -/
def viewPool (s : State) (p : Nat) : Word :=
  let es := (List.range 8).map (fun i => s.eng (8 * p + i))
  let m := fun (g : SEng → Bool) => (indexed es).foldl (fun a x => if g x.2 then a + 2 ^ x.1 else a) 0
  w32 (m (fun x => x.fenced) * 2 ^ 24 + m (fun x => x.run.isSome && !x.fenced) * 2 ^ 16 + (s.fifo p).length)

/-- SHL_ENGe. -/
def viewEng (s : State) (e : Nat) : Word :=
  let x := s.eng e
  let st := if x.fenced then (if x.reset then 3 else 2) else if x.run.isSome then 1 else 0
  w32 (st * 2 ^ 30 + x.op * 2 ^ 16 + x.gen)

/-- SHL_FENCED, 32 engines from e. -/
def viewFenced (s : State) (e : Nat) : Word :=
  w32 ((List.range 32).foldl (fun a i => if (s.eng (e + i)).fenced then a + 2 ^ i else a) 0)

end Sys2Proof.Machine
end

