-- ==== Sys2Proof/Machine/Zones.lean ====
section
/-! DEFINITION. Namespaces, zones, the write buffer and its way to the media (R271-R277, R284-R299, R231, R143, R226, R234). -/

namespace Sys2Proof.Machine

/-- Change the zones and the write buffer. -/
def updZn (g : ZnD → ZnD) : Eff := .upd (fun d => { d with zn := g d.zn })
/-- Change the namespaces. -/
def updNsp (g : NsD → NsD) : Eff := .upd (fun d => { d with nsp := g d.nsp })
/-- Change the loss records. -/
def updLoss (g : LossD → LossD) : Eff := .upd (fun d => { d with loss := g d.loss })
/-- Change the recovery state. -/
def updRcv (g : RecD → RecD) : Eff := .upd (fun d => { d with rcv := g d.rcv })
/-- Change the logs. -/
def updLog (g : LogD → LogD) : Eff := .upd (fun d => { d with log := g d.log })

/-! Option block parameters (R401: outside its range a parameter acts as the nearer limit). -/

/-- A parameter of `n` bytes at an offset, within limits. -/
def optParam (s : State) (o n lo hi : Nat) : Nat := max lo (min hi (leAt s.dyn.rst.optRam o n))

/-- REREADS (Table 8.1). -/
def optRereads (s : State) : Nat := optParam s 3072 1 0 3
/-- RELOC_STEP. -/
def optRelocStep (s : State) : Nat := optParam s 3073 1 2 5
/-- TWIN_EN. -/
def optTwin (s : State) : Bool := optParam s 3074 1 0 1 == 1
/-- PEND_MAX. -/
def optPendMax (s : State) : Nat := optParam s 3076 2 0 16384
/-- PATROL_DAYS. -/
def optPatrol (s : State) : Nat := optParam s 3078 1 0 255
/-- WBUF_MIB (R284). -/
def optWbuf (s : State) : Nat := optParam s 3080 2 256 4096
/-- AGE_S (R286). -/
def optAge (s : State) : Nat := optParam s 3082 2 0 65535

/-! Namespaces and zones. -/

/-- A namespace by NSID, in service. -/
def nsOf (s : State) (nsid : Nat) : Option Ns := s.dyn.nsp.ns.find? (fun n => n.nsid == nsid && n.st == 1)

/-- A namespace by NSID, for commands in flight. -/
def nsAny (s : State) (nsid : Nat) : Option Ns := s.dyn.nsp.ns.find? (fun n => n.nsid == nsid)

/-- Blocks of a namespace. -/
def nsSize (n : Ns) : Nat := n.zones.length * zoneBlocks

/-- The device zone of a namespace block. -/
def nsZone (n : Ns) (lba : Nat) : Nat := n.zones.getD (lba / zoneBlocks) 0

/-- The namespace that holds a device zone, with the zone's first LBA in it. -/
def zoneNs (s : State) (z : Nat) : Option (Ns × Nat) :=
  match s.dyn.nsp.ns.find? (fun n => n.zones.contains z) with
  | some n => some (n, n.zones.idxOf z * zoneBlocks)
  | none => none

/-- A zoned namespace. -/
def Ns.zoned (n : Ns) : Bool := n.csi == 2

/-- The epoch of a zone's bands. -/
def epochOf (s : State) (z : Nat) : Nat := ((s.dyn.nsp.epochs.find? (fun e => e.1 == z)).map (fun e => e.2)).getD 0

/-- A zone's bands take the next epoch, modulo 2^16. -/
def nextEpoch (z : Nat) : Eff := updNsp (fun d => { d with
    epochs := (z, (((d.epochs.find? (fun e => e.1 == z)).map (fun e => e.2)).getD 0 + 1) % 65536) ::
      d.epochs.filter (fun e => e.1 != z) })

/-- A zone as the device tracks it; one not listed is Empty. -/
def zoneAt (s : State) (z : Nat) : Zone := (s.dyn.zn.zones.find? (fun x => x.zone == z)).getD ⟨z, 1, 0, 0, false⟩

/-- Store a zone. -/
def putZone (x : Zone) : Eff := updZn (fun d => { d with zones := x :: d.zones.filter (fun y => y.zone != x.zone) })

/-- A zone changes state; a save is due (R231). -/
def zoneTo (z st : Nat) : Act := fun s => [putZone { zoneAt s z with st := st, due := true }]

/-- Zones in the opened states, and in those or Closed (R292). -/
def openCount (s : State) : Nat := (s.dyn.zn.zones.filter (fun x => x.st == 2 || x.st == 3)).length
/-- Active zones. -/
def activeCount (s : State) : Nat := (s.dyn.zn.zones.filter (fun x => x.st == 2 || x.st == 3 || x.st == 4)).length

/-- The implicitly opened zone written least recently (R293). -/
def lruOpen (s : State) : Option Zone :=
  (s.dyn.zn.zones.filter (fun x => x.st == 2)).foldl (fun m x =>
    match m with
    | some y => if x.used < y.used then some x else some y
    | none => some x) none

/-- Close a zone: to Closed, or Empty if nothing is written (Table 10.7). -/
def closeZone (z : Nat) : Act := fun s => zoneTo z (if (zoneAt s z).wp = 0 then 1 else 4) s

/-- Room is made for one more open zone (R293). -/
def makeOpenRoom : Act := fun s =>
  if 256 ≤ openCount s then (match lruOpen s with
    | some x => closeZone x.zone s
    | none => []) else []

/-- The write pointer a save records: the zone's (R231, R294). [DEDUCED, log 29, unsafe] -/
def savedPtr (s : State) (z : Nat) : Nat := (zoneAt s z).wp

/-- The device saves a zone's state, epoch and write pointer on reserved tracks (R231). -/
def saveZone (z : Nat) : Act := fun s =>
  let x := zoneAt s z
  [updMedia (fun m => { m with saved := ⟨z, x.st, epochOf s z, savedPtr s z⟩ :: m.saved.filter (fun y => y.zone != z) }),
   putZone { x with due := false }]

/-- ZONE_STATE_SAVE (R231). [DEDUCED, log 47, unsafe] -/
def execZoneStateSave (zone : Nat) (s : State) : Res :=
  run (fun s => if s.up 63 && (zoneAt s zone).due then saveZone zone s else []) s

/-! Sectors as they can be read without a ladder (R97, R216, R225). -/

/-- The kind of a zone's data sectors (Table 3.4). -/
def dataKind (s : State) (z : Nat) : Nat := if isConvZone s z then 3 else 0

/-- The kind of a sector in band. -/
def sectKind (s : State) (z sector : Nat) : Nat := if sector % 66 < 64 then dataKind s z else 1

/-- A spare's frame of a sector: KIND 2 and its own place (R223). -/
def spareInfo (head band spare epoch : Nat) (info : List Byte) : List Byte :=
  info.take 4096 ++ metaTag head band (67584 + spare) 2 epoch ++ info.drop 4104

/-- A stored frame that passes the checks of R97, on a head in use (R196). -/
def goodFrame (s : State) (head band sector kind epoch : Nat) : Option (List Byte) :=
  match s.msec head band sector with
  | some m => if !m.cut && !s.dyn.excluded.contains head && frameChecks head band sector kind epoch m.info == 0 then some m.info else none
  | none => none

/-- A spare's frame that passes them; the CRC place of a relocated parity sector holds parity. -/
def goodSpare (s : State) (kind head band spare epoch : Nat) : Option (List Byte) :=
  match s.msec head band (67584 + spare) with
  | some m =>
    let c := frameChecks head band (67584 + spare) 2 epoch m.info
    if !m.cut && !s.dyn.excluded.contains head && (c == 0 || (kind == 1 && c == 4)) then some m.info else none
  | none => none

/-- The 4,112 bytes of a sector as a read gets them without a ladder: from its spare, from PENDING data in DRAM, from its own
place, or as a ladder has just recovered them; none where it needs a ladder or is UNREC (R221, R224, R225). -/
def sectorInfo (s : State) (z head band sector : Nat) : Option (List Byte) :=
  let k := sectKind s z sector
  let e := epochOf s z
  let own := goodFrame s head band sector k e
  let got := (s.dyn.rcv.got.find? (fun x => x.head == head && x.band == band && x.sector == sector)).map (fun x => x.info)
  match relocOf s head band sector with
  | some r =>
    if r.state = 1 then (match goodSpare s k head band r.spare e with
      | some i => some (i.take 4096 ++ metaTag head band sector k e ++ i.drop 4104)
      | none => got)
    else if r.state = 2 then
      ((s.dyn.rcv.pend.find? (fun x => x.head == head && x.band == band && x.sector == sector)).map (fun x => x.info)).or
        (own.or got)
    else none
  | none => own.or got

/-! Encryption of stored data (R277, R340: the tweak of a block is its LBA in the namespace). -/

/-- The XTS key bound to a namespace; none while none is bound. -/
def nsKey (s : State) (nsid : Nat) : Option (List Byte) :=
  match s.dyn.shl.bound.find? (fun b => b.2 == nsid) with
  | some b => if (s.shlKey b.1).isEmpty then none else some (s.shlKey b.1)
  | none => none

/-- Data of a namespace can be encrypted and decrypted. -/
def keyOk (s : State) (n : Ns) : Bool := !n.enc || (nsKey s n.nsid).isSome

/-- Encrypt or decrypt a block of a namespace. [DEDUCED, log 46, unsafe] -/
def crypt (s : State) (enc : Bool) (n : Ns) (lba : Nat) (bs : List Byte) : List Byte :=
  if n.enc then (match nsKey s n.nsid with
    | some k => xts enc k lba bs
    | none => bs)
  else bs

/-! The way to the media. -/

/-- What a ladder recovered of a sector before it was written again is dropped. [DEDUCED, log 91, unsafe] -/
def dropRecovered (head band sector : Nat) : Eff := updRcv (fun r => { r with
  got := r.got.filter (fun x => x.head != head || x.band != band || x.sector != sector),
  pend := r.pend.filter (fun x => x.head != head || x.band != band || x.sector != sector),
  reloc := r.reloc.filter (fun x => x.1.head != head || x.1.band != band || x.1.sector != sector) })

/-- A sector is written at its place, or to its spare where it is RELOCATED (R226). -/
def putSector (z head band sector : Nat) (info : List Byte) : Act := fun s =>
  let put : Eff := match relocOf s head band sector with
    | some r => if r.state = 1 then mediaPut head band (67584 + r.spare) (spareInfo head band r.spare (epochOf s z) info) false
      else mediaPut head band sector info false
    | none => mediaPut head band sector info false
  [dropRecovered head band sector, put]

/-- A buffered block is written (R61, R340). -/
def writeBlock (b : WBlk) : Act := fun s =>
  match zoneNs s b.zone with
  | none => []
  | some (n, base) =>
    let p := placeOf s (b.zone * zoneBlocks + b.blk)
    putSector b.zone p.head p.band p.sector
      (dataInfo p.head p.band p.sector (dataKind s b.zone) (epochOf s b.zone) (crypt s true n (base + b.blk) b.data)) s

/-- P and Q of a run from its 64 data sectors; a sector that stays unrecovered counts as zeros, and its UNREC entry carries ZP
(R63, R234). -/
def writeParity (z head band s0 : Nat) : Act := fun s =>
  let e := epochOf s z
  let ds := (List.range 64).map (fun i => sectorInfo s z head band (s0 + i))
  let lost := (List.range 64).filter (fun i => (ds.getD i none).isNone)
  let infos := ds.map (fun d => d.getD (zeros 4112))
  seqs [putSector z head band (s0 + 64) (parityInfo 0 head band (s0 + 64) e infos),
    putSector z head band (s0 + 65) (parityInfo 1 head band (s0 + 65) e infos),
    fun _ => [updMedia (fun m => (m.table.filter (fun r =>
      r.head == head && r.band == band && s0 ≤ r.sector && lost.contains (r.sector - s0) && r.state == 3 && !r.zp)).foldl
        (fun x r => tableSet x { r with zp := true }) m)]] s

/-- The buffered blocks of one chunk of a zone. -/
def chunkBlks (s : State) (z chunk : Nat) : List WBlk := s.dyn.zn.buf.filter (fun b => b.zone == z && b.blk / 64 == chunk)

/-- One chunk's buffered blocks go to the media; the parity of a conventional run is recomputed, that of a shingled one is
written once its 64th data sector is (R63, R143). -/
def writeChunk (z chunk : Nat) : Act := fun s =>
  let p := placeOf s (z * zoneBlocks + chunk * 64)
  seqs [each (chunkBlks s z chunk) writeBlock,
    fun s => if isConvZone s z || bandPtr s p.head p.band = p.sector + 64 then writeParity z p.head p.band p.sector s else [],
    fun _ => [updZn (fun d => { d with buf := d.buf.filter (fun b => b.zone != z || b.blk / 64 != chunk) })]] s

/-- The chunks of a zone with buffered blocks, in the order of their commits. -/
def bufChunks (s : State) (z : Nat) : List Nat :=
  ((s.dyn.zn.buf.filter (fun b => b.zone == z)).map (fun b => b.blk / 64)).eraseDups

/-- Data of a zone can be moved to the media: the media side runs, and the namespace's key is there (R319). [DEDUCED, log 50, unsafe] -/
def zoneKeyOk (s : State) (z : Nat) : Bool :=
  match zoneNs s z with
  | some (n, _) => keyOk s n
  | none => false

/-! Failures of writes (R290, R295). -/

/-- The zones a command writes. -/
def HCmd.wzones (s : State) (c : HCmd) : List Nat :=
  match c.work with
  | .wr nsid lba n _ _ _ =>
    (match nsAny s nsid with
      | some x => (List.range ((lba + n - 1) / zoneBlocks + 1 - lba / zoneBlocks)).map (fun i =>
          x.zones.getD (lba / zoneBlocks + i) 0)
      | none => [])
  | _ => []

/-- A write or append accepted and not committed. -/
def HCmd.uncommitted (c : HCmd) : Bool :=
  c.done.isNone && (match c.work with
    | .wr _ _ _ _ _ _ => true
    | _ => false)

/-- An append. -/
def HCmd.isAppend (c : HCmd) : Bool :=
  match c.work with
  | .wr _ _ _ a _ _ => a
  | _ => false

/-- A write or append ends with an error or is discarded; in a zoned namespace every later uncommitted write of the zone ends
with Zone Invalid Write (R295). -/
def failWrite (c : HCmd) (r : Cpl) : Act := fun s =>
  let zs := c.wzones s
  let zoned := zs.any (fun z => !isConvZone s z)
  let later := s.dyn.hq.cmds.filter (fun x => c.no < x.no && x.uncommitted && !x.isAppend &&
    (x.wzones s).any (fun z => zs.contains z))
  seqs [finish c r, if zoned then each later (fun x => finish x (status 1 0xBC)) else skip] s

/-- An entry of the Unflushed Loss page falls due (R308, R310). -/
def lossAdd (e : LossEnt) : Act :=
  seqs [fun s => [updLoss (fun l =>
      let l := { l with cause := e.cause }
      if 4094 ≤ l.page.length || !l.wait.isEmpty then { l with wait := l.wait ++ [e] }
      else { l with page := l.page ++ [e], time := s.dyn.us })], raiseLoss]

/-- The loss entry of a zone (Table 10.5): blocks are counted within the zone. -/
def lossEnt (s : State) (z cause first lost span : Nat) : LossEnt :=
  match zoneNs s z with
  | some (n, base) => ⟨z, n.nsid, if n.zoned then 0 else 1, cause, base, base + first, lost, span⟩
  | none => ⟨z, 0, if isConvZone s z then 1 else 0, cause, 0, first, lost, span⟩

/-- The chunks of a zone that a write's data lies in; those of an append lie from the write pointer on. -/
def HCmd.wchunks (s : State) (z : Nat) (c : HCmd) : List Nat :=
  match c.work with
  | .wr nsid lba n app _ _ =>
    (match nsAny s nsid with
      | some x =>
        let at_ := if app then lba + (zoneAt s (nsZone x lba)).wp else lba
        ((List.range ((at_ + n - 1) / 64 + 1 - at_ / 64)).map (fun i => at_ / 64 + i)).filter (fun k => nsZone x (64 * k) == z)
          |>.map (fun k => k % 4096)
      | none => [])
  | _ => []

/-- A write or append that commits only on the media: with FUA, or while WCE is 0 (R287, R288). -/
def HCmd.slow (s : State) (c : HCmd) : Bool :=
  match c.work with
  | .wr _ _ _ _ fua (some _) => fua || !s.dyn.zn.wce
  | _ => false

/-- The writes whose transfer to chunks of a zone fails with the buffered data's: they commit only on the media. -/
def slowWrites (s : State) (z : Nat) (chunks : List Nat) : List HCmd :=
  s.dyn.hq.cmds.filter (fun c => c.uncommitted && c.slow s && (c.wchunks s z).any (fun k => chunks.contains k))

/-- The second transfer of data has failed too (R290): the zone is Read Only, buffered blocks are lost, those of the chunks in a
conventional zone and all from the lowest on in a shingled one; Write Fault for what waits on them, Zone Invalid Write for the
writes after it (R295). [DEDUCED, log 46, unsafe] -/
def zoneLost (z : Nat) (chunks : List Nat) : Act := fun s =>
  let conv := isConvZone s z
  let hit := s.dyn.zn.buf.filter (fun b => b.zone == z && chunks.contains (b.blk / 64))
  let lo := hit.foldl (fun m b => min m b.blk) zoneBlocks
  let bs := if conv then hit else s.dyn.zn.buf.filter (fun b => b.zone == z && lo ≤ b.blk)
  let hi := bs.foldl (fun m b => max m b.blk) 0
  let x := zoneAt s z
  let ent := if conv then lossEnt s z 3 lo bs.length (hi + 1 - lo) else lossEnt s z 3 (min lo x.wp) (x.wp - lo) (x.wp - lo)
  let flushes := s.dyn.hq.cmds.filter (fun c => c.done.isNone && (match c.work with
    | .fl n m => bs.any (fun b => b.no ≤ m) &&
        (n = 0xFFFFFFFF || (zoneNs s z).any (fun p => p.1.nsid == n))
    | _ => false))
  let writes := s.dyn.hq.cmds.filter (fun c => c.uncommitted && (c.wzones s).contains z)
  let waits (c : HCmd) : Bool := c.slow s && (!bs.isEmpty || (c.wchunks s z).any (fun k => chunks.contains k))
  seqs [
    fun _ => [putZone { x with st := 13, wp := if conv then x.wp else min lo x.wp, due := true },
      updZn (fun d => { d with buf := d.buf.filter (fun b => !bs.contains b) })],
    if bs.isEmpty then skip else lossAdd ent,
    each flushes (fun c => finish c (status 2 0x80)),
    each writes (fun c => if waits c then finish c (status 2 0x80)
      else if conv || c.isAppend then skip else finish c (status 1 0xBC))] s

/-- A transfer of data to chunks of a zone has failed: one further transfer of the same sectors, then they are lost (R290). [DEDUCED, log 50, unsafe] -/
def faultZone (z : Nat) (chunks : List Nat) : Act := fun s =>
  let mine (b : WBlk) : Bool := b.zone == z && chunks.contains (b.blk / 64)
  let ws := slowWrites s z chunks
  if !s.dyn.zn.buf.any mine && ws.isEmpty then []
  else if s.dyn.zn.buf.any (fun b => mine b && b.retry) || ws.any (fun c => c.retry) then zoneLost z chunks s
  else updZn (fun d => { d with buf := d.buf.map (fun b => if mine b then { b with retry := true } else b) }) ::
    ws.map (fun c => updCmd c.no (fun k => { k with retry := true }))

/-- The media side moves data: D7 and buffer memory serve. -/
def mediaReady (s : State) : Bool := s.up 63 && reqReady s

/-- A chunk of a zone can go to the media: where it completes a run, every sector of the run the buffer does not hold is
readable or known as UNREC, and no ladder runs on one (R234). -/
def chunkReady (s : State) (z chunk : Nat) : Bool :=
  let p := placeOf s (z * zoneBlocks + chunk * 64)
  let inBuf (i : Nat) : Bool := s.dyn.zn.buf.any (fun b => b.zone == z && b.blk == chunk * 64 + i)
  (!isConvZone s z && !(inBuf 63)) || (List.range 64).all (fun i => inBuf i ||
    (!s.dyn.rcv.ladders.any (fun l => l.head == p.head && l.band == p.band && l.sector == p.sector + i) && ((sectorInfo s z p.head p.band (p.sector + i)).isSome ||
      (relocOf s p.head p.band (p.sector + i)).any (fun r => r.state == 3) || (s.msec p.head p.band (p.sector + i)).isNone)))

/-- A zone's actuator may take a transfer: the media side runs, and its lanes and write paths are free (R14, R61). -/
def zoneFree (s : State) (z : Nat) : Bool := mediaReady s && actFree s (z % 4)

/-- All of a zone's buffered data can go to the media. -/
def zoneReady (s : State) (z : Nat) : Bool := zoneFree s z && (bufChunks s z).all (chunkReady s z)

/-- All buffered data of a zone goes to the media, once it can; without the key its SECT_ENC tasks fail (R319). -/
def drainZone (z : Nat) : Act := fun s =>
  if (bufChunks s z).isEmpty || !zoneReady s z then []
  else if !zoneKeyOk s z then faultZone z (bufChunks s z) s
  else seqs [each (bufChunks s z) (writeChunk z),
    fun s => if isConvZone s z then [] else [putZone { zoneAt s z with due := true }]] s

/-- The zones with buffered data. -/
def bufZones (s : State) : List Nat := (s.dyn.zn.buf.map (fun b => b.zone)).eraseDups

/-- The whole write buffer goes to the media, zone by zone as each can. -/
def drainAll : Act := fun s => each (bufZones s) drainZone s

/-- A shutdown of a PCIe function that waits for the empty write buffer goes on: every zone is saved, SHST becomes 10b (R304). -/
def shutdownDone (f : Nat) : Act := fun s =>
  if s.fld (Reg.CSTS f) 3 2 = 1 && mediaReady s && s.dyn.zn.buf.isEmpty then
    seqs [each ((s.dyn.zn.zones.filter (fun z => z.due)).map (fun z => z.zone)) saveZone, fun _ => [.fld (Reg.CSTS f) 3 2 2]] s
  else []

/-- A function's shutdown waits for the empty write buffer (R304). -/
def shutting (s : State) : Bool := s.fld (Reg.CSTS 0) 3 2 = 1 || s.fld (Reg.CSTS 1) 3 2 = 1

/-- A command that waits for a buffered block to reach the media: a Flush (R289), a clearing of WCE (R288). -/
def waitsBlk (s : State) (b : WBlk) (c : HCmd) : Bool :=
  c.done.isNone && (match c.work with
    | .fl n m => b.no ≤ m && (n == 0xFFFFFFFF || (zoneNs s b.zone).any (fun p => p.1.nsid == n))
    | .wce => true
    | _ => false)

/-- The zones whose buffered data something waits for. -/
def wanted (s : State) : List Nat :=
  ((s.dyn.zn.buf.filter (fun b => shutting s || s.dyn.hq.cmds.any (waitsBlk s b))).map (fun b => b.zone)).eraseDups

/-- What waited for buffered data ends once it is on the media: Flushes (R289), a clearing of WCE (R288), shutdowns (R304). -/
def waitEnds : Act := fun s =>
  let ready (c : HCmd) : Bool := c.done.isNone && (match c.work with
    | .fl _ _ => !s.dyn.zn.buf.any (fun b => waitsBlk s b c)
    | .wce => s.dyn.zn.buf.isEmpty
    | _ => false)
  seqs [each (s.dyn.hq.cmds.filter ready) (fun c => finish c {}), shutdownDone 0, shutdownDone 1] s

/-- Buffered data that something waits for goes to the media as soon as it can, and what waited for it ends. -/
def settle : Act := seqs [fun s => each (wanted s) drainZone s, waitEnds]

/-- A run of a zone is complete in the buffer or, with what the media hold already, on its head (R286). -/
def runReady (s : State) (z chunk : Nat) : Bool :=
  let p := placeOf s (z * zoneBlocks + chunk * 64)
  (isConvZone s z || p.sector ≤ bandPtr s p.head p.band) &&
  (List.range 64).all (fun i => s.dyn.zn.buf.any (fun b => b.zone == z && b.blk == chunk * 64 + i) ||
    (if isConvZone s z then (sectorInfo s z p.head p.band (p.sector + i)).isSome else p.sector + i < bandPtr s p.head p.band))

/-- BUFFER_RUN_TO_MEDIA (R286, R63, R143). -/
def execBufferRunToMedia (zone : Nat) (pos : Fin 4) (runNo : Nat) (s : State) : Res :=
  run (fun s =>
    let c := 4 * runNo + pos.val
    if !zoneFree s zone || (chunkBlks s zone c).isEmpty || !runReady s zone c || !chunkReady s zone c then []
    else if !zoneKeyOk s zone then seqs [faultZone zone [c], waitEnds] s
    else seqs [writeChunk zone c, settle] s) s

/-- WRITE_BUFFER_AGE_EXPIRY (R286): data has waited AGE_S seconds. -/
def execWriteBufferAgeExpiry (zone : Nat) (s : State) : Res :=
  run (fun s => if mediaReady s && optAge s ≠ 0 then seqs [drainZone zone, waitEnds] s else []) s

/-- WRITE_FAULT_RETRY (R290, R319): a transfer to chunks of a zone has ended with RETRY_EXH, VERIFY_BAD or UNDERRUN, or its SECT_ENC
task with STATUS 4, 5 or 7. -/
def execWriteFaultRetry (fault : ZoneFault) (s : State) : Res :=
  run (fun s => if s.up 63 then seqs [faultZone fault.zone fault.chunks, waitEnds] s else []) s

end Sys2Proof.Machine
end

