-- ==== Sys2Proof/Machine/Hq.lean ====
section
/-! DEFINITION. The host queue engine and transport (09): slots, arbitration, fetch, completion, doorbells, controller resets, PCIe
functions, Mornis links, Ethernet ports. -/

namespace Sys2Proof.Machine

/-! The Ethernet side (R257, R259-R261). -/

/-- Mornis traffic as it leaves a port: the VLAN tag if TAG is 1, PRIO and DSCP, marked ECT(0) (R260, R261). -/
def ethOut (s : State) (port : Nat) (o : Output) : Output :=
  .eth port (if s.bit (Reg.NET_VLAN port) 12 then some (s.fld (Reg.NET_VLAN port) 11 0) else none) (s.fld Reg.NET_QOS 26 24)
    (s.fld Reg.NET_QOS 21 16) 2 o

/-- A port may send nothing of Mornis's priority: a pause of it stands (R259). -/
def portPaused (s : State) (port : Nat) : Bool := (s.dyn.hq.paused.getD port 0).testBit (s.fld Reg.NET_QOS 26 24)

/-- A frame sent. -/
def frameOut (port : Nat) : Eff := .cnt (Reg.NET_TXF_CNT port) 31 0 1

/-- FEC codewords corrected on a port since the last frame: how many is not stated. [DESIGN CHOICE, log 43, unsafe] -/
def lineErrs (port : Nat) : Act := fun s => [.draw, .cnt (Reg.NET_FEC_CNT port) 31 0 (s.fresh % 2 ^ 32)]

/-- A received frame. -/
def frameIn (port : Nat) : Act := seqs [fun _ => [.cnt (Reg.NET_RXF_CNT port) 31 0 1], lineErrs port]

/-- Frames of RDMA traffic on a port: how many the device sends and receives is not stated. [DESIGN CHOICE, log 43, unsafe] -/
def frames (port : Nat) : Act := seqs [
  fun s => [.draw, .cnt (Reg.NET_TXF_CNT port) 31 0 (s.fresh % 2 ^ 32)],
  fun s => [.draw, .cnt (Reg.NET_RXF_CNT port) 31 0 (s.fresh % 2 ^ 32)], lineErrs port]

/-- What waited for a port that is no longer paused leaves, oldest first. [DESIGN CHOICE, log 110, unsafe] -/
def netRelease (port : Nat) : Act := fun s =>
  if portPaused s port then []
  else seqs [each (s.dyn.hq.txq.filter (fun e => e.1 == port)) (fun e s => [.emit (ethOut s port e.2.2), frameOut port]),
    fun _ => [updHq (fun h => { h with txq := h.txq.filter (fun e => e.1 != port) })]] s

/-- Mornis traffic of a link leaves by a port, or waits while the port is paused (R259, R261). [DESIGN CHOICE, log 110, unsafe] -/
def netSend (port link : Nat) (o : Output) : Act :=
  seqs [netRelease port, fun s =>
    if portPaused s port then [updHq (fun h => { h with txq := h.txq ++ [(port, link, o)] })]
    else [.emit (ethOut s port o), frameOut port]]

/-- What a link sends. -/
def linkOut (l : Link) (o : Output) : Act := if l.pcie then fun _ => [.emit o] else netSend l.port l.id o

/-- The key that goes with ring addresses of a link (R242, R258). -/
def ringKey (l : Link) : Option Nat := if l.pcie then none else some l.rkey

/-- RDMA traffic of a Mornis link beside its messages. -/
def linkFrames (l : Link) : Act := if l.pcie then skip else frames l.port

/-- Correctable errors of the PCIe ports: how many is not stated. [DESIGN CHOICE, log 43, unsafe] -/
def pciErrs : Act := fun s => [.draw, .cnt Reg.PCI_CERR_CNT 31 0 (s.fresh % 2 ^ 32)]

/-- What comes with traffic of a link that reaches the device. -/
def linkIn (pcie : Bool) (port : Nat) : Act := if pcie then pciErrs else frameIn port

/-! Pools (R239-R241). -/

/-- RESERVE slots (Table 9.8). -/
def hqReserve (s : State) : Nat := min 16 (s.fld Reg.HQE_SLOTS 4 0)

/-- LINK_CAP slots (Table 9.8). -/
def hqLinkCap (s : State) : Nat := if s.fld Reg.HQE_SLOTS 31 16 = 0 then 65535 else s.fld Reg.HQE_SLOTS 31 16

/-- Slots a queue holds. -/
def sqUsed (s : State) (l q : Nat) : Nat := (s.dyn.hq.cmds.filter (fun c => c.link == l && c.sqid == q)).length

/-- Slots a link holds. -/
def linkUsed (s : State) (l : Nat) : Nat := (s.dyn.hq.cmds.filter (fun c => c.link == l)).length

/-- Pairs taken from the pool. -/
def pairsUsed (s : State) : Nat := s.dyn.hq.links.foldl (fun n l => n + 1 + l.grant) 0

/-- Every submission queue with its link, in ascending order of link and QID. -/
def allSqs (s : State) : List (Link × SubQ) := s.dyn.hq.links.flatMap (fun l => l.sqs.map (fun q => (l, q)))

/-- Slots taken beyond the reserves, those of commands whose queue is gone among them. -/
def lentUsed (s : State) : Nat :=
  s.dyn.hq.cmds.length - (allSqs s).foldl (fun n p => n + min (sqUsed s p.1.id p.2.qid) (hqReserve s)) 0

/-- Slots available to a queue (R241). -/
def sqAvail (s : State) (l q : Nat) : Nat :=
  let used := sqUsed s l q
  let n := (allSqs s).length
  min (min ((hqReserve s - used) + (65536 - hqReserve s * n - lentUsed s)) (hqLinkCap s - linkUsed s l))
    (65536 - s.dyn.hq.cmds.length)

/-- Entries waiting in a submission queue. -/
def sqWaiting (q : SubQ) : Nat := (q.tail + q.size - q.head) % q.size

/-! Arbitration (R263). -/

/-- The class of a queue: 0 admin, 1 urgent, 2 high, 3 medium, 4 low. -/
def sqClass (q : SubQ) : Nat := if q.qid = 0 then 0 else 1 + q.prio

/-- Queues fetched from: of live links, with waiting entries. -/
def waitingSqs (s : State) : List (Link × SubQ) :=
  (allSqs s).filter (fun p => p.1.st == 2 && !p.1.resetDue && !p.2.closing && 0 < sqWaiting p.2)

/-- Those with a slot available. -/
def readySqs (s : State) : List (Link × SubQ) := (waitingSqs s).filter (fun p => 0 < sqAvail s p.1.id p.2.qid)

/-- The queue of a class whose turn it is: the next after the last served, in ascending order, or the first. -/
def turnOf (s : State) (k : Nat) : Option (Link × SubQ) :=
  let l := (readySqs s).filter (fun p => sqClass p.2 == k)
  let last := s.dyn.hq.rr.getD k (0, 0)
  (l.find? (fun p => last.1 < p.1.id || (p.1.id == last.1 && last.2 < p.2.qid))).or l.head?

/-- HPW + 1, MPW + 1 and LPW + 1. -/
def arbWeights (s : State) : List Nat :=
  [s.fld Reg.HQE_ARB 31 24 + 1, s.fld Reg.HQE_ARB 23 16 + 1, s.fld Reg.HQE_ARB 15 8 + 1]

/-- The first of the weighted classes with turns left and a queue. -/
def weighted (s : State) (left : List Nat) : Option Nat :=
  (List.range 3).find? (fun i => 0 < left.getD i 0 && (turnOf s (2 + i)).isSome)

/-- The class served next, and the turns left after it. -/
def arbitrate (s : State) : Option (Nat × List Nat) :=
  let left := s.dyn.hq.left
  if (turnOf s 0).isSome then some (0, left)
  else if (turnOf s 1).isSome then some (1, left)
  else match weighted s left with
    | some i => some (2 + i, modAt left i (fun n => n - 1))
    | none => (weighted s (arbWeights s)).map (fun i => (2 + i, modAt (arbWeights s) i (fun n => n - 1)))

/-- Entries of one turn (R256, R263). -/
def turnLen (s : State) (l : Link) (q : SubQ) : Nat :=
  let ab := s.fld Reg.HQE_ARB 2 0
  let n := min (sqWaiting q) (sqAvail s l.id q.qid)
  let n := if ab = 7 then n else min n (2 ^ ab)
  if l.pcie then n else min (min n 64) (q.size - q.head)

/-! Fetch (R243, R263). -/

/-- A command that moves data, so that its entry's descriptor counts (R243). -/
def usesData (c : HCmd) : Bool :=
  if c.admin then
    c.op == 0x02 || c.op == 0x06 || c.op == 0x11 || (c.op == 0x0D && (c.cdw 10).fld 3 0 == 0) ||
    ((c.op == 0x09 || c.op == 0x0A) && ((c.cdw 10).fld 7 0 == 0x0C || (c.cdw 10).fld 7 0 == 0x0E)) ||
    (c.op == 0xC2 && (c.cdw 10).fld 3 0 == 0) || (c.op == 0xC5 && (c.cdw 11).fld 7 0 != 0)
  else c.op == 0x01 || c.op == 0x02 || c.op == 0x7A || c.op == 0x7D || c.op == 0x83

/-- The status an entry is rejected with at fetch, if any (R243). -/
def fetchReject (s : State) (pcie : Bool) (c : HCmd) : Option Cpl :=
  if leAt c.sqe 1 1 % 4 ≠ 0 then some (status 0 2)
  else if !pcie && leAt c.sqe 1 1 / 64 ≠ 1 then some (status 0 2)
  else if !pcie && usesData c && leAt c.sqe 39 1 / 16 ≠ 4 then some (status 0 2)
  else if s.dyn.hq.cmds.any (fun x => x.link == c.link && x.sqid == c.sqid && x.cid == c.cid && !x.orphan) then some (status 0 3)
  else none

/-- Change one submission queue of a link. -/
def updSq (l q : Nat) (g : SubQ → SubQ) : Eff :=
  updLink l (fun k => { k with sqs := k.sqs.map (fun x => if x.qid = q then g x else x) })

/-- Change one completion queue of a link. -/
def updCq (l q : Nat) (g : CplQ → CplQ) : Eff :=
  updLink l (fun k => { k with cqs := k.cqs.map (fun x => if x.qid = q then g x else x) })

/-- The reads of host memory that fetch `n` entries, with the key for rings: two where the ring's end lies between (R242, R256). -/
def ringReads (l : Link) (q : SubQ) (n : Nat) : Act :=
  let k := min n (q.size - q.head)
  seqs [linkOut l (.hostRead l.id (q.base + 64 * q.head) (ringKey l) (64 * k)),
    if k < n then linkOut l (.hostRead l.id q.base (ringKey l) (64 * (n - k))) else skip, linkFrames l]

/-- One entry is fetched into a slot (R241, R243), and journalled (R466). -/
def fetchOne (l : Link) (q : Nat) (e : List Byte) : Act := fun s =>
  let c : HCmd := {
    link := l.id, sqid := q, cid := leAt e 2 2, no := s.dyn.hq.next, sqe := fit 64 e, mark := s.dyn.zn.commits }
  let c := { c with done := fetchReject s l.pcie c }
  seqs [fun _ => [updHq (fun h => { h with cmds := h.cmds ++ [c], next := h.next + 1 }),
      updSq l.id q (fun x => { x with head := (x.head + 1) % x.size }), .cnt Reg.HQE_FETCH_CNT 31 0 1],
    journal l.id q c.cid 0 [] c.sqe, if q = 0 then skip else ioWake] s

/-- The queue engine may fetch (Table 9.8, R305). -/
def mayFetch (s : State) : Bool := hqUp s && s.fld Reg.HQE_CTL 1 0 == 1 && !s.dyn.hq.hold

/-- SQ_FETCH (R263): one arbitration turn. `entries` is what the read of host memory returns. -/
def execSqFetch (entries : Option (List (List Byte))) (s : State) : Res :=
  run (fun s =>
    if !mayFetch s then []
    else seqs [
      fun s => if (waitingSqs s).length ≠ (readySqs s).length then [.sq Reg.HQE_STAT 2] else [],
      fun s => match arbitrate s with
        | none => []
        | some (k, left) =>
          match turnOf s k with
          | none => []
          | some (l, q) =>
            seqs [fun _ => [updHq (fun h => { h with rr := setAt h.rr k (l.id, q.qid), left := left })],
              ringReads l q (turnLen s l q),
              each ((entries.getD []).take (turnLen s l q)) (fetchOne l q.qid)] s] s) s

/-- An 8-byte message (Table 9.3). -/
def shortMsg (ty nonce : Nat) : List Byte := [b8 ty, 0, 0, 0] ++ leBytes 4 nonce

/-- A link whose host has sent DISCONNECT is answered with DISC_ACK and freed once it holds no command (R252, R265). [DESIGN CHOICE, log 111, unsafe] -/
def discEnd (l : Nat) : Act := fun s =>
  match s.link? l with
  | none => []
  | some k =>
    if k.st = 3 && k.disc = 2 && !s.dyn.hq.cmds.any (fun c => c.link == l) then
      seqs [linkOut k (.send l (shortMsg 0x06 k.nonce)),
        fun _ => [updHq (fun h => { h with links := h.links.filter (fun x => x.id != l) }), .sq Reg.NET_GSTAT 2]] s
    else []

/-! Completion (R244, R248, R258). -/

/-- A NOTIFY message (Table 9.3). -/
def notifyMsg (cqid count tail : Nat) : List Byte := [0x11, 0] ++ leBytes 2 cqid ++ leBytes 4 count ++ leBytes 4 tail ++ zeros 4

/-- The index after the last entry written to a completion queue. -/
def cqTail (s : State) (l q : Nat) : Nat :=
  match (s.link? l).bind (fun k => k.cqs.find? (fun x => x.qid == q)) with
  | some x => x.tail
  | none => 0

/-- An entry of a function's MSI-X table: address, data, vector control; masked until it is written (Table 9.2). [DESIGN CHOICE, log 75, unsafe] -/
def msixEntry (s : State) (f v : Nat) : List Byte :=
  ((s.dyn.hq.msix.find? (fun e => e.1 == 1024 * f + v)).map (fun e => e.2)).getD (zeros 12 ++ [1, 0, 0, 0])

/-- A vector fires: its message leaves, or it is pending while its entry is masked (R248). [DESIGN CHOICE, log 75, unsafe] -/
def fireMsix (f v : Nat) : Act := fun s =>
  let e := msixEntry s f v
  if (leAt e 12 1).testBit 0 then
    [updHq (fun h => { h with pend := (1024 * f + v) :: h.pend.filter (fun x => x != 1024 * f + v) })]
  else [.emit (.msix f v (leAt e 0 8) (leAt e 8 4))]

/-- What is signalled for a key of a link: its vector, or a NOTIFY. -/
def signal (l : Link) (key : Nat) : Act := fun s =>
  let count := ((l.coal.find? (fun c => c.key == key)).map (fun c => c.count)).getD 0
  seqs [if l.pcie then fireMsix l.id key else linkOut l (.send l.id (notifyMsg key count (cqTail s l.id key))),
    fun _ => [updLink l.id (fun k => { k with coal := k.coal.filter (fun c => c.key != key) })]] s

/-- Coalescing lets a key fire (R248). [PRESUMED, log 40, unsafe] -/
def mayFire (l : Link) (iv : Nat) (c : Coal) : Bool := l.time == 0 || l.thr + 1 ≤ c.count || l.cd.contains iv

/-- An entry has been written to a completion queue with IEN = 1. -/
def coalesce (lid cqid : Nat) : Act := fun s =>
  match s.link? lid with
  | none => []
  | some l =>
    match l.cqs.find? (fun q => q.qid == cqid) with
    | none => []
    | some q =>
      if !q.ien || (!l.pcie && !l.notify) then []
      else
        let key := if l.pcie then q.iv else cqid
        let c := (l.coal.find? (fun c => c.key == key)).getD ⟨key, 0, s.dyn.us⟩
        let c := { c with count := c.count + 1 }
        seqs [fun _ => [updLink lid (fun k => { k with coal := c :: k.coal.filter (fun x => x.key != key) })],
          fun s => match s.link? lid with
            | some l => if mayFire l q.iv c then signal l key s else []
            | none => []] s

/-- After a change of the coalescing settings, what may fire does. -/
def refire (lid : Nat) : Act := fun s =>
  match s.link? lid with
  | none => []
  | some l =>
    let iv (key : Nat) : Nat := if l.pcie then key else ((l.cqs.find? (fun q => q.qid == key)).map (fun q => q.iv)).getD 0
    each (l.coal.filter (fun c => mayFire l (iv c.key) c)) (fun c s => match s.link? lid with
      | some l => signal l c.key s
      | none => []) s

/-- The completion queue of a command. -/
def cqOf (l : Link) (c : HCmd) : Option CplQ :=
  if c.sqid = 0 then l.cqs.find? (fun q => q.qid == 0)
  else match l.sqs.find? (fun q => q.qid == c.sqid) with
    | some q => l.cqs.find? (fun x => x.qid == q.cqid)
    | none => none

/-- A completion entry's 16 bytes. DNR, M and CRD of an error are not stated: `free` gives them. [PRESUMED, log 40, unsafe] -/
def cqeBytes (c : HCmd) (r : Cpl) (sqHead : Nat) (phase : Bool) (free : Nat) : List Byte :=
  leBytes 4 r.dw0 ++ leBytes 4 r.dw1 ++ leBytes 2 sqHead ++ leBytes 2 c.sqid ++ leBytes 2 c.cid ++
    leBytes 2 ((if phase then 1 else 0) + r.sc % 256 * 2 + r.sct % 8 * 512 +
      (if r.sc = 0 && r.sct = 0 then 0 else free % 16 * 4096))

/-- A completion waits for others to be posted before it: the Delete of a queue (R245), an Abort (R266). -/
def mustWait (s : State) (c : HCmd) : Bool :=
  match c.work with
  | .delSq q => s.dyn.hq.cmds.any (fun x => x.link == c.link && x.sqid == q && !x.orphan)
  | .abt t => s.dyn.hq.cmds.any (fun x => x.no == t)
  | _ => false

/-- COMPLETION_POST (R244). -/
def execCompletionPost (cmd : CmdRef) (s : State) : Res :=
  run (fun s =>
    match s.cmdBy cmd (fun c => c.done.isSome && !c.orphan), s.link? cmd.link.val with
    | some c, some l =>
      match c.done, cqOf l c with
      | some r, some q =>
        if !hqUp s || !linkServes s l.id || mustWait s c then []
        else if (q.tail + 1) % q.size = q.head then [.sq Reg.HQE_STAT 4]
        else
          let h := ((l.sqs.find? (fun x => x.qid == c.sqid)).map (fun x => x.head)).getD 0
          let b := cqeBytes c r h q.phase s.fresh
          seqs [
            linkOut l (.cqe l.id q.qid (q.base + 16 * q.tail) (ringKey l) b), linkFrames l,
            fun _ => [.draw, .cnt Reg.HQE_CQE_CNT 31 0 1,
              updCq l.id q.qid (fun x => { x with
                tail := (x.tail + 1) % x.size, phase := if x.tail + 1 = x.size then !x.phase else x.phase }),
              freeSlotOf c.no] ++
              (match c.work with
                | .delSq d => [updLink l.id (fun k => { k with sqs := k.sqs.filter (fun x => x.qid != d) })]
                | _ => []),
            journal l.id c.sqid c.cid 1 b [],
            coalesce l.id q.qid, discEnd l.id] s
      | _, _ => []
    | _, _ => []) s

/-- COALESCE_TIMER_EXPIRY (R248, R258). -/
def execCoalesceTimerExpiry (link : Fin 512) (cqid : Nat) (s : State) : Res :=
  run (fun s =>
    match s.link? link.val with
    | none => []
    | some l =>
      let key := if l.pcie then ((l.cqs.find? (fun q => q.qid == cqid)).map (fun q => q.iv)).getD 0 else cqid
      if hqUp s && linkServes s l.id && l.coal.any (fun c => c.key == key) then signal l key s else []) s

/-! Doorbells (R246, R247, R255). -/

/-- An invalid doorbell (R247): counted, and an Error Status event. -/
def dbError (l info : Nat) : Act :=
  seqs [fun _ => [.sq Reg.HQE_STAT 1, .cnt Reg.HQE_DBERR_CNT 31 0 1], raiseEvent l (eventDw 0 info 1) true]

/-- A doorbell reaches the engine: of a PCIe function, or of a Mornis link in service. -/
def dbReaches (s : State) (l : Nat) : Bool :=
  hqUp s && (linkServes s l || ((s.link? l).isNone && l < 2 && s.fld Reg.PCI_CTL 1 0 < 2 && l ≤ s.fld Reg.PCI_CTL 1 0))

/-- The doorbell at an offset of a link's doorbell space: QID, and whether it is the completion head (Table 9.2, R255). -/
def doorbellAt (pcie : Bool) (off : Nat) : Option (Nat × Bool) :=
  if off < (if pcie then 0x4000 else 0x400) && off % 8 = 0 then some (off / 16, off % 16 = 8) else none

/-- The offset of a queue's doorbell. -/
def doorbellOff (qid : Nat) (cq : Bool) : Nat := 16 * qid + (if cq then 8 else 0)

/-- A tail doorbell takes a value (R246, R247). -/
def sqTail (link qid v : Nat) : Act := fun s =>
  match (s.link? link).bind (fun l => l.sqs.find? (fun q => q.qid == qid)) with
  | none => dbError link 0 s
  | some q => if q.size ≤ v then dbError link 1 s else [updSq link qid (fun x => { x with tail := v })]

/-- A head doorbell takes a value (R246, R247). -/
def cqHead (link qid v : Nat) : Act := fun s =>
  match (s.link? link).bind (fun l => l.cqs.find? (fun q => q.qid == qid)) with
  | none => dbError link 0 s
  | some q =>
    if q.size ≤ v || (q.tail + q.size - q.head) % q.size < (v + q.size - q.head) % q.size then dbError link 1 s
    else [updCq link qid (fun x => { x with head := v })]

/-- A vector whose entry is no longer masked fires if it is pending. -/
def firePending (f v : Nat) : Act := fun s =>
  if s.dyn.hq.pend.contains (1024 * f + v) && !(leAt (msixEntry s f v) 12 1).testBit 0 then
    seqs [fun _ => [updHq (fun h => { h with pend := h.pend.filter (fun x => x != 1024 * f + v) })], fireMsix f v] s
  else []

/-- A write of BAR2 beside the doorbells: `n` bytes of an MSI-X table entry; other places take nothing (Table 9.2). [DESIGN CHOICE, log 75, unsafe] -/
def msixWrite (f off n v : Nat) : Act := fun s =>
  if off < 0x8000 || 0xC000 ≤ off || off % n ≠ 0 then []
  else
    let i := (off - 0x8000) / 16
    let e := msixEntry s f i
    let e := e.take (off % 16) ++ leBytes n v ++ e.drop (off % 16 + n)
    seqs [fun _ => [updHq (fun h => { h with msix := (1024 * f + i, e) :: h.msix.filter (fun x => x.1 != 1024 * f + i) })],
      firePending f i] s

/-- The word a read of BAR2 or of a doorbell window returns: zero of a doorbell and of a reserved place, else of the MSI-X table or its
pending bits (R246, Table 9.2). -/
def barWord (s : State) (link : Nat) (pcie : Bool) (off : Nat) : Nat :=
  if !pcie || off < 0x8000 || 0xC080 ≤ off then 0
  else if off < 0xC000 then leAt (msixEntry s link ((off - 0x8000) / 16)) (off % 16 / 4 * 4) 4
  else ((List.range 32).filter (fun b => s.dyn.hq.pend.contains (1024 * link + (off - 0xC000) / 4 * 32 + b))).foldl (fun w b =>
    w + 2 ^ b) 0

/-- An access of a link's doorbell space: `ring` is what a write of a doorbell does (R246, R255). [DESIGN CHOICE, log 109, safe] -/
def barAccess (link off : Nat) (acc : BarAccess) (ring : Nat → Bool → Nat → Act) : Act := fun s =>
  let pcie := ((s.link? link).map (fun l => l.pcie)).getD true
  let port := ((s.link? link).map (fun l => l.port)).getD 0
  let write (n v : Nat) : Act := match doorbellAt pcie off with
    | some (q, cq) => ring q cq (v % 65536)
    | none => if pcie then msixWrite link off n v else skip
  if !dbReaches s link then []
  else seqs [linkIn pcie port, match acc with
    | .read => fun s => [.emit (.barData link off (barWord s link pcie off))]
    | .write4 v => write 4 v.toNat
    | .write8 v => write 8 v.toNat] s

/-- SQ_TAIL_DOORBELL (R246). -/
def execSqTailDoorbell (link : Fin 512) (off : Nat) (acc : BarAccess) (s : State) : Res :=
  run (barAccess link.val off acc (fun q cq v => if cq then skip else sqTail link.val q v)) s

/-- CQ_HEAD_DOORBELL (R246). -/
def execCqHeadDoorbell (link : Fin 512) (off : Nat) (acc : BarAccess) (s : State) : Res :=
  run (barAccess link.val off acc (fun q cq v => if cq then cqHead link.val q v else skip)) s

/-! Controller resets and closing links (R251, R254, R303, Table 10.8). -/

/-- Work that goes on in the background with no completion: a write whose data is all pulled, formatting, a deletion of
namespaces, a firmware activation (Table 10.8). An append whose data is all pulled goes on where a link closes (R254), not at a
controller reset. [DEDUCED, log 92, unsafe] -/
def goesOn (apps : Bool) (c : HCmd) : Bool :=
  c.done.isNone && (match c.work with
    | .wr _ _ _ a _ (some _) => apps || !a
    | .fmt _ => true
    | .nsdel _ => true
    | .fw _ _ => true
    | _ => false)

/-- The commands of a link lose their completions: what is in flight goes on, incomplete writes are discarded under R295, the
rest is dropped. -/
def dropCmds (apps : Bool) (l : Nat) : Act := fun s =>
  let cs := s.dyn.hq.cmds.filter (fun c => c.link == l && !c.orphan)
  seqs [
    fun _ => [updHq (fun h => { h with cmds := h.cmds.map (fun c => if c.link = l then { c with orphan := true } else c) })],
    each (cs.filter (fun c => c.uncommitted && !goesOn apps c)) (fun c => failWrite { c with orphan := true } (status 0 7)),
    each (cs.filter (fun c => !c.uncommitted && !goesOn apps c)) (fun c => fun _ => [freeSlotOf c.no])] s

/-- The admin queues of a link, empty. [PRESUMED, log 40, unsafe] -/
def adminQs (asq acq asqs acqs : Nat) : List SubQ × List CplQ :=
  ([{ qid := 0, base := asq, size := asqs + 1 }], [{ qid := 0, base := acq, size := acqs + 1, ien := true }])

/-- A link as its controller starts: no I/O queues, no grant, features at their first values. -/
def freshLink (l : Link) : Link :=
  let q := adminQs l.asq l.acq l.asqs l.acqs
  { l with
    sqs := q.1, cqs := q.2, grant := 0, nsqa := 0, ncqa := 0, numq := false, thr := 0, time := 0, cd := [], aec := 0,
    evts := [], mask := [], changed := [], coal := [], resetDue := false }

/-- The controller reset of one link (R303, Table 10.8). -/
def ctrlReset (l : Nat) : Act := fun s =>
  match s.link? l with
  | none => []
  | some k =>
    seqs [dropCmds false l,
      if k.pcie then fun _ => [updHq (fun h => { h with links := h.links.filter (fun x => x.id != l) }),
        .fld (Reg.CC l) 0 0 0, .reg (Reg.CSTS l) 0]
      else fun _ => [updLink l freshLink]] s

/-- CONTROLLER_RESET (R303): CC.EN has gone from 1 to 0, or a hot reset or link down has come while HR_SCOPE is 1. -/
def execControllerReset (link : Fin 512) (s : State) : Res :=
  run (fun s => if hqUp s && (s.link? link.val).any (fun l => l.resetDue) then ctrlReset link.val s else []) s

/-- A link closes without DISCONNECT (R254): nothing more is sent for it. -/
def closeLink (l : Nat) : Act :=
  seqs [dropCmds true l, fun s =>
    [updHq (fun h => { h with
        txq := h.txq.filter (fun e => e.2.1 != l)
        links := if s.dyn.hq.cmds.any (fun c => c.link == l) then
          h.links.map (fun x => if x.id = l then { x with st := 3, disc := 0, sqs := [], cqs := [] } else x)
        else h.links.filter (fun x => x.id != l) }),
     .sq Reg.NET_GSTAT 2]]

/-- A link's context is freed: pulled writes still commit (R252, R254). -/
def freeLink (l : Nat) : Act :=
  seqs [dropCmds true l, fun _ => [updHq (fun h => { h with
    txq := h.txq.filter (fun e => e.2.1 != l), links := h.links.filter (fun x => x.id != l) })]]

/-! PCIe functions (R249, R269, R270, R304). -/

/-- PCIe function f exists (Table 9.13). -/
def pcieFn (s : State) (f : Nat) : Bool :=
  let m := s.fld Reg.PCI_CTL 1 0
  m < 2 && f ≤ m

/-- The settings CC.EN accepts (R270, Table 9.12). -/
def ccOk (d : Word) : Bool :=
  d.fld 23 20 == 4 && d.fld 19 16 == 6 && d.fld 13 11 ≤ 1 && d.fld 10 7 == 0 && (d.fld 6 4 == 0 || d.fld 6 4 == 6)

/-- Insert a link in ascending order. -/
def addLink (l : Link) : Eff := updHq (fun h => { h with
    links := h.links.filter (fun x => x.id < l.id) ++ [l] ++ h.links.filter (fun x => l.id < x.id) })

/-- CC.EN becomes 1 (R240, R270). [DEDUCED, log 41, unsafe] [DESIGN CHOICE, log 43, unsafe] -/
def ccEnable (f : Nat) (d : Word) : Act := fun s =>
  if !pcieFn s f then []
  else if !ccOk d || 4096 ≤ pairsUsed s then [.fld (Reg.CSTS f) 1 1 1]
  else seqs [dropCmds false f, fun _ => [addLink (freshLink {
      id := f, pcie := true, st := 2, asq := s.pair (Reg.ASQ_LO f), acq := s.pair (Reg.ACQ_LO f),
      asqs := s.fld (Reg.AQA f) 11 0, acqs := s.fld (Reg.AQA f) 27 16 }),
    .reg (Reg.CSTS f) 1]] s

/-- A shutdown notification: the write buffer is flushed, every zone saved, SHST set (R304). -/
def shutdown (f : Nat) : Act := fun s =>
  .fld (Reg.CSTS f) 3 2 1 :: settle (applyEff s (.fld (Reg.CSTS f) 3 2 1))

/-- A write of CC (R269, R270, R303, R304). -/
def hCc (f : Nat) (d : Word) : Act := fun s =>
  let old := s.reg (Reg.CC f)
  seqs [plainWrite (Reg.CC f) d,
    if d.bit 0 && !old.bit 0 then ccEnable f d
    else if !d.bit 0 && old.bit 0 then
      (if (s.link? f).isSome then fun _ => [updLink f (fun l => { l with resetDue := true })] else fun _ => [.reg (Reg.CSTS f) 0])
    else skip,
    if (d.fld 15 14 = 1 || d.fld 15 14 = 2) && d.fld 15 14 ≠ old.fld 15 14 then shutdown f else skip] s

/-- CC_EN_WRITE (R270). -/
def execCcEnWrite (init : Initiator) (fn : Fin 2) (data : Word) (s : State) : Res :=
  run (wrAccess init (Reg.CC fn.val) (hCc fn.val data)) s

/-- CC_SHN_WRITE (R304). -/
def execCcShnWrite (init : Initiator) (fn : Fin 2) (data : Word) (s : State) : Res :=
  run (wrAccess init (Reg.CC fn.val) (hCc fn.val data)) s

/-- An event of a PCIe port that resets: HOST, or the controller of its function (R249). [DESIGN CHOICE, log 43, unsafe] -/
def portReset (port sub : Nat) : Act := fun s =>
  if s.bit Reg.PCI_CTL 2 then
    (if (s.link? port).any (fun l => l.pcie) then [updLink port (fun l => { l with resetDue := true })]
     else if hqUp s then [.fld (Reg.CC port) 0 0 0, .reg (Reg.CSTS port) 0] else [])
  else raiseSrc .host (sub + port) 0 s

/-- PCIE_HOT_RESET (R249). -/
def execPcieHotReset (port : Fin 2) (s : State) : Res :=
  run (fun s =>
    if !pcieFn s port.val || s.dyn.rst.beached then []
    else seqs [fun s => if hqUp s then [.sq Reg.PCI_STAT 1] else [], portReset port.val 1] s) s

/-- A PCIe link down (R249, R394). -/
def linkDown (port : Nat) : Act := fun s =>
  if !pcieFn s port || !hqUp s then []
  else seqs [fun _ => [.sq Reg.PCI_STAT 2, .fld Reg.PCI_STAT (4 + port) (4 + port) 0] ++
      (if port = 0 then [.fld Reg.PCI_STAT 11 6 0] else []), portReset port 3] s

/-- PCIE_LINK_DOWN (R249). -/
def execPcieLinkDown (port : Fin 2) (s : State) : Res := run (linkDown port.val) s

/-- PERST_ASSERT (R497). -/
def execPerstAssert (port : Fin 2) (s : State) : Res :=
  run (fun s => if port.val = 1 && s.fld Reg.PCI_CTL 1 0 ≠ 1 then [] else linkDown port.val s) s

/-! Mornis (R250-R254). -/

/-- CAP as ACCEPT carries it (Table 9.13). -/
def capWord : Nat := 0x000008213C030FFF

/-- A link's doorbell window (R250). -/
def dbWindow (l : Nat) : Nat := 0x100000000 + l * 0x400

/-- The Mornis links in use. -/
def mornisLinks (s : State) : List Link := s.dyn.hq.links.filter (fun l => !l.pcie)

/-- The lowest link number free for Mornis (R238). -/
def freeLinkNo (s : State) : Option Nat :=
  if min 512 (s.fld Reg.NET_MCTL 9 0) ≤ (mornisLinks s).length then none
  else (List.range 512).find? (fun i => !pcieFn s i && (s.link? i).isNone && !s.dyn.hq.cmds.any (fun c => c.link == i))

/-- A configured address of a port (R260): its entries are IPv6 or IPv4-mapped, byte 0 first. -/
def hasAddr (s : State) (p a : Nat) : Bool :=
  (List.range 4).any (fun k => s.bit (Reg.NET_IPVAL p) k &&
    ofBE ((List.range 4).flatMap (fun w => leBytes 4 (s.reg (Reg.NET_IP p k w)).toNat)) == a)

/-- The MAC address of a port. -/
def portMac (s : State) (p : Nat) : Nat := (s.reg (Reg.NET_MAC_LO p)).toNat + s.fld (Reg.NET_MAC_HI p) 15 0 * 2 ^ 32

/-- A frame's VLAN tag is the one NET_VLAN asks for: VID while TAG is 1, none while it is 0. [PRESUMED, log 112, unsafe] -/
def tagOk (s : State) (p : Nat) (tag : Option Nat) : Bool :=
  if s.bit (Reg.NET_VLAN p) 12 then tag == some (s.fld (Reg.NET_VLAN p) 11 0) else tag.isNone

/-- A frame that is received and dropped (R259). -/
def frameLost (p : Nat) : Act := seqs [frameIn p, fun _ => [.cnt (Reg.NET_DROP_CNT p) 31 0 1]]

/-- A CONNECT's fields are valid (Table 9.4, R242). [DEDUCED, log 42, unsafe] -/
def connectOk (m : ConnectMsg) : Bool :=
  3 ≤ m.pmtu.toNat && m.pmtu.toNat ≤ 5 && 1 ≤ m.respRes.toNat && m.respRes.toNat ≤ 16 && m.asqs.toNat ≤ 4095 &&
    m.acqs.toNat ≤ 4095 && m.asq.toNat % 4096 == 0 && m.acq.toNat % 4096 == 0

/-- A datagram of the control port; it belongs to no link. -/
def datagramOut (m : ConnectMsg) (b : List Byte) : Act := netSend m.port.val 512 (.datagram m.port.val m.srcAddr m.srcPort.toNat b)

/-- REJECT with a status (Table 9.4). -/
def reject (m : ConnectMsg) (st : Nat) : Act :=
  seqs [datagramOut m ([0x0A, b8 st, 0, 0] ++ leBytes 4 m.nonce.toNat ++ zeros 56),
    fun _ => [.sq Reg.NET_GSTAT 8, .cnt Reg.NET_REJ_CNT 31 0 1]]

/-- ACCEPT of a link. -/
def acceptMsg (m : ConnectMsg) (l qpn psn rkey : Nat) : List Byte :=
  [0x02, 0] ++ leBytes 2 l ++ leBytes 4 m.nonce.toNat ++ leBytes 3 qpn ++ [0] ++ leBytes 3 psn ++ [0] ++
    leBytes 8 (dbWindow l) ++ leBytes 4 rkey ++ [b8 m.pmtu.toNat, 16, 64, 0] ++ leBytes 8 capWord ++ zeros 24

/-- A context is allocated and ACCEPT answered (R250). The device's QPN, PSN and key are its own to choose. [DEDUCED, log 42, unsafe] -/
def accept (m : ConnectMsg) (l : Nat) : Act := fun s =>
  let a := acceptMsg m l s.fresh (Config.free (s.free + 1)) (Config.free (s.free + 2))
  seqs [fun _ => [.draw, .draw, .draw, addLink (freshLink {
      id := l, pcie := false, st := 1, port := m.port.val, src := m.srcAddr, dst := m.dstAddr.toNat, udp := m.srcPort.toNat, nonce := m.nonce.toNat,
      accept := a, notify := m.notifyEn, rkey := m.ringRkey.toNat, pmtu := m.pmtu.toNat, respRes := m.respRes.toNat,
      qpn := m.hostQpn.toNat, psn := m.hostPsn.toNat, asq := m.asq.toNat, acq := m.acq.toNat, asqs := m.asqs.toNat,
      acqs := m.acqs.toNat })], datagramOut m a] s

/-- CONNECT (R250). [DEDUCED, log 42, unsafe] -/
def execConnect (msg : ConnectMsg) (s : State) : Res :=
  run (fun s =>
    let p := msg.port.val
    if !hqUp s || !s.bit (Reg.NET_CTL p) 0 then []
    else if !tagOk s p (msg.vlan.map (fun v => v.toNat)) || !hasAddr s p msg.dstAddr.toNat then frameLost p s
    else seqs [frameIn p, fun s =>
      match (mornisLinks s).find? (fun l => l.st == 1 && l.src == msg.srcAddr && l.udp == msg.srcPort.toNat &&
          l.nonce == msg.nonce.toNat) with
        | some l => datagramOut msg l.accept s
        | none =>
          if msg.version ≠ 1 then reject msg 2 s
          else if !connectOk msg then reject msg 3 s
          else match freeLinkNo s with
            | none => reject msg 1 s
            | some l => if 4096 ≤ pairsUsed s then reject msg 4 s else accept msg l s] s) s

/-- A Mornis link in a state, with the link's NONCE. [DEDUCED, log 42, unsafe] -/
def mornisIn (s : State) (l st : Nat) (nonce : BitVec 32) : Option Link :=
  match s.link? l with
  | some k => if hqUp s && !k.pcie && k.st == st && k.nonce == nonce.toNat then some k else none
  | none => none

/-- A SEND on a link. -/
def sendMsg (k : Link) (b : List Byte) : Act := linkOut k (.send k.id b)

/-- READY (R250). -/
def execReady (link : Fin 512) (nonce : BitVec 32) (s : State) : Res :=
  run (fun s =>
    match mornisIn s link.val 1 nonce with
    | some k => seqs [frameIn k.port, fun _ => [updLink k.id (fun l => { l with st := 2 }), .sq Reg.NET_GSTAT 1],
        sendMsg k (shortMsg 0x04 k.nonce)] s
    | none => []) s

/-- READY_TIMEOUT (R250). -/
def execReadyTimeout (link : Fin 512) (s : State) : Res :=
  run (fun s =>
    if hqUp s && (s.link? link.val).any (fun l => !l.pcie && l.st == 1) then freeLink link.val s else []) s

/-- RESET (R251). -/
def execReset (link : Fin 512) (nonce : BitVec 32) (s : State) : Res :=
  run (fun s =>
    match mornisIn s link.val 2 nonce with
    | some k => seqs [frameIn k.port, ctrlReset k.id, sendMsg k (shortMsg 0x08 k.nonce)] s
    | none => []) s

/-- A link closes by DISCONNECT, sent (1) or received (2): nothing more is fetched, and every fetched command still gets its one
completion (R265), an uncommitted one with Command Abort Requested. [DESIGN CHOICE, log 111, unsafe] -/
def discLink (l m : Nat) : Act := fun s =>
  let cs := s.dyn.hq.cmds.filter (fun c => c.link == l && c.done.isNone && !c.orphan && !goesOn true c)
  seqs [fun _ => [updLink l (fun k => { k with st := 3, disc := m })],
    each cs (fun c => if c.uncommitted then failWrite c (status 0 7) else finish c (status 0 7)), discEnd l] s

/-- DISCONNECT (R252): the host's, answered with DISC_ACK once every fetched command has its completion, or one the device sends. -/
def execDisconnect (link : Fin 512) (msg : CloseMsg) (nonce : BitVec 32) (s : State) : Res :=
  run (fun s =>
    match mornisIn s link.val 2 nonce with
    | some k =>
      if msg.sent then seqs [sendMsg k ([0x05, b8 msg.reason.toNat, 0, 0] ++ leBytes 4 k.nonce), discLink k.id 1] s
      else seqs [frameIn k.port, discLink k.id 2] s
    | none => []) s

/-- The device has sent DISCONNECT on a link and waits (R252). -/
def discSent (k : Link) : Bool := !k.pcie && k.st == 3 && k.disc == 1

/-- DISC_ACK (R252): the host answers a DISCONNECT of the device's. -/
def execDiscAck (link : Fin 512) (nonce : BitVec 32) (s : State) : Res :=
  run (fun s =>
    match s.link? link.val with
    | some k =>
      if hqUp s && discSent k && k.nonce == nonce.toNat then
        seqs [frameIn k.port, freeLink k.id, fun _ => [.sq Reg.NET_GSTAT 2]] s
      else []
    | none => []) s

/-- DISCONNECT_TIMEOUT (R252): 100 ms have passed since the device sent DISCONNECT. -/
def execDisconnectTimeout (link : Fin 512) (s : State) : Res :=
  run (fun s =>
    if hqUp s && (s.link? link.val).any discSent then seqs [freeLink link.val, fun _ => [.sq Reg.NET_GSTAT 2]] s else []) s

/-- KEEPALIVE (R253). -/
def execKeepalive (link : Fin 512) (s : State) : Res :=
  run (fun s =>
    match s.link? link.val with
    | some k => if hqUp s && !k.pcie && k.st == 2 then sendMsg k (shortMsg 0x09 k.nonce) s else []
    | none => []) s

/-- RC_RETRY_EXHAUSTED (R253, R254). -/
def execRcRetryExhausted (link : Fin 512) (s : State) : Res :=
  run (fun s =>
    if hqUp s && (s.link? link.val).any (fun l => !l.pcie && (l.st == 2 || l.disc != 0)) then
      seqs [fun _ => [.sq Reg.NET_GSTAT 4], closeLink link.val] s
    else []) s

/-! Congestion control (R262). -/

/-- A Mornis link in service. -/
def mornisLive (s : State) (l : Nat) : Option Link :=
  match s.link? l with
  | some k => if hqUp s && !k.pcie && k.st == 2 then some k else none
  | none => none

/-- CE_PACKET_RECEIVE (R262). -/
def execCePacketReceive (link : Fin 512) (s : State) : Res :=
  run (fun s =>
    match mornisLive s link.val with
    | none => []
    | some k =>
      if k.cnpAt.all (fun t => t + s.fld Reg.NET_CC 23 16 ≤ s.dyn.us) then
        seqs [frameIn k.port, linkOut k (.cnp k.id), fun s => [updLink k.id (fun l => { l with cnpAt := some s.dyn.us })]] s
      else frameIn k.port s) s

/-- The lowest send rate (Table 9.10). -/
def minRate (s : State) : Nat := max 1 (s.fld Reg.NET_CC 7 0) * 2 ^ 64

/-- CNP_RECEIVE (R262). -/
def execCnpReceive (link : Fin 512) (s : State) : Res :=
  run (fun s =>
    match mornisLive s link.val with
    | none => []
    | some k => seqs [frameIn k.port, fun s => [.cnt Reg.NET_CNP_CNT 31 0 1,
        updLink k.id (fun l => { l with rate := max (l.rate / 2) (minRate s) })]] s) s

/-- RATE_RECOVERY_TIMER (R262). -/
def execRateRecoveryTimer (link : Fin 512) (s : State) : Res :=
  run (fun s =>
    match mornisLive s link.val with
    | none => []
    | some k => [updLink k.id (fun l => { l with rate := min (100 * 2 ^ 64) (l.rate + 100 * 2 ^ 61) })]) s

/-! Ethernet ports (R259-R261). -/

/-- The port is enabled and its domain runs. -/
def portOn (s : State) (p : Nat) : Bool := hqUp s && s.up (96 + p) && s.bit (Reg.NET_CTL p) 0

/-- PFC_PAUSE_SEND (R261). -/
def execPfcPauseSend (port : Fin 2) (s : State) : Res :=
  run (fun s =>
    if portOn s port.val && s.bit Reg.NET_QOS 0 && !s.dyn.hq.pausing.getD port.val false then
      [.emit (.pfc port.val (s.fld Reg.NET_QOS 26 24) true), frameOut port.val,
       updHq (fun h => { h with pausing := setAt h.pausing port.val true })]
    else []) s

/-- PFC_PAUSE_RELEASE (R261). -/
def execPfcPauseRelease (port : Fin 2) (s : State) : Res :=
  run (fun s =>
    if portOn s port.val && s.dyn.hq.pausing.getD port.val false then
      [.emit (.pfc port.val (s.fld Reg.NET_QOS 26 24) false), frameOut port.val,
       updHq (fun h => { h with pausing := setAt h.pausing port.val false })]
    else []) s

/-- PFC_FRAME_RECEIVE (R259): pauses or resumes the priorities it names that PFC_RX honours. -/
def execPfcFrameReceive (port : Fin 2) (prios : BitVec 8) (pause : Bool) (s : State) : Res :=
  run (fun s =>
    if !portOn s port.val then []
    else
      let m := (s.reg Reg.NET_QOS).fld 15 8
      let p := Nat.land prios.toNat m
      seqs [frameIn port.val, fun _ => [.cnt Reg.NET_PFC_CNT 31 0 1,
          updHq (fun h => { h with paused := modAt h.paused port.val (fun x =>
            if pause then Nat.lor x p else Nat.land x (255 - p)) })], netRelease port.val] s) s

/-- NEIGHBOUR_ANSWER (R259): ARP (kind 0), neighbour solicitation (1), ICMP (2) and ICMPv6 (3) echo for a configured address. -/
def execNeighbourAnswer (port : Fin 2) (kind : Fin 4) (addr : BitVec 128) (request : List Byte) (s : State) : Res :=
  run (fun s =>
    let p := port.val
    if !portOn s p then []
    else if !hasAddr s p addr.toNat then frameLost p s
    else seqs [frameIn p, fun s =>
      [.emit (.answer p kind.val addr.toNat (if kind.val < 2 then beBytes 6 (portMac s p) else request)), frameOut p]] s) s

/-! Which frames a port carries (Table 9.5; header layouts of the standards named there). -/

/-- The IPv4-mapped address of four bytes. -/
def mapped4 (b : List Byte) : Nat := 0xFFFF * 2 ^ 32 + ofBE b

/-- A UDP datagram to a configured address is carried: to an open link's queue pair, or to the control port. [PRESUMED, log 112, unsafe] -/
def carriesUdp (s : State) (p : Nat) (u : List Byte) : Bool :=
  let dp := ofBE (slice u 2 2)
  dp == s.fld Reg.NET_MCTL 31 16 ||
    (dp == 4791 && (mornisLinks s).any (fun l => l.port == p && l.accept.getD 8 0 == u.getD 15 0 &&
      l.accept.getD 9 0 == u.getD 14 0 && l.accept.getD 10 0 == u.getD 13 0))

/-- An Ethernet payload of a type is one of Table 9.5. [PRESUMED, log 112, unsafe] -/
def carriesType (s : State) (p ty : Nat) (b : List Byte) : Bool :=
  if ty = 0x0806 then ofBE (slice b 6 2) == 1 && hasAddr s p (mapped4 (slice b 24 4))
  else if ty = 0x0800 then
    let h := leAt b 0 1 % 16 * 4
    hasAddr s p (mapped4 (slice b 16 4)) &&
      ((leAt b 9 1 == 1 && leAt b h 1 == 8) || (leAt b 9 1 == 17 && carriesUdp s p (b.drop h)))
  else if ty = 0x86DD then
    (leAt b 6 1 == 58 && ((leAt b 40 1 == 128 && hasAddr s p (ofBE (slice b 24 16))) ||
      (leAt b 40 1 == 135 && hasAddr s p (ofBE (slice b 48 16))))) ||
    (leAt b 6 1 == 17 && hasAddr s p (ofBE (slice b 24 16)) && carriesUdp s p (b.drop 40))
  else false

/-- A frame without its preamble is one of Table 9.5: at most 4,200 bytes, to the port's MAC address or a group, with the VLAN tag NET_VLAN
asks for; PFC carries no tag. [PRESUMED, log 112, unsafe] -/
def carried (s : State) (p : Nat) (f : List Byte) : Bool :=
  let ty := ofBE (slice f 12 2)
  let tag := if ty = 0x8100 then some (ofBE (slice f 14 2) % 4096) else none
  if f.length < 14 || 4200 < f.length then false
  else if ty = 0x8808 then ofBE (slice f 14 2) == 0x0101
  else (leAt f 0 1 % 2 == 1 || ofBE (f.take 6) == portMac s p) && tagOk s p tag &&
    (if tag.isSome then carriesType s p (ofBE (slice f 16 2)) (f.drop 18) else carriesType s p ty (f.drop 14))

/-- FRAME_DROP (R259): a frame that is none of Table 9.5; one whose codeword FEC could not correct is lost as well. [DESIGN CHOICE, log 95, safe] -/
def execFrameDrop (port : Fin 2) (frame : List Byte) (s : State) : Res :=
  run (fun s =>
    let bad := s.fresh % 2 == 1
    if !portOn s port.val then []
    else if !bad && carried s port.val frame then [.draw]
    else seqs [fun _ => .draw :: (if bad then [.sq (Reg.NET_STAT port.val) 4] else []), frameLost port.val] s) s

/-- The lanes a port uses, as Breakwater's requester indices (Tables 9.10 and 14.6). -/
def ethLanes (s : State) (p : Nat) : List Nat := if s.bit (Reg.NET_CTL p) 7 then [2 * p] else [2 * p, 2 * p + 1]

/-- A write of NET_CTL: enabling a port raises the starts of its lanes; disabling it takes the link down. -/
def hNetCtl (p : Nat) (d : Word) : Act := fun s =>
  let old := s.reg (Reg.NET_CTL p)
  seqs [plainWrite (Reg.NET_CTL p) d,
    if d.bit 0 && !old.bit 0 then fun s => (ethLanes s p).map (fun i => bwRaise 3 i)
    else if !d.bit 0 && old.bit 0 then fun _ =>
      [bwWithdraw 3 (2 * p), bwWithdraw 3 (2 * p + 1), useGrant 3 (2 * p), useGrant 3 (2 * p + 1)] ++
      (if s.bit (Reg.NET_STAT p) 15 then [.fld (Reg.NET_STAT p) 15 15 0, .sq (Reg.NET_STAT p) 2] else [])
    else skip] s

/-- ETH_LINK_UP (R269): an enabled port whose lanes have been granted their starts. [DESIGN CHOICE, log 44, safe] -/
def execEthLinkUp (port : Fin 2) (s : State) : Res :=
  run (fun s =>
    if portOn s port.val && !s.bit (Reg.NET_STAT port.val) 15 && (ethLanes s port.val).all (fun i => hasGrant s 3 i) then
      [.fld (Reg.NET_STAT port.val) 15 15 1, .sq (Reg.NET_STAT port.val) 1]
    else []) s

/-- ETH_LINK_DOWN (R269). -/
def execEthLinkDown (port : Fin 2) (s : State) : Res :=
  run (fun s =>
    if hqUp s && s.bit (Reg.NET_STAT port.val) 15 then
      [.fld (Reg.NET_STAT port.val) 15 15 0, .sq (Reg.NET_STAT port.val) 2]
    else []) s

/-! Views (Tables 9.8 and 9.10). -/

/-- HQE_USE. -/
def viewUse (s : State) : Word := w32 (s.dyn.hq.cmds.length * 2 ^ 15 + pairsUsed s)

/-- HQE_LINK_INFO of the selected link. -/
def viewLink (s : State) : Word :=
  let l := s.fld Reg.HQE_LINK_SEL 8 0
  match s.link? l with
  | some k => w32 (k.st * 2 ^ 30 + (if k.pcie then 2 ^ 29 else 0) + (1 + k.grant) * 2 ^ 18 + linkUsed s l)
  | none => 0

/-- PCI_STAT: UP, WIDTH and SPEED of the ports that exist. How a link has trained is not commanded, so they are free. [DESIGN CHOICE, log 44, safe] -/
def viewPci (s : State) : Word :=
  let f := s.fresh
  let up (p : Nat) : Bool := pcieFn s p && f.testBit p
  let w := if s.fld Reg.PCI_CTL 1 0 = 0 then [1, 2, 4].getD (f / 4 % 3) 1 else 1 + f / 4 % 2
  (s.reg Reg.PCI_STAT).setFld 11 4 ((if up 0 then w * 32 + (1 + f / 16 % 5) * 4 + 1 else 0) + (if up 1 then 2 else 0))

/-- NET_LINKS. -/
def viewLinks (s : State) : Word := w32 (mornisLinks s).length

end Sys2Proof.Machine
end

