-- ==== Sys2Proof/Machine/Admin.lean ====
section
/-! DEFINITION. Admin commands: queues, Abort, features, namespaces, keys (09, 10). -/

namespace Sys2Proof.Machine

/-- The command ends with success. -/
def okCpl : Cpl := {}

/-- Invalid Field in Command. -/
def invField : Cpl := status 0 2

/-- Why a command's data pointer is rejected before any data moves: a PRP1 that is not dword-aligned, or an SGL descriptor of
another type (R281, R282). -/
def headCheck (l : Link) (c : HCmd) : Option Cpl :=
  if leAt c.sqe 1 1 / 64 = 0 then (if leAt c.sqe 24 8 % 4 = 0 then none else some (status 0 0x13))
  else if leAt c.sqe 1 1 / 64 = 3 then some invField
  else
    let t := leAt c.sqe 39 1 / 16
    if l.pcie && t != 0 && t != 2 && t != 3 then some (status 0 0x11) else none

/-- The Data Block descriptors of SGL segments read in order (R282), or the status of the first descriptor that is refused. `left`
counts the descriptors left in the segment at hand, `last` says no segment follows it. [DEDUCED, log 49, unsafe] -/
def sglWalk : Nat → List Byte → Nat → Bool → List (Nat × Nat) → Sum Cpl (List (Nat × Nat))
  | 0, _, _, _, _ => .inl (status 0 0x0E)
  | k + 1, bs, left, last, got =>
    if left = 0 then .inr got
    else
      let t := leAt bs 15 1 / 16
      let m := leAt bs 8 4
      if t = 0 then
        (if got.length = 256 then .inl (status 0 0x0E)
         else sglWalk k (bs.drop 16) (left - 1) last (got ++ [(leAt bs 0 8, m)]))
      else if (t = 2 || t = 3) && left = 1 && !last then sglWalk k (bs.drop 16) (m / 16) (t == 3) got
      else .inl (status 0 0x11)

/-- Entries of a PRP list for `n` data pages, chain entries among them (R281): a page of a list that goes on ends in one. -/
def prpEntries (n : Nat) : Nat := if n ≤ 512 then n else n + (n - 2) / 511

/-- The first `n` bytes of runs of host memory. -/
def takeRuns : Nat → List (Nat × Nat) → List (Nat × Nat)
  | _, [] => []
  | n, (a, m) :: rs => if n = 0 then [] else (a, min n m) :: takeRuns (n - min n m) rs

/-- A run cut into messages of at most 1 MiB (R257). -/
def cutRun (key : Nat) (r : Nat × Nat) : List Piece :=
  (List.range ((r.2 + 1048575) / 1048576)).map (fun i => ⟨r.1 + 1048576 * i, some key, min 1048576 (r.2 - 1048576 * i)⟩)

/-- The data pointer of a command that moves `need` bytes (R281-R283, R257): the pieces of its buffer, or the status it is refused
with. `list` is what the read of its PRP list or SGL segments returns. [DEDUCED, log 49, unsafe] -/
def dptrWalk (l : Link) (c : HCmd) (need : Nat) (list : Option (List Byte)) : Sum Cpl (List Piece) :=
  let plain (rs : List (Nat × Nat)) : List Piece := ((takeRuns need rs).filter (fun r => r.2 != 0)).map (fun r => ⟨r.1, none, r.2⟩)
  let p1 := leAt c.sqe 24 8
  match headCheck l c with
  | some r => .inl r
  | none =>
    if leAt c.sqe 1 1 / 64 = 0 then
      let p2 := leAt c.sqe 32 8
      let rest := need - (4096 - p1 % 4096)
      let n := prpEntries ((rest + 4095) / 4096)
      let head := (p1, 4096 - p1 % 4096)
      if rest = 0 then .inr (plain [head])
      else if p2 % 4096 ≠ 0 then .inl (status 0 0x13)
      else if rest ≤ 4096 then .inr (plain [head, (p2, 4096)])
      else match list with
        | none => .inl (status 0 4)
        | some bs =>
          if (List.range n).all (fun i => leAt bs (8 * i) 8 % 4096 == 0) then
            .inr (plain (head :: ((List.range n).filter (fun i => i % 512 ≠ 511 || i + 1 = n)).map (fun i => (leAt bs (8 * i) 8, 4096))))
          else .inl (status 0 0x13)
    else if !l.pcie then
      (if leAt c.sqe 32 3 < need then .inl (status 0 0x0F) else .inr (cutRun (leAt c.sqe 35 4) (p1, need)))
    else
      let t := leAt c.sqe 39 1 / 16
      if t = 0 then (if leAt c.sqe 32 4 < need then .inl (status 0 0x0F) else .inr (plain [(p1, leAt c.sqe 32 4)]))
      else match list with
        | none => .inl (status 0 4)
        | some bs =>
          match sglWalk 2048 bs (leAt c.sqe 32 4 / 16) (t == 3) [] with
          | .inl r => .inl r
          | .inr rs => if rs.foldl (fun n r => n + r.2) 0 < need then .inl (status 0 0x0F) else .inr (plain rs)

/-- Checks 6 and 7 of R279. -/
def dptrCheck (l : Link) (c : HCmd) (need : Nat) (list : Option (List Byte)) : Option Cpl :=
  match dptrWalk l c need list with
  | .inl r => some r
  | .inr _ => none

/-- The pieces of a buffer that has passed them. -/
def dptrPieces (l : Link) (c : HCmd) (need : Nat) (list : Option (List Byte)) : List Piece :=
  match dptrWalk l c need list with
  | .inl _ => []
  | .inr ps => ps

/-- Bytes laid along the pieces of a buffer. -/
def chop : List Piece → List Byte → List (Piece × List Byte)
  | [], _ => []
  | p :: ps, bs => if bs.isEmpty then [] else (p, bs.take p.len) :: chop ps (bs.drop p.len)

/-- Bytes are placed in a command's buffer, one message a piece (R257, R20). [DEDUCED, log 55, unsafe] -/
def putHost (l : Link) (c : HCmd) (ps : List Piece) (bs : List Byte) : Act :=
  seqs [each (chop ps bs) (fun x => linkOut l (.hostData l.id c.sqid c.cid x.1.addr x.1.key x.2)), linkFrames l]

/-- A command's buffer is read, one message a piece (R256, R257). [DEDUCED, log 55, unsafe] -/
def getHost (l : Link) (ps : List Piece) : Act :=
  seqs [each ps (fun p => linkOut l (.hostRead l.id p.addr p.key p.len)), linkFrames l]

/-- Data goes to the host and the command ends (R278, R20). -/
def replyDw (c : HCmd) (list : Option (List Byte)) (bs : List Byte) (dw0 : Nat) : Act := fun s =>
  match s.link? c.link with
  | none => []
  | some l =>
    match dptrWalk l c bs.length list with
    | .inl r => finish c r s
    | .inr ps => seqs [putHost l c ps bs, finish c { dw0 := dw0 }] s

/-- The same with Dword 0 zero. -/
def reply (c : HCmd) (list : Option (List Byte)) (bs : List Byte) : Act := replyDw c list bs 0

/-- Data comes from the host before a command runs; none is a host memory or RDMA error (Table 10.4). -/
def withData (c : HCmd) (list data : Option (List Byte)) (n : Nat) (k : List Byte → Act) : Act := fun s =>
  match s.link? c.link with
  | none => []
  | some l =>
    match dptrWalk l c n list with
    | .inl r => finish c r s
    | .inr ps => seqs [getHost l ps, match data with
        | some d => k (fit n d)
        | none => finish c (status 0 4)] s

/-! Queues (Table 9.1, R240-R245). -/

/-- The first rule of Table 9.1 a Create I/O CQ breaks. -/
def cqCheck (l : Link) (c : HCmd) : Option Cpl :=
  let q := (c.cdw 10).fld 15 0
  let sz := (c.cdw 10).fld 31 16
  if q = 0 || l.ncqa < q || l.cqs.any (fun x => x.qid == q) then some (status 1 1)
  else if sz = 0 || 4095 < sz then some (status 1 2)
  else if !(c.cdw 11).bit 0 then some invField
  else if leAt c.sqe 24 8 % 4096 ≠ 0 then some (status 0 0x13)
  else if (c.cdw 11).bit 1 && (if l.pcie then 1023 else 0) < (c.cdw 11).fld 31 16 then some (status 1 8)
  else none

/-- CREATE_IO_CQ (R242). -/
def execCreateIoCq (cmd : CmdRef) (s : State) : Res :=
  run (withCmd cmd true 0x05 (fun c s =>
    match s.link? c.link with
    | none => []
    | some l =>
      match cqCheck l c with
      | some r => finish c r s
      | none =>
        let q : CplQ := {
          qid := (c.cdw 10).fld 15 0, base := leAt c.sqe 24 8, size := (c.cdw 10).fld 31 16 + 1, ien := (c.cdw 11).bit 1,
          iv := (c.cdw 11).fld 31 16 }
        updLink l.id (fun k => { k with cqs := k.cqs ++ [q] }) :: finish c okCpl s)) s

/-- The first rule of Table 9.1 a Create I/O SQ breaks. -/
def sqCheck (l : Link) (c : HCmd) : Option Cpl :=
  let q := (c.cdw 10).fld 15 0
  let sz := (c.cdw 10).fld 31 16
  let cq := (c.cdw 11).fld 31 16
  if q = 0 || l.nsqa < q || l.sqs.any (fun x => x.qid == q) then some (status 1 1)
  else if sz = 0 || 4095 < sz then some (status 1 2)
  else if !(c.cdw 11).bit 0 then some invField
  else if cq = 0 || !l.cqs.any (fun x => x.qid == cq) then some (status 1 0)
  else if (c.cdw 12).fld 15 0 ≠ 0 then some invField
  else if leAt c.sqe 24 8 % 4096 ≠ 0 then some (status 0 0x13)
  else none

/-- CREATE_IO_SQ (R241). -/
def execCreateIoSq (cmd : CmdRef) (s : State) : Res :=
  run (withCmd cmd true 0x01 (fun c s =>
    match s.link? c.link with
    | none => []
    | some l =>
      match sqCheck l c with
      | some r => finish c r s
      | none =>
        let q : SubQ := {
          qid := (c.cdw 10).fld 15 0, base := leAt c.sqe 24 8, size := (c.cdw 10).fld 31 16 + 1,
          cqid := (c.cdw 11).fld 31 16, prio := (c.cdw 11).fld 2 1 }
        updLink l.id (fun k => { k with
            sqs := k.sqs.filter (fun x => x.qid < q.qid) ++ [q] ++ k.sqs.filter (fun x => q.qid < x.qid) }) ::
          finish c okCpl s)) s

/-- DELETE_IO_CQ (Table 9.1). -/
def execDeleteIoCq (cmd : CmdRef) (s : State) : Res :=
  run (withCmd cmd true 0x04 (fun c s =>
    let q := (c.cdw 10).fld 15 0
    match s.link? c.link with
    | none => []
    | some l =>
      if q = 0 || !l.cqs.any (fun x => x.qid == q) then finish c (status 1 1) s
      else if l.sqs.any (fun x => x.cqid == q && x.qid != 0) then finish c (status 1 0x0C) s
      else updLink l.id (fun k => { k with
          cqs := k.cqs.filter (fun x => x.qid != q),
          coal := if k.pcie then k.coal else k.coal.filter (fun x => x.key != q) }) :: finish c okCpl s)) s

/-- DELETE_IO_SQ (R245): fetching stops, uncommitted commands end with Command Aborted due to SQ Deletion; the queue is freed as
the Delete completes. -/
def execDeleteIoSq (cmd : CmdRef) (s : State) : Res :=
  run (withCmd cmd true 0x00 (fun c s =>
    let q := (c.cdw 10).fld 15 0
    match s.link? c.link with
    | none => []
    | some l =>
      if q = 0 || !l.sqs.any (fun x => x.qid == q && !x.closing) then finish c (status 1 1) s
      else
        let cs := s.dyn.hq.cmds.filter (fun x => x.link == l.id && x.sqid == q && x.done.isNone && !x.orphan)
        seqs [fun _ => [updSq l.id q (fun x => { x with closing := true })],
          each cs (fun x => if x.uncommitted then failWrite x (status 0 8) else finish x (status 0 8)),
          fun _ => [updCmd c.no (fun x => { x with work := .delSq q, done := some okCpl })]] s)) s

/-! Abort (R266-R268). -/

/-- What an aborted command has begun is given up: a namespace is formatted no further, one being deleted stays in service, and a
firmware activation lets fetching go on. -/
def giveUp (c : HCmd) : List Eff :=
  match c.work with
  | .fmt n => [updNsp (fun d => { d with ns := d.ns.filter (fun x => x.nsid != n || x.st != 0) })]
  | .nsdel n => [updNsp (fun d => { d with ns := d.ns.map (fun x =>
      if (n = 0xFFFFFFFF || x.nsid = n) && x.st = 2 then { x with st := 1 } else x) })]
  | .fw _ _ => [updHq (fun h => { h with hold := false })]
  | _ => []

/-- Work an Abort does not take back: what has committed (Table 9.6), and Aborts (R268). -/
def pastAbort (c : HCmd) : Bool :=
  c.done.isSome || (match c.work with
    | .delSq _ => true
    | _ => c.admin && c.op == 0x08)

/-- ABORT (R266). -/
def execAbort (cmd : CmdRef) (s : State) : Res :=
  run (withCmd cmd true 0x08 (fun c s =>
    let miss := finish c { dw0 := 1 } s
    let open_ := s.dyn.hq.cmds.filter (fun x => x.link == c.link && x.admin && x.op == 0x08 && x.no < c.no && !x.orphan)
    if 4 ≤ open_.length then finish c (status 1 3) s
    else
      match s.dyn.hq.cmds.find? (fun x => x.link == c.link && x.sqid == (c.cdw 10).fld 15 0 &&
          x.cid == (c.cdw 10).fld 31 16 && !x.orphan) with
      | none => miss
      | some t =>
        if pastAbort t then miss
        else seqs [fun _ => .cnt Reg.HQE_ABORT_CNT 31 0 1 :: giveUp t,
          if t.uncommitted then failWrite t (status 0 7) else finish t (status 0 7),
          fun _ => [updCmd c.no (fun x => { x with work := .abt t.no, done := some okCpl })]] s)) s

/-! Features (Table 10.11). -/

/-- A Set Features of a feature identifier; SV = 1 is refused (Table 10.2). -/
def setFeature (cmd : CmdRef) (fid : Nat) (k : HCmd → Act) : Act :=
  withCmd cmd true 0x09 (fun c =>
    if (c.cdw 10).fld 7 0 ≠ fid then skip
    else if (c.cdw 10).bit 31 then finish c (status 1 0x0D)
    else k c)

/-- SET_ARBITRATION (R264). -/
def execSetArbitration (cmd : CmdRef) (s : State) : Res :=
  run (setFeature cmd 0x01 (fun c s =>
    .reg Reg.HQE_ARB (w32 ((c.cdw 11).fld 31 8 * 256 + (c.cdw 11).fld 2 0)) :: finish c okCpl s)) s

/-- SET_POWER_MANAGEMENT (R314). -/
def execSetPowerManagement (cmd : CmdRef) (s : State) : Res :=
  run (setFeature cmd 0x02 (fun c =>
    if 5 < (c.cdw 11).fld 4 0 || (c.cdw 11).fld 7 5 ≠ 0 then finish c invField
    else seqs [enterPs ((c.cdw 11).fld 4 0), finish c okCpl])) s

/-- SET_TEMPERATURE_THRESHOLD (R421). -/
def execSetTemperatureThreshold (cmd : CmdRef) (s : State) : Res :=
  run (setFeature cmd 0x04 (fun c =>
    let k := (c.cdw 11).fld 19 16
    let t := (c.cdw 11).fld 15 0
    if 6 < k || 1 < (c.cdw 11).fld 21 20 then finish c invField
    else seqs [fun _ => [updZn (fun d =>
        if (c.cdw 11).fld 21 20 = 0 then { d with tOver := setAt d.tOver k (some t) }
        else { d with tUnder := setAt d.tUnder k (some t) })],
      fun s => if s.up 2 then thmHost s else [], finish c okCpl])) s

/-- SET_VOLATILE_WRITE_CACHE (R288). -/
def execSetVolatileWriteCache (cmd : CmdRef) (s : State) : Res :=
  run (setFeature cmd 0x06 (fun c =>
    let on := (c.cdw 11).bit 0
    seqs [fun _ => [updZn (fun d => { d with wce := on })],
      if on then finish c okCpl
      else seqs [fun _ => [updCmd c.no (fun x => { x with work := .wce })], settle]])) s

/-- SET_NUMBER_OF_QUEUES (R240). [DEDUCED, log 41, unsafe] -/
def execSetNumberOfQueues (cmd : CmdRef) (s : State) : Res :=
  run (setFeature cmd 0x07 (fun c s =>
    match s.link? c.link with
    | none => []
    | some l =>
      if l.numq then finish c (status 0 0x0C) s
      else
        let lim := if l.pcie then 1024 else 64
        let free := 4096 - pairsUsed s
        let nsq := min ((c.cdw 11).fld 15 0 + 1) (min (lim - 1) free)
        let ncq := min ((c.cdw 11).fld 31 16 + 1) (min (lim - 1) free)
        [updLink l.id (fun k => { k with numq := true, nsqa := nsq, ncqa := ncq, grant := max nsq ncq })] ++
        (if free = 0 then .draw :: finish c { dw0 := s.fresh % 2 ^ 32 } s
         else finish c { dw0 := (ncq - 1) * 65536 + (nsq - 1) } s))) s

/-- SET_INTERRUPT_COALESCING (R248). -/
def execSetInterruptCoalescing (cmd : CmdRef) (s : State) : Res :=
  run (setFeature cmd 0x08 (fun c =>
    seqs [fun _ => [updLink c.link (fun k => { k with thr := (c.cdw 11).fld 7 0, time := (c.cdw 11).fld 15 8 })],
      refire c.link, finish c okCpl])) s

/-- SET_INTERRUPT_VECTOR_CONFIG (R248). -/
def execSetInterruptVectorConfig (cmd : CmdRef) (s : State) : Res :=
  run (setFeature cmd 0x09 (fun c s =>
    let iv := (c.cdw 11).fld 15 0
    match s.link? c.link with
    | none => []
    | some l =>
      if (if l.pcie then 1023 else 0) < iv then finish c invField s
      else seqs [fun _ => [updLink l.id (fun k => { k with
            cd := if (c.cdw 11).bit 16 then iv :: k.cd.filter (fun x => x != iv) else k.cd.filter (fun x => x != iv) })],
        refire l.id, finish c okCpl] s)) s

/-- SET_ASYNC_EVENT_CONFIG (R313): reserved bits are not kept (R7). -/
def execSetAsyncEventConfig (cmd : CmdRef) (s : State) : Res :=
  run (setFeature cmd 0x0B (fun c s => updLink c.link (fun k => { k with aec := ((c.cdw 11) &&& 0x33F).toNat }) :: finish c okCpl s)) s

/-- SET_APST (R314): the table's entries give ITPS in bits 7:3 and ITPT in bits 31:8. -/
def execSetApst (cmd : AdminCmd) (data : Option (List Byte)) (s : State) : Res :=
  run (setFeature cmd.cmd 0x0C (fun c => withData c cmd.list data 256 (fun d s =>
    updZn (fun z => { z with
        apste := (c.cdw 11).bit 0,
        apst := (List.range 32).map (fun i => (leAt d (8 * i) 1 / 8, leAt d (8 * i + 1) 3)) }) :: finish c okCpl s))) s

/-- The host timestamp is committed (R459). -/
def timeCommit (ms : Nat) : Eff := .upd (fun d => { d with
    aon := { d.aon with host := ms % 2 ^ 48, base := d.us, set := true, synch := false } })

/-- SET_TIMESTAMP (R460). -/
def execSetTimestamp (cmd : AdminCmd) (data : Option (List Byte)) (s : State) : Res :=
  run (setFeature cmd.cmd 0x0E (fun c => withData c cmd.list data 8 (fun d s => timeCommit (leAt d 0 6) :: finish c okCpl s))) s

/-- The timestamp data structure (Table 15.7). -/
def timestamp (s : State) : List Byte :=
  let a := s.dyn.aon
  if a.set then leBytes 6 (a.host + (s.dyn.us - a.base) / 1000) ++ [b8 (2 + (if a.synch then 1 else 0)), 0]
  else leBytes 6 (s.dyn.us / 1000) ++ [b8 (if a.synch then 1 else 0), 0]

/-- The APST table as the option block gives it (R429, Table 14.9). -/
def optApst (ram : List Byte) : List (Nat × Nat) :=
  (List.range 32).map (fun n => if n < 5 then (leAt ram (3147 + 4 * n) 1, leAt ram (3144 + 4 * n) 3) else (0, 0))

/-- APSTE of the option block. -/
def optApste (ram : List Byte) : Bool := (leAt ram 3140 1).testBit 0

/-- The APST data structure. -/
def apstBytes (t : List (Nat × Nat)) : List Byte := t.flatMap (fun e => b8 (e.1 * 8) :: leBytes 3 e.2 ++ zeros 4)

/-- The value of a feature: Dword 0 and data (R313). `cur` asks for the current value, else the default, which is also the
saved value. -/
def featureValue (s : State) (l : Link) (fid arg : Nat) (cur : Bool) : Option (Nat × List Byte) :=
  let k := arg / 2 ^ 16 % 16
  let z := s.dyn.zn
  match fid with
  | 0x01 => some (if cur then (s.reg Reg.HQE_ARB).toNat else 3, [])
  | 0x02 => some (if cur then s.dyn.pwr.ps else 0, [])
  | 0x04 =>
    if 6 < k || 1 < arg / 2 ^ 20 % 4 then none
    else if arg / 2 ^ 20 % 4 = 0 then some (if cur then tOver s k else (thmThr s 0 0 + 273).toNat, [])
    else some (if cur then tUnder s k else 0, [])
  | 0x06 => some (if !cur || z.wce then 1 else 0, [])
  | 0x07 => some (if cur then (l.ncqa - 1) * 65536 + (l.nsqa - 1) else 0, [])
  | 0x08 => some (if cur then l.time * 256 + l.thr else 0, [])
  | 0x09 =>
    let iv := arg % 65536
    if (if l.pcie then 1023 else 0) < iv then none else some (iv + (if cur && l.cd.contains iv then 65536 else 0), [])
  | 0x0B => some (if cur then l.aec else 0, [])
  | 0x0C =>
    let en := if cur then z.apste else optApste s.dyn.rst.optRam
    some (if en then 1 else 0, apstBytes (if cur then z.apst else optApst s.dyn.rst.optRam))
  | 0x0E => some (0, if cur then timestamp s else zeros 8)
  | _ => none

/-- GET_FEATURES (R313). -/
def execGetFeatures (cmd : AdminCmd) (s : State) : Res :=
  run (withCmd cmd.cmd true 0x0A (fun c s =>
    match s.link? c.link with
    | none => []
    | some l =>
      let sel := (c.cdw 10).fld 10 8
      if 2 < sel then finish c invField s
      else match featureValue s l ((c.cdw 10).fld 7 0) (c.cdw 11).toNat (sel == 0) with
        | none => finish c invField s
        | some (dw, []) => finish c { dw0 := dw } s
        | some (dw, d) => replyDw c cmd.list d dw s)) s

/-- ASYNC_EVENT_REQUEST (Table 10.2, R247, R308). -/
def execAsyncEventRequest (cmd : CmdRef) (s : State) : Res :=
  run (withCmd cmd true 0x0C (fun c s =>
    if 4 ≤ (s.dyn.hq.cmds.filter (fun x => x.link == c.link && x.work == .aer && x.done.isNone && !x.orphan)).length then
      finish c (status 1 5) s
    else seqs [fun _ => [updCmd c.no (fun x => { x with work := .aer })], takeWaiting c.link, raiseLoss] s)) s

/-! Namespace management (R273-R276). -/

/-- The bands of a zone: heads and bands (R61, R62). -/
def zoneBands (s : State) (z : Nat) : List (Nat × Nat) :=
  let ks := if isConvZone s z then [0, 512] else [0]
  (List.range 4).flatMap (fun j => ks.map (fun r =>
    let p := placeOf s (z * zoneBlocks + (4 * r + j) * 64)
    (p.head, p.band)))

/-- What ladders recovered of the sectors of bands is dropped. -/
def dropBands (hb : List (Nat × Nat)) : Eff := updRcv (fun r => { r with
  pend := r.pend.filter (fun e => !hb.contains (e.head, e.band)),
  reloc := r.reloc.filter (fun e => !hb.contains (e.1.head, e.1.band)),
  got := r.got.filter (fun e => !hb.contains (e.head, e.band)) })

/-- The records of R307 of zones go: what they counted is no longer data of the zone. -/
def dropRecords (zs : List Nat) : Eff := updLoss (fun l => { l with
  shingled := l.shingled.filter (fun p => !zs.contains p.1), conv := l.conv.filter (fun p => !zs.contains p.1) })

/-- A shingled zone is emptied: its bands take the next epoch and start again at sector 0, their table entries go (R226, R299). -/
def emptyZone (z : Nat) : Act := fun s =>
  let hb := zoneBands s z
  [nextEpoch z,
   updMedia (fun m => tableDrop (fun e => hb.contains (e.head, e.band)) { m with
      ptr := m.ptr.filter (fun e => !hb.contains (e.1, e.2.1)),
      spares := m.spares.filter (fun e => !hb.contains (e.1, e.2.1)) }),
   dropBands hb, dropRecords [z],
   updZn (fun d => { d with buf := d.buf.filter (fun b => b.zone != z) }),
   putZone { zoneAt s z with st := 1, wp := 0, due := true }]

/-- A conventional zone is filled with zeros with parity (R274): a RELOCATED sector's zeros go to its spare, the other entries go
(R226). -/
def zeroZone (z : Nat) : Act := fun s =>
  let hb := zoneBands s z
  let e := epochOf s z
  [updMedia (fun m => tableDrop (fun x => hb.contains (x.head, x.band) && x.state != 1) { m with
      secs := ((m.table.filter (fun x => hb.contains (x.head, x.band) && x.state == 1)).map (fun x =>
          ⟨x.head, x.band, 67584 + x.spare, spareInfo x.head x.band x.spare e (zeroInfo x.head x.band x.sector e), false⟩)) ++
        m.secs.filter (fun x => !hb.contains (x.head, x.band)),
      zero := hb.map (fun p => (p.1, p.2, e)) ++ m.zero.filter (fun x => !hb.contains (x.1, x.2.1)) }),
   dropBands hb]

/-- The free zones of a kind, in ascending order (R273). -/
def freeZones (s : State) (csi : Nat) : List Nat :=
  ((List.range (zoneCount s)).filter (fun z => if csi = 0 then isConvZone s z else !isConvZone s z)).filter
    (fun z => !s.dyn.nsp.ns.any (fun n => n.zones.contains z))

/-- Every link hears that a namespace has come or gone (R275). -/
def nsChanged (nsid : Nat) : Act :=
  seqs [fun _ => [updHq (fun h => { h with links := h.links.map (fun l => { l with
      changed := if l.changed.contains nsid then l.changed else l.changed ++ [nsid] }) })],
    raiseAll (aecBit 8) (eventDw 2 0 4) true]

/-- NAMESPACE_CREATE (R273, R274). -/
def execNamespaceCreate (cmd : AdminCmd) (data : Option (List Byte)) (s : State) : Res :=
  run (withCmd cmd.cmd true 0x0D (fun c s =>
    if (c.cdw 10).fld 3 0 ≠ 0 || !s.up 63 then []
    else
      let csi := (c.cdw 11).fld 31 24
      if csi ≠ 0 && csi ≠ 2 then finish c invField s
      else withData c cmd.list data 4096 (fun d s =>
      let n := leAt d 0 8
      let free := freeZones s csi
      let id := (List.range 64).find? (fun i => (nsAny s (i + 1)).isNone)
      if n ≠ leAt d 8 8 || n = 0 || n % zoneBlocks ≠ 0 || leAt d 26 1 ≠ 0 then finish c invField s
      else if free.length < n / zoneBlocks then finish c (status 1 0x15) s
      else match id with
        | none => finish c (status 1 0x16) s
        | some i =>
          let zs := free.take (n / zoneBlocks)
          let ns : Ns := ⟨i + 1, csi, (c.cdw 11).bit 0, zs, if csi = 0 then 0 else 1⟩
          let add : Act := fun _ => [updNsp (fun x => { x with ns := x.ns ++ [ns] })]
          if csi = 0 then seqs [add, fun _ => [updCmd c.no (fun x => { x with work := .fmt (i + 1) })]] s
          else seqs [add, each zs (fun z => seqs [emptyZone z, saveZone z]), nsChanged (i + 1),
            finish c { dw0 := i + 1 }] s) s)) s

/-- NAMESPACE_FORMAT_DONE (R274): zeros with band parity are written, and the creation completes. -/
def execNamespaceFormatDone (nsid : Nat) (s : State) : Res :=
  run (fun s =>
    match s.dyn.hq.cmds.find? (fun c => c.work == .fmt nsid && c.done.isNone), nsAny s nsid with
    | some c, some n =>
      if n.st ≠ 0 || !mediaReady s then []
      else seqs [each n.zones zeroZone,
        fun _ => [updNsp (fun x => { x with ns := x.ns.map (fun m => if m.nsid = nsid then { m with st := 1 } else m) })],
        nsChanged nsid, finish c { dw0 := nsid }] s
    | _, _ => []) s

/-- A command works on a namespace and has started (R276). -/
def inFlightOn (nsid : Nat) (c : HCmd) : Bool :=
  c.done.isNone && (match c.work with
    | .wr n _ _ _ _ (some _) => n == nsid
    | .rd n _ _ _ => n == nsid
    | .drd n _ _ _ _ => n == nsid
    | .fl n _ => n == nsid
    | _ => false)

/-- A command to a namespace that has been fetched and has not started (R276). -/
def notStartedOn (s : State) (n : Ns) (c : HCmd) : Bool :=
  c.done.isNone && !c.admin && (match c.work with
    | .idle => c.nsid == n.nsid
    | .wr m _ _ _ _ none => m == n.nsid
    | .zact _ zs => zs.any (fun z => (zoneNs s z).any (fun p => p.1.nsid == n.nsid))
    | _ => false)

/-- A namespace goes: buffered data, key, binding, zones (R276, steps 3 to 5), and derive sources held of it (R350). -/
def nsRemove (n : Ns) : Act := fun s =>
  let slots := (s.dyn.shl.bound.filter (fun b => b.2 == n.nsid)).map (fun b => b.1)
  seqs [fun _ => [
      updZn (fun d => { d with
        buf := d.buf.filter (fun b => !n.zones.contains b.zone), zones := d.zones.filter (fun z => !n.zones.contains z.zone),
        scan := d.scan.filter (fun z => !n.zones.contains z), track := d.track.filter (fun z => !n.zones.contains z.1) }),
      dropRecords n.zones,
      updMedia (fun m => { m with saved := m.saved.filter (fun z => !n.zones.contains z.zone) }),
      updShl (fun x => { x with
        keys := x.keys.filter (fun k => !slots.contains k.1), bound := x.bound.filter (fun b => b.2 != n.nsid),
        holds := x.holds.filter (fun h => h.nsid != n.nsid) }),
      updNsp (fun d => { d with ns := d.ns.filter (fun m => m.nsid != n.nsid) })],
    nsChanged n.nsid] s

/-- Namespaces a deletion names. -/
def delTargets (s : State) (nsid : Nat) : List Ns :=
  s.dyn.nsp.ns.filter (fun n => (nsid == 0xFFFFFFFF || n.nsid == nsid) && n.st != 0)

/-- The deletion goes on once nothing is in flight to the namespaces. -/
def nsDelete (c : HCmd) (nsid : Nat) : Act := fun s =>
  let ts := delTargets s nsid
  if ts.any (fun n => s.dyn.hq.cmds.any (inFlightOn n.nsid)) then []
  else seqs [each ts nsRemove, finish c okCpl] s

/-- NAMESPACE_DELETE (R276): a deletion that found commands in flight goes on with a later event of the same row. -/
def execNamespaceDelete (cmd : CmdRef) (s : State) : Res :=
  run (fun s =>
    match s.cmdBy cmd (fun c => c.done.isNone && c.work.isNsdel) with
    | some c => if s.up 63 then nsDelete c c.nsid s else []
    | none => withCmd cmd true 0x0D (fun c s =>
        if (c.cdw 10).fld 3 0 ≠ 1 || !s.up 63 then []
        else if c.nsid ≠ 0xFFFFFFFF && (nsOf s c.nsid).isNone then finish c (status 0 0x0B) s
        else
          let ts := (delTargets s c.nsid).filter (fun n => n.st == 1)
          seqs [fun _ => [updNsp (fun d => { d with ns := d.ns.map (fun n =>
              if ts.any (fun t => t.nsid == n.nsid) then { n with st := 2 } else n) }),
              updCmd c.no (fun x => { x with work := .nsdel c.nsid })],
            fun s => each (s.dyn.hq.cmds.filter (fun x => ts.any (fun n => notStartedOn s n x))) (fun x =>
              if x.uncommitted then failWrite x (status 0 0x0B) else finish x (status 0 0x0B)) s,
            nsDelete c c.nsid] s) s) s

/-! Keys (R318). -/

/-- KEY_LOAD (R318): LEN is not 0. -/
def execKeyLoad (cmd : AdminCmd) (data : Option (List Byte)) (s : State) : Res :=
  run (withCmd cmd.cmd true 0xC5 (fun c s =>
    let slot := (c.cdw 10).fld 9 0
    let len := (c.cdw 11).fld 7 0
    let media := (c.cdw 11).bit 8
    if len = 0 || !s.up 100 then []
    else if media && (nsOf s c.nsid).isNone then finish c (status 0 0x0B) s
    else if len ≠ 16 && len ≠ 32 && len ≠ 64 then finish c invField s
    else if !media && s.dyn.shl.bound.any (fun b => b.1 == slot) then finish c invField s
    else if media && (len = 16 || !(nsOf s c.nsid).any (fun n => n.enc)) then finish c invField s
    else withData c cmd.list data 64 (fun d => seqs [fun _ => [keyPut slot (d.take len)] ++
        (if media then [updShl (fun x => { x with
            bound := (slot, c.nsid) :: x.bound.filter (fun b => b.1 != slot && b.2 != c.nsid) })] else []),
      finish c okCpl]) s)) s

/-- KEY_CLEAR (R318): LEN is 0. -/
def execKeyClear (cmd : CmdRef) (s : State) : Res :=
  run (withCmd cmd true 0xC5 (fun c s =>
    let slot := (c.cdw 10).fld 9 0
    if (c.cdw 11).fld 7 0 ≠ 0 || !s.up 100 then []
    else updShl (fun x => { x with
        keys := x.keys.filter (fun k => k.1 != slot), bound := x.bound.filter (fun b => b.1 != slot) }) ::
      finish c okCpl s)) s

end Sys2Proof.Machine
end

