-- ==== Sys2Proof/Machine/Logs.lean ====
section
/-! DEFINITION. Log pages and Identify structures (R219, R237, R271-R275, R280, R308-R314; NVM Express Base 2.0 and Zoned Namespace
layouts by R4 and R5). -/

namespace Sys2Proof.Machine

/-- A page built from fields: (offset, bytes) over a background, cut to a length. -/
def fields (n : Nat) (bg : Nat → Byte) (fs : List (Nat × List Byte)) : List Byte :=
  (List.range n).map (fun i => match fs.find? (fun f => f.1 ≤ i && i < f.1 + f.2.length) with
    | some f => f.2.getD (i - f.1) 0
    | none => bg i)

/-- Entries of a ring of `n`, newest first in `l` with `total` ever written, at their places (Tables 8.6 and 10.10). -/
def ringPage (n total size : Nat) (l : List (List Byte)) : List Byte :=
  (List.range n).flatMap (fun i =>
    match (List.range l.length).find? (fun j => (total - 1 - j) % n == i) with
    | some j => fit size (l.getD j [])
    | none => zeros size)

/-! Pages. -/

/-- The Error Information page. -/
def errPage (s : State) : List Byte :=
  fit 4096 (s.dyn.log.errs.flatMap (fun e =>
    leBytes 8 e.count ++ leBytes 2 e.sqid ++ leBytes 2 e.cid ++ leBytes 2 e.status ++ [0xFF, 0xFF] ++ leBytes 8 e.lba ++
      leBytes 4 e.nsid ++ zeros 36))

/-- Power-on hours: the highest valid record of the NOR plus the time since firmware started (R457, Table 15.6). [PRESUMED, log 71, unsafe] -/
def powerOnHours (s : State) : Nat :=
  let best := (List.range 4096).foldl (fun (m : Nat × Nat) i =>
    let b := s.norBytes (0x40000 + 16 * i) 16
    if leAt b 12 4 = (crc32c (b.take 12)).toNat && m.1 ≤ leAt b 8 4 then (leAt b 8 4, leAt b 0 8) else m) (0, 0)
  (best.2 + (s.dyn.us - s.dyn.rst.bootUs) / 1000000) / 3600

/-- The SMART / Health page (R5): the composite temperature, the warning of R421 and R422, the counts, Media and Data Integrity Errors,
the number of errors logged and the temperature sensors; available spare, its threshold, percentage used and the other warnings
are not stated. [PRESUMED, log 71, unsafe] -/
def smartPage (s : State) : List Byte :=
  let k (i : Nat) : Nat := if sensCounted s (tmpSens s i) then kelvin (sensTemp s (tmpSens s i)) else 0
  let warn : Byte := (Config.ident 3 0 0 &&& 0x0D) ||| (if heatWarn s then 2 else 0)
  let g := s.dyn.log.smart
  let n16 (v : Nat) : List Byte := leBytes 16 v
  fields 512 (fun i => if 3 ≤ i && i < 6 then Config.ident 3 0 i else 0)
    [(0, [warn]), (1, leBytes 2 (k 0)),
     (32, n16 ((g.rdUnits + 999) / 1000) ++ n16 ((g.wrUnits + 999) / 1000) ++ n16 g.rdCmds ++ n16 g.wrCmds ++ n16 (g.busy / 60000000) ++
       n16 g.cycles ++ n16 (powerOnHours s) ++ n16 g.unclean ++ n16 s.dyn.log.media ++ n16 s.dyn.log.nErr),
     (192, leBytes 4 (g.warm / 60000000) ++ leBytes 4 (g.crit / 60000000)),
     (200, leBytes 2 (k 1) ++ leBytes 2 (k 2) ++ leBytes 2 (k 3) ++ leBytes 2 (k 4) ++ leBytes 2 (k 5) ++ leBytes 2 (k 6))]

/-- The offset of a firmware slot's image (Table 15.3). -/
def slotOffset (slot : Nat) : Nat := if slot = 2 then 0x900000 else 0x100000

/-- A slot record of the NOR, if its magic and CRC are right (Table 15.5): SEQ and FIRST. -/
def slotRecord (s : State) (k : Nat) : Option (Nat × Nat) :=
  let b := s.norBytes (0x20000 + 4096 * k) 16
  if leAt b 0 4 = 0x5A3E5107 && leAt b 12 4 = (crc32c (b.take 12)).toNat then some (leAt b 4 4, leAt b 8 1) else none

/-- The sector whose record the boot ROM takes, with it (R455). -/
def slotBest (s : State) : Option (Nat × Nat × Nat) :=
  match slotRecord s 0, slotRecord s 1 with
  | some a, some b => if a.1 < b.1 then some (1, b) else some (0, a)
  | some a, none => some (0, a)
  | none, some b => some (1, b)
  | none, none => none

/-- The slot the boot ROM starts with (R455). -/
def slotFirst (s : State) : Nat :=
  match slotBest s with
  | some (_, _, f) => if f = 2 then 2 else 1
  | none => 1

/-- The Firmware Slot page: active slot, the slot for the next reset, VERSION of each image (Table 13.9). -/
def fwPage (s : State) : List Byte :=
  let ver (k : Nat) : List Byte :=
    let h := s.norBytes (slotOffset k) 8
    if leAt h 0 4 = 0x5A3EF1A6 then h.drop 4 ++ zeros 4 else zeros 8
  fields 512 (fun _ => 0) [(0, [b8 (s.dyn.log.slot + 16 * slotFirst s)]), (8, ver 1 ++ ver 2)]

/-- The Changed Namespace List. -/
def changedPage (l : Link) : List Byte :=
  fit 4096 (((List.range 65).filter (fun i => l.changed.contains i)).flatMap (fun i => leBytes 4 i))

/-- The Unflushed Loss page (Table 10.5). -/
def lossPage (s : State) : List Byte :=
  let p := s.dyn.loss
  fit 131072 (leBytes 4 1 ++ leBytes 4 p.page.length ++ [b8 p.cause, if p.wait.isEmpty then 0 else 1] ++ zeros 6 ++
    leBytes 8 p.time ++ zeros 40 ++ p.page.flatMap (fun e =>
      leBytes 4 e.nsid ++ [b8 e.kind, b8 e.cause, 0, 0] ++ leBytes 8 e.zslba ++ leBytes 8 e.first ++ leBytes 4 e.lost ++
        leBytes 4 e.span))

/-- The Alignment page (Table 10.10). -/
def alignPage (s : State) : List Byte :=
  fit 4096 (leBytes 4 1 ++ zeros 4 ++ leBytes 8 s.dyn.alignTotal ++
    ringPage 127 s.dyn.alignTotal 32 (s.dyn.align.map (fun e =>
      leBytes 8 e.time ++ leBytes 4 e.nsid ++ [b8 e.event, b8 e.depth, b8 e.reason, b8 e.group] ++ leBytes 8 e.zslba ++
        leBytes 8 e.revs)))

/-- A sector in band that a patrol pass reads once written: data or parity, before the pointer of a shingled band (R229, R230). -/
def patrolled (s : State) (head band sector : Nat) : Bool :=
  sector < 67584 && (isConvBand s band || sector < bandPtr s head band)

/-- A sector's place in the order in which a pass of its actuator reads: band, then sector, the four heads of a group together (R229). [DESIGN CHOICE, log 124, unsafe] -/
def patrolKey (head band sector : Nat) : Nat := ((band * 4 + head % 16 / 4) * 67584 + sector) * 4 + head % 4

/-- Sectors written on the media that a pass reads and whose place comes before `upTo` of their actuator. -/
def patrolCount (s : State) (upTo : Nat → Nat) : Nat :=
  (s.dyn.media.secs.filter (fun m => patrolled s m.head m.band m.sector && (hbGet s.dyn.media.zero m.head m.band).isNone &&
    patrolKey m.head m.band m.sector < upTo (m.head / 16))).length +
  s.dyn.media.zero.foldl (fun n z => n + min 67584 ((upTo (z.1 / 16) - patrolKey z.1 z.2.1 0 + 3) / 4)) 0

/-- Sectors written on the media, as a patrol pass reads them (R229). -/
def writtenSectors (s : State) : Nat := patrolCount s (fun _ => 2 ^ 64)

/-- Sectors the current pass has read. -/
def patrolDone (s : State) : Nat := patrolCount s (fun a => s.dyn.media.patrol.getD a 0)

/-- The Recovery page (Tables 8.5 and 8.6). -/
def recPage (s : State) : List Byte :=
  let r := s.dyn.rcv
  let t := s.dyn.media.table
  let c (i : Nat) : List Byte := leBytes 8 (r.counts.getD i 0)
  fit 4096 (leBytes 4 1 ++ zeros 4 ++ c 0 ++ c 1 ++ c 2 ++ c 3 ++ c 4 ++ c 5 ++ c 6 ++ c 7 ++
    leBytes 8 (t.filter (fun e => e.state == 2)).length ++ leBytes 8 t.length ++ c 8 ++
    leBytes 8 (t.filter (fun e => e.state == 3)).length ++ c 9 ++
    leBytes 8 (patrolDone s * 1000000 / max 1 (writtenSectors s)) ++ c 10 ++ c 11 ++ zeros 888 ++
    ringPage 96 r.nEvents 32 (r.events.map (fun e =>
      leBytes 8 e.time ++ leBytes 8 e.lba ++ leBytes 4 e.nsid ++ [b8 e.head, b8 e.step, b8 e.outcome, b8 e.origin] ++
        leBytes 2 e.band ++ leBytes 4 e.sector ++ [b8 e.reason, b8 e.cas])))

/-- A log page by its identifier (Table 10.9). -/
def logPage (s : State) (l : Link) (lid : Nat) : Option (List Byte) :=
  if lid = 0x01 then some (errPage s)
  else if lid = 0x02 then some (smartPage s)
  else if lid = 0x03 then some (fwPage s)
  else if lid = 0x04 then some (changedPage l)
  else if lid = 0xC2 then some (lossPage s)
  else if lid = 0xC3 then some (alignPage s)
  else if lid = 0xC4 then some (recPage s)
  else none

/-- Entries of the Unflushed Loss page go, and waiting ones move in, in their order (R309, R310). -/
def lossRead : Act :=
  seqs [fun s => [updLoss (fun p => { p with
      page := p.wait.take 4094, wait := p.wait.drop 4094,
      time := if p.wait.isEmpty then p.time else s.dyn.us })], raiseLoss]

/-- The event type a page belongs to, whose events may come again once it is read (R5). -/
def pageType (lid : Nat) : Nat := if lid = 1 then 0 else if lid = 2 then 1 else if lid = 3 || lid = 4 then 2 else 7

/-- A read with RAE 0: pending events and entries of the page go (R309-R311). -/
def pageCleared (l : Link) (lid : Nat) : Act :=
  seqs [fun _ => [updLink l.id (fun k => { k with
      mask := k.mask.filter (fun t => t != pageType lid), evts := k.evts.filter (fun d => d / 65536 != lid),
      changed := if lid = 4 then [] else k.changed })],
    takeWaiting l.id, if lid = 0xC2 then lossRead else skip]

/-- GET_LOG_PAGE (R311). The offset is the standard's byte offset, which names a dword. [DEDUCED, log 41, unsafe] -/
def execGetLogPage (cmd : AdminCmd) (s : State) : Res :=
  run (withCmd cmd.cmd true 0x02 (fun c s =>
    let lid := (c.cdw 10).fld 7 0
    let n := 4 * ((c.cdw 10).fld 31 16 + 65536 * (c.cdw 11).fld 15 0 + 1)
    let off := leAt c.sqe 48 8
    match s.link? c.link with
    | none => []
    | some l =>
      match logPage s l lid with
      | none => finish c invField s
      | some p =>
        if p.length ≤ off || off % 4 ≠ 0 then finish c invField s
        else match dptrCheck l c n cmd.list with
          | some r => finish c r s
          | none => seqs [reply c cmd.list (slice p off n), if (c.cdw 10).bit 15 then skip else pageCleared l lid] s)) s

/-! Identify (Table 10.2). -/

/-- The controller structure: MDTS 11, version 2.0, ACL 3, AERL 3, two firmware slots, ELPE 63, NPSS 5, APST, the temperatures of
Table 14.2, MTFA 100, capacities, SQES 6, CQES 4, NN 64, Select and Timestamp, a volatile write cache, SGLs as R282, the power state
descriptors of Table 10.12. An optional feature the manual does not list is not claimed (R4), and reserved bytes are zero (R7); the
identity of the part, its times and its write atomicity are not stated. [PRESUMED, log 71, unsafe] -/
def idCtrl (s : State) (pcie : Bool) : List Byte :=
  let given (i : Nat) : Bool := i < 76 || i = 78 || i = 79 || (84 ≤ i && i < 92) || (112 ≤ i && i < 128) || i = 514 || i = 515 ||
    (526 ≤ i && i < 530) || (768 ≤ i && i < 1024) || 3072 ≤ i
  let psd (mp : Nat) (nops : Byte) (en ex : Nat) : List Byte := leBytes 2 mp ++ [0, nops] ++ leBytes 4 en ++ leBytes 4 ex ++ zeros 20
  let free := ((List.range (zoneCount s)).filter (fun z => !s.dyn.nsp.ns.any (fun n => n.zones.contains z))).length
  fields 4096 (fun i => if given i then Config.ident 0 0 i else 0)
    [(76, [Config.ident 0 0 76 &&& 3, 11]), (80, leBytes 4 0x20000), (92, leBytes 4 0x300), (111, [1]),
     (256, [0x0C, 0, 3, 3, 0x14, 4, 63, 5, Config.ident 0 0 264 &&& 1, 1]),
     (266, leBytes 2 (thmThr s 0 0 + 273).toNat ++ leBytes 2 (thmThr s 0 2 + 273).toNat ++ leBytes 2 100),
     (280, leBytes 16 (zoneCount s * 2 ^ 30) ++ leBytes 16 (free * 2 ^ 30)), (319, [0xFF]), (512, [0x66, 0x44]),
     (516, leBytes 4 64 ++ leBytes 2 0x50), (525, [7]), (530, [Config.ident 0 0 530 &&& 1]), (536, [if pcie then 1 else 5]),
     (2048, psd 2600 0 0 0 ++ psd 1900 0 10 100 ++ psd 1100 2 100 2000 ++ psd 650 2 300000 500000 ++
       psd 420 2 5000000 3000000 ++ psd 300 2 20000000 25000000)]

/-- The namespace structure (R272, R275); its identifiers are not stated, nor what a read of a deallocated block gives. [PRESUMED, log 71, unsafe] -/
def idNs (n : Ns) : List Byte :=
  fields 4096 (fun i => if 104 ≤ i && i < 128 then Config.ident 1 n.nsid i else 0)
    [(0, leBytes 8 (nsSize n) ++ leBytes 8 (nsSize n) ++ leBytes 8 (nsSize n)), (30, [1]), (33, [Config.ident 1 n.nsid 33 &&& 7]),
     (48, leBytes 16 (nsSize n * 4096)), (128, [0, 0, 12, 0])]

/-- The zoned namespace structure (R291, R292, R301): OZCS bit 0, MAR 1,023, MOR 255, ZSZE 262,144, ZDES 0. [PRESUMED, log 71, unsafe] -/
def idZns : List Byte :=
  fields 4096 (fun _ => 0) [(2, [1]), (4, leBytes 4 1023 ++ leBytes 4 255), (2816, leBytes 8 zoneBlocks)]

/-- The identifiers above a given one, of namespaces in service. -/
def idList (s : State) (after : Nat) : List Byte :=
  fit 4096 (((List.range 65).filter (fun i => after < i && (nsOf s i).isSome)).flatMap (fun i => leBytes 4 i))

/-- Identification descriptors of a namespace: NGUID and CSI. -/
def idDesc (n : Ns) : List Byte :=
  fit 4096 ([2, 16, 0, 0] ++ (List.range 16).map (fun i => Config.ident 1 n.nsid (104 + i)) ++ [4, 1, 0, 0, b8 n.csi])

/-- What Identify answers. -/
def idAnswer (s : State) (c : HCmd) : Sum Cpl (List Byte) :=
  let cns := (c.cdw 10).fld 7 0
  let csi := (c.cdw 11).fld 31 24
  let ns (k : Ns → List Byte) : Sum Cpl (List Byte) := match nsOf s c.nsid with
    | some n => .inr (k n)
    | none => .inl (status 0 0x0B)
  if cns = 0x00 || cns = 0x11 then ns idNs
  else if cns = 0x01 then .inr (idCtrl s ((s.link? c.link).any (fun l => l.pcie)))
  else if cns = 0x02 || cns = 0x10 then .inr (idList s c.nsid)
  else if cns = 0x03 then ns idDesc
  else if cns = 0x05 then
    if csi ≠ 2 then .inl invField
    else (match nsOf s c.nsid with
      | some n => if n.zoned then .inr idZns else .inl invField
      | none => .inl (status 0 0x0B))
  else if cns = 0x06 then (if csi ≠ 2 then .inl invField else .inr (zeros 4096))
  else if cns = 0x1C then .inr (fit 4096 [5])
  else .inl invField

/-- IDENTIFY (R278). -/
def execIdentify (cmd : AdminCmd) (s : State) : Res :=
  run (withCmd cmd.cmd true 0x06 (fun c s =>
    match idAnswer s c with
    | .inl r => finish c r s
    | .inr d => reply c cmd.list d s)) s

end Sys2Proof.Machine
end

