-- ==== Sys2Proof/Machine/P384.lean ====
section
/-! DEFINITION. ECDSA P-384 verification (R407; FIPS 186). -/

namespace Sys2Proof.Machine

/-- The field prime of P-384. -/
def p384P : Nat := 2 ^ 384 - 2 ^ 128 - 2 ^ 96 + 2 ^ 32 - 1

/-- The order of the base point. -/
def p384N : Nat :=
  0xFFFFFFFFFFFFFFFFFFFFFFFFFFFFFFFFFFFFFFFFFFFFFFFFC7634D81F4372DDF581A0DB248B0A77AECEC196ACCC52973

/-- The curve coefficient b; a is -3. -/
def p384B : Nat :=
  0xB3312FA7E23EE7E4988E056BE3F82D19181D9C6EFE8141120314088F5013875AC656398D8A2ED19D2A85C8EDD3EC2AEF

/-- The base point. -/
def p384G : Nat × Nat :=
  (0xAA87CA22BE8B05378EB1C71EF320AD746E1D3B628BA79B9859F741E082542A385502F25DBF55296C3A545E3872760AB7,
   0x3617DE4A96262C6F5D9E98BF9292DC29F8F41DBD289A147CE9DA3113B5F0B8C00A60B1CE1D7E819D7A431D7C90EA0E5F)

/-- b to the e modulo m, over the low n bits of e, highest first. -/
def powMod (m b e : Nat) : Nat → Nat → Nat
  | 0, acc => acc
  | n + 1, acc => powMod m b e n (if e.testBit n then acc * acc % m * b % m else acc * acc % m)

/-- The inverse modulo a prime below 2^384. -/
def invMod (m a : Nat) : Nat := powMod m (a % m) (m - 2) 384 1

/-- The third point of a line of a slope, reflected. -/
def ecThird (l : Nat) (a b : Nat × Nat) : Nat × Nat :=
  let x := (l * l + 2 * p384P - a.1 - b.1) % p384P
  (x, (l * ((a.1 + p384P - x) % p384P) + p384P - a.2) % p384P)

/-- The sum of two points; none is the point at infinity. -/
def ecAdd : Option (Nat × Nat) → Option (Nat × Nat) → Option (Nat × Nat)
  | none, b => b
  | a, none => a
  | some a, some b =>
    if a.1 = b.1 then
      if (a.2 + b.2) % p384P = 0 then none
      else some (ecThird ((3 * a.1 * a.1 + p384P - 3) % p384P * invMod p384P (2 * a.2) % p384P) a b)
    else some (ecThird ((b.2 + p384P - a.2) % p384P * invMod p384P (b.1 + p384P - a.1) % p384P) a b)

/-- The multiple of a point by the low n bits of k, highest first. -/
def ecMul (k : Nat) (q : Option (Nat × Nat)) : Nat → Option (Nat × Nat) → Option (Nat × Nat)
  | 0, acc => acc
  | n + 1, acc => ecMul k q n (if k.testBit n then ecAdd (ecAdd acc acc) q else ecAdd acc acc)

/-- A point of the curve. -/
def onCurve (q : Nat × Nat) : Bool :=
  q.1 < p384P && q.2 < p384P && (q.2 * q.2) % p384P == (q.1 * q.1 % p384P * q.1 + (p384P - 3) * q.1 + p384B) % p384P

/-- A signature verifies over a digest. [DEDUCED, log 63, unsafe] -/
def ecdsaVerify (q : Nat × Nat) (r s e : Nat) : Bool :=
  if !onCurve q || r = 0 || p384N ≤ r || s = 0 || p384N ≤ s then false
  else
    let w := invMod p384N s
    match ecAdd (ecMul (e * w % p384N) (some p384G) 384 none) (ecMul (r * w % p384N) (some q) 384 none) with
    | some x => x.1 % p384N == r
    | none => false

end Sys2Proof.Machine
end

