-- ==== Sys2Proof/Machine/CalSet.lean ====
section
/-! DEFINITION. The calibration set in NOR (R189-R194): its layout, its validity, and what bring-up does with it. -/

namespace Sys2Proof.Machine

/-- The NOR offset of a half (Table 15.3). -/
def calHalf (k : Nat) : Nat := 0x1100000 + 0x40000 * k

/-- The regions from HEAD_FLAGS to RRO: offset and length (Table 7.2). -/
def calRegions : List (Nat × Nat) :=
  [(0x40, 256), (0x140, 256), (0x240, 16), (0x250, 4096), (0x1250, 4096), (0x2250, 32768), (0xA250, 98304)]

/-- Bytes of a set from its header to the end of RRO. -/
def calLen : Nat := 0x22250

/-- The CRCs of a set's regions, in table order. -/
def calCrcs (b : List Byte) : List Byte := calRegions.flatMap (fun r => leBytes 4 (crc32c (slice b r.1 r.2)).toNat)

/-- A set passes R192 in every respect except COMMIT. -/
def calGood (b : List Byte) : Bool :=
  leAt b 0 4 == 0x5A3ECA17 && leAt b 4 2 == 1 && leAt b 52 4 == (crc32c (b.take 52)).toNat && slice b 24 28 == calCrcs b

/-- The set in a half, where it is valid (R192). -/
def calSet (s : State) (k : Nat) : Option (List Byte) :=
  let b := s.norBytes (calHalf k) calLen
  if calGood b && leAt b 60 4 = 0 then some b else none

/-- The half of the valid set with the highest GEN, and the set (R194). -/
def calCurrent (s : State) : Option (Nat × List Byte) :=
  match calSet s 0, calSet s 1 with
  | some a, some b => if leAt a 8 4 < leAt b 8 4 then some (1, b) else some (0, a)
  | some a, none => some (0, a)
  | none, some b => some (1, b)
  | none, none => none

/-- HEAD_FLAGS of a head. -/
def calFlags (b : List Byte) (head : Nat) : Nat := leAt b (0x40 + 4 * head) 4

/-- The heads a set takes out of use (R196). -/
def calOut (b : List Byte) : List Nat := (List.range 64).filter (fun h => calFlags b h != 0)

/-- A half is erased unless it is already. -/
def calErase (k : Nat) : Act := fun s =>
  if (s.norBytes (calHalf k) 0x40000).all (fun b => b == 0xFF) then [] else [.nor (calHalf k) (List.replicate 0x40000 0xFF)]

/-- The zones of a head's stripe group become Read Only (R300). -/
def headOut (head : Nat) : Act := fun s =>
  each ((List.range (zoneCount s)).filter (fun z => z % 4 == head / 16 && z / 4 % 4 == head % 16 / 4 &&
    (zoneAt s z).st != 15 && (zoneAt s z).st != 13)) (fun z => zoneTo z 13) s

/-- The actuators a set keeps parked: those whose KT failed (R196). -/
def calParked (b : List Byte) : List Nat := (List.range 4).filter (fun a => (w32 (calFlags b (16 * a))).bit 1)

/-- The exclusions of a set: the heads it flags, whose zones become Read Only, and the actuators it keeps parked, which are
unloaded (R196, R300). -/
def calExclude (b : List Byte) : Act := seqs [
  fun _ => [.upd (fun d => { d with excluded := calOut b, keepParked := calParked b })],
  each (calOut b) headOut, each (calParked b) startUnload]

/-- The 32-bit words of a region of a set, at the offsets of an actuator's range they are held at. -/
def calWords (b : List Byte) (act from_ off n : Nat) : List Eff :=
  (List.range n).map (fun i => .reg (actAddr act (off + 4 * i)) (w32 (leAt b (from_ + 4 * i) 4)))

/-- ASSIST of the set into AS_PWR; a changed power code is sent (R132, R194). -/
def calAssist (b : List Byte) : Act := seqs [
  fun _ => (List.range 64).flatMap (fun h => (List.range 32).map (fun z =>
    .fld (Reg.AS_PWR (h / 16) (h % 16) z) 11 0 (leAt b (0x250 + 64 * h + 2 * z) 2))),
  each (List.range 64) (fun h => sendCode (h / 16) (h % 16))]

/-- The set goes into the memories of Table 7.1 (R194): GMA, KFF and KOA derived from KT, RRO, tide offsets, write power. The
heater values go to the front end before each transfer (R189). [DESIGN CHOICE, log 118, safe] -/
def calLoad (b : List Byte) : Act := seqs [
  fun _ => (List.range 4).flatMap (fun a =>
    (List.range 16).map (fun i => Eff.reg (actAddr a (0x4200 + 0x40 * i)) (w32 (leAt b (0x140 + 4 * (16 * a + i)) 4))) ++
    [.reg (actAddr a 0x400C) (Config.ktKff (w32 (leAt b (0x240 + 4 * a) 4))),
     .reg (actAddr a 0x4100) (Config.ktKoa (w32 (leAt b (0x240 + 4 * a) 4)))] ++
    calWords b a (0x2250 + 8192 * a) 0xD000 2048 ++ calWords b a (0xA250 + 24576 * a) 0x6000 6144),
  calAssist b]

/-- Bring-up (R194, R196): the set in force is loaded, and any other half erased; without one every actuator stays parked. [DEDUCED, log 122, unsafe] -/
def calBringUp : Act := fun s =>
  match calCurrent s with
  | some (k, b) => seqs [calLoad b, calExclude b, calErase (1 - k)] s
  | none => [.upd (fun d => { d with keepParked := [0, 1, 2, 3] })]

end Sys2Proof.Machine
end

