-- ==== Sys2Proof/Machine/Enclosure.lean ====
section
/-! DEFINITION. The I3C target, the NVS command engine and the host timestamp (15). -/

namespace Sys2Proof.Machine

/-- Change the I3C target's state. -/
def updMgt (g : MgtD → MgtD) : Eff := .upd (fun d => { d with mgt := g d.mgt })

/-! The I3C target (R440-R448). -/

/-- UID of the die (Table 2.18). -/
def dieUid : Nat := ofLE ((List.range 8).map (fun i => Config.fuse (0x30 + i)))

/-- The provisioned ID (Table 15.1). -/
def provId (s : State) : Nat := 0x0B5A * 2 ^ 33 + 0x6440 * 2 ^ 16 + dieUid % 1024 * 64 + s.dyn.rst.slotId.toNat

/-- The target is on the bus: its domain and MGT run, and firmware has enabled it. -/
def i3cUp (s : State) : Bool := s.up 5 && s.up 19 && s.bit Reg.MGT_EN 0

/-- A dynamic address is held. -/
def hasDa (s : State) : Bool := s.bit Reg.MGT_STAT 15

/-- The dynamic address. -/
def daOf (s : State) : Nat := s.fld Reg.MGT_STAT 14 8

/-- LEASE_S; above 10 it acts as 10. -/
def leaseS (s : State) : Nat := min 10 (s.fld Reg.MGT_CTL 15 8)

/-- The address is dropped, with an event of MGT_STAT (R442). -/
def dropDa (bits : Word) : Act := fun _ => [.fld Reg.MGT_STAT 15 8 0, .sq Reg.MGT_STAT bits]

/-- What the target answers on the bus; nothing while it is off it (R447). -/
def i3cAnswer (ack : State → Bool) (bs : State → List Byte) (act : Act) : Act := fun s =>
  if !i3cUp s then []
  else if ack s then .emit (.i3c true (bs s)) :: act s
  else [.emit (.i3c false [])]

/-- ENTDAA (R442): a target with no address takes the one assigned. [PRESUMED, log 58, unsafe] -/
def execEntdaa (addr : BitVec 7) (s : State) : Res :=
  run (i3cAnswer (fun s => !hasDa s) (fun s => beBytes 6 (provId s) ++ [0x08, 0x00]) (fun s =>
    [.fld Reg.MGT_STAT 15 8 (128 + addr.toNat), .sq Reg.MGT_STAT 1,
     updMgt (fun m => { m with renew := s.dyn.us, hjDue := false })])) s

/-- RSTDAA (R442): the address goes, and no Hot-Join follows. -/
def execRstdaa (s : State) : Res :=
  run (i3cAnswer (fun _ => true) (fun _ => []) (fun s => if hasDa s then dropDa 2 s else [])) s

/-- ENEC (R444): bit 3 of the event byte enables Hot-Join. [PRESUMED, log 58, unsafe] -/
def execEnec (events : BitVec 8) (s : State) : Res :=
  run (i3cAnswer (fun _ => true) (fun _ => []) (fun _ =>
    if events.getLsbD 3 then [updMgt (fun m => { m with hjOff := false })] else [])) s

/-- DISEC (R444): bit 3 of the event byte disables Hot-Join. [PRESUMED, log 58, unsafe] -/
def execDisec (events : BitVec 8) (s : State) : Res :=
  run (i3cAnswer (fun _ => true) (fun _ => []) (fun _ =>
    if events.getLsbD 3 then [updMgt (fun m => { m with hjOff := true })] else [])) s

/-- A CCC directed to the target's dynamic address that returns bytes. -/
def getCcc (bs : State → List Byte) : Act := i3cAnswer hasDa bs skip

/-- GETPID (R441). -/
def execGetpid (s : State) : Res := run (getCcc (fun s => beBytes 6 (provId s))) s
/-- GETBCR (R440). -/
def execGetbcr (s : State) : Res := run (getCcc (fun _ => [0x08])) s
/-- GETDCR (R440). -/
def execGetdcr (s : State) : Res := run (getCcc (fun _ => [0x00])) s
/-- GETSTATUS (R440): the two status bytes are not stated. [PRESUMED, log 58, unsafe] -/
def execGetstatus (s : State) : Res :=
  run (i3cAnswer hasDa (fun s => leBytes 2 s.fresh) (fun _ => [.draw])) s
/-- SETMWL (R440): the length is kept, at most 16. [PRESUMED, log 58, unsafe] -/
def execSetmwl (len : BitVec 16) (s : State) : Res :=
  run (i3cAnswer (fun _ => true) (fun _ => []) (fun _ => [updMgt (fun m => { m with mwl := min 16 len.toNat })])) s
/-- SETMRL (R440). -/
def execSetmrl (len : BitVec 16) (s : State) : Res :=
  run (i3cAnswer (fun _ => true) (fun _ => []) (fun _ => [updMgt (fun m => { m with mrl := min 16 len.toNat })])) s
/-- GETMWL (R440). -/
def execGetmwl (s : State) : Res := run (getCcc (fun s => beBytes 2 s.dyn.mgt.mwl)) s
/-- GETMRL (R440). -/
def execGetmrl (s : State) : Res := run (getCcc (fun s => beBytes 2 s.dyn.mgt.mrl)) s

/-- UNSUPPORTED_CCC (R440): NACK. -/
def execUnsupportedCcc (_code : BitVec 8) (s : State) : Res :=
  run (i3cAnswer (fun _ => false) (fun _ => []) skip) s

/-- PRIVATE_WRITE (R443, R447): the address header renews the lease; the first byte is the index. -/
def execPrivateWrite (addr : BitVec 7) (bytes : List Byte) (s : State) : Res :=
  run (i3cAnswer (fun s => hasDa s && daOf s == addr.toNat) (fun _ => []) (fun s =>
    (if leaseS s = 0 then []
     else [.cnt Reg.MGT_RENEW_CNT 31 0 1, updMgt (fun m => { m with renew := s.dyn.us })]) ++
    (match bytes with
      | i :: _ => [updMgt (fun m => { m with index := i.toNat })]
      | [] => []))) s

/-- The bytes a private read returns (Table 15.2). [PRESUMED, log 58, unsafe] -/
def privBytes (s : State) : List Byte :=
  match s.dyn.mgt.index with
  | 0 => leBytes 4 (s.reg Reg.SYS_ID).toNat
  | 1 => []
  | 2 => leBytes 4 (s.reg Reg.MGT_ENCL_STAT).toNat
  | 3 => leBytes 2 (s.fld Reg.THM_HOT 15 0)
  | 4 => [b8 s.dyn.rst.slotId.toNat]
  | _ => [0]

/-- PRIVATE_READ (R447). -/
def execPrivateRead (addr : BitVec 7) (s : State) : Res :=
  run (i3cAnswer (fun s => hasDa s && daOf s == addr.toNat) (fun s => (privBytes s).take s.dyn.mgt.mrl) skip) s

/-- LEASE_LAPSE (R442-R444): LEASE_S seconds have passed since the last renewal. -/
def execLeaseLapse (s : State) : Res :=
  run (fun s => if i3cUp s && hasDa s && leaseS s ≠ 0 then
    seqs [dropDa 4, fun _ => [updMgt (fun m => { m with hjDue := true })]] s else []) s

/-- HOT_JOIN_REQUEST (R444): at the first Bus Available condition, and every second until ENTDAA. -/
def execHotJoinRequest (s : State) : Res :=
  run (fun s => if i3cUp s && !hasDa s && s.dyn.mgt.hjDue && !s.dyn.mgt.hjOff && s.bit Reg.MGT_CTL 1 then
    [.emit .hotJoin, .sq Reg.MGT_STAT 8, .cnt Reg.MGT_HJ_CNT 31 0 1] else []) s

/-! The NVS command engine (R451-R453). -/

/-- A command ends with a cause of Table 15.4. -/
def nvsError (cause : Nat) : Act := fun _ => [.fld Reg.NVS_STAT 14 12 cause, .sq Reg.NVS_STAT 2]

/-- NVS_DRAM. -/
def nvsDram (s : State) : Nat := s.pair Reg.NVS_DRAM_LO % 2 ^ 36
/-- NVS_LEN. -/
def nvsLen (s : State) : Nat := s.fld Reg.NVS_LEN 24 0
/-- NVS_ADDR. -/
def nvsAddr (s : State) : Nat := s.fld Reg.NVS_ADDR 27 0

/-- The first byte and length of the NOR range a command works on. -/
def nvsRange (s : State) (op : Nat) : Nat × Nat :=
  if op = 3 then (nvsAddr s / 4096 * 4096, 4096)
  else if op = 4 then (nvsAddr s / 65536 * 65536, 65536)
  else (nvsAddr s, nvsLen s)

/-- The cause a command is refused with: 1 before 2 (Table 15.4, R452). [DEDUCED, log 60, unsafe] -/
def nvsCause (s : State) (op : Nat) : Option Nat :=
  let r := nvsRange s op
  if op = 0 || 4 < op || r.2 = 0 || s.dyn.rst.norMib * 1048576 < r.1 + r.2 || (op ≤ 2 && nvsAddr s % 64 ≠ 0) then some 1
  else if op = 1 then none
  else if s.bit Reg.NVS_PROT 0 && r.1 < 0x20000 then some 2
  else
    let t := s.dyn.aon.tripNext
    let sec := t.fld 27 5 * 32 / 4096 * 4096
    if 3 ≤ op && t.bit 31 && r.1 ≤ sec && sec < r.1 + r.2 then some 2 else none

/-- Programming clears bits and sets none. [PRESUMED, log 59, unsafe] -/
def norProgram (s : State) (a : Nat) (bs : List Byte) : List Byte := (List.zip (s.norBytes a bs.length) bs).map (fun p => p.1 &&& p.2)

/-- Pages a range touches. -/
def nvsPages (a n : Nat) : Nat := (a + n - 1) / 256 + 1 - a / 256

/-- The engine is busy with a command that is to fail with a cause, or with none (0); it may wait for memory. -/
def nvsIssue (op cause : Nat) (wait : Bool) : List Eff := [.fld Reg.NVS_STAT 15 15 1, .fld Reg.NVS_STAT 14 12 0,
  .upd (fun d => { d with nvs := { cmd := some (op, cause), wait := wait } })]

/-- A PROGRAM has its data from memory and programs them (R451); the class of its memory reads is free (R362). [DESIGN CHOICE, log 93, safe] -/
def nvsProgram : Act := fun s =>
  let a := nvsAddr s
  let n := nvsLen s
  match reqRead s (nvsDram s) n with
  | none => .draw :: (nvsIssue 2 4 false ++ reqReadEv false (nvsDram s) n (s.fresh % 4) s)
  | some bs => [.draw, .draw, .nor a (norPass (applyEff s .draw) (norProgram s a bs)),
      .upd (fun d => { d with aon := { d.aon with norOp := some (2, a) } }), .cnt Reg.NVS_PROG_CNT 31 0 (nvsPages a n)] ++ nvsIssue 2 0 false ++
      reqReadEv false (nvsDram s) n (s.fresh % 4) s

/-- A command starts; the operation AON recorded is polled out first (R453). Its end is NVS_COMMAND_DONE. -/
def nvsStart (op : Nat) : Act := fun s =>
  let r := nvsRange s op
  let clear : Eff := .upd (fun d => { d with aon := { d.aon with norOp := none } })
  if op = 1 then clear :: nvsIssue 1 0 false
  else if op = 2 then clear :: (if reqReady s then nvsProgram s else nvsIssue 2 0 true)
  else [clear, .draw, .nor r.1 (norPass s (List.replicate r.2 0xFF)),
    .upd (fun d => { d with aon := { d.aon with norOp := some (op, nvsAddr s) } }), .cnt Reg.NVS_ERASE_CNT 31 0 1] ++ nvsIssue op 0 false

/-- A write of NVS_CMD (R451). [PRESUMED, log 59, unsafe] -/
def hNvsCmd (data : Word) : Act := fun s =>
  if s.bit Reg.NVS_STAT 15 then nvsError 5 s
  else match nvsCause s (data.fld 2 0) with
    | some c => nvsError c s
    | none => nvsStart (data.fld 2 0) s

/-- NVS_READ (R451). -/
def execNvsRead (init : Initiator) (data : Word) (s : State) : Res := run (wrAccess init Reg.NVS_CMD (hNvsCmd data)) s
/-- NVS_PROGRAM (R451). -/
def execNvsProgram (init : Initiator) (data : Word) (s : State) : Res := run (wrAccess init Reg.NVS_CMD (hNvsCmd data)) s
/-- NVS_ERASE_4K (R451). -/
def execNvsErase4k (init : Initiator) (data : Word) (s : State) : Res := run (wrAccess init Reg.NVS_CMD (hNvsCmd data)) s
/-- NVS_ERASE_64K (R451). -/
def execNvsErase64k (init : Initiator) (data : Word) (s : State) : Res := run (wrAccess init Reg.NVS_CMD (hNvsCmd data)) s
/-- NVS_BAD_OP (R451): an OP that is not 1 to 4. -/
def execNvsBadOp (init : Initiator) (data : Word) (s : State) : Res := run (wrAccess init Reg.NVS_CMD (hNvsCmd data)) s

/-- NVS_COMMAND_DONE (R451, R453): `ready` says that the NOR reported ready in time. A READ, or a PROGRAM without its data, waits while
memory holds its requests (R356). -/
def execNvsCommandDone (ready : Bool) (s : State) : Res :=
  run (fun s =>
    match s.dyn.nvs.cmd with
    | none => []
    | some (op, cause) =>
      if !s.up 19 || (!reqReady s && (op = 1 || s.dyn.nvs.wait)) then []
      else if s.dyn.nvs.wait then nvsProgram s
      else
        let stop : List Eff := [.fld Reg.NVS_STAT 15 15 0, .upd (fun d => { d with nvs := {} })]
        let idle : Eff := .upd (fun d => { d with aon := { d.aon with norOp := none } })
        if cause ≠ 0 then stop ++ nvsError cause s
        else if !ready then stop ++ nvsError 3 s
        else if op = 1 then
          (let bs := norPass s (s.norBytes (nvsAddr s) (nvsLen s))
          stop ++ seqs [fun _ => [.draw], reqWrite .media false (nvsDram s) bs, if memFits s (nvsDram s) bs.length then fun _ => [.sq Reg.NVS_STAT 1]
            else nvsError 4] (applyAll s stop))
        else stop ++ [idle, .sq Reg.NVS_STAT 1]) s

/-! Elapsed time (R458-R460). -/

/-- A commit of TIM_HOST (R459). -/
def hTimHost (lo : Option Word) (hi : Word) : Act := fun s =>
  [timeCommit ((match lo with
    | some w => w.toNat
    | none => s.dyn.aon.host % 2 ^ 32) + hi.fld 15 0 * 2 ^ 32)]

/-- TIM_HOST_COMMIT (R459): a write of TIM_HOST_HI. -/
def execTimHostCommit (init : Initiator) (data : Word) (s : State) : Res :=
  run (wrAccess init Reg.TIM_HOST_HI (hiWrite init Reg.TIM_HOST_LO (fun lo => hTimHost lo data))) s

/-! What the RO registers of these blocks show. -/

/-- The views of MGT, NVS and TIM by BAR0 offset (R461). [DEDUCED, log 47, unsafe] -/
def viewEncl (s : State) (a : Nat) : Option Word :=
  if a = Reg.MGT_PID_LO then some (w32 (provId s))
  else if a = Reg.MGT_PID_HI then some (w32 (provId s / 2 ^ 32))
  else if a = Reg.MGT_SLOT then some (w32 s.dyn.rst.slotId.toNat)
  else if a = Reg.NVS_SIZE then some (w32 (s.dyn.rst.norMib % 512))
  else if a = Reg.TIM_US_LO then some (w32 s.dyn.us)
  else if a = Reg.TIM_US_HI then some (w32 (s.dyn.us / 2 ^ 32))
  else if a = Reg.TIM_HOST_LO then some (w32 s.dyn.aon.host)
  else if a = Reg.TIM_HOST_HI then some (w32 ((if s.dyn.aon.set then 2 ^ 31 else 0) + (if s.dyn.aon.synch then 2 ^ 30 else 0) +
    s.dyn.aon.host / 2 ^ 32 % 65536))
  else if a = Reg.TIM_BASE_LO then some (w32 s.dyn.aon.base)
  else if a = Reg.TIM_BASE_HI then some (w32 (s.dyn.aon.base / 2 ^ 32))
  else none

end Sys2Proof.Machine
end

