-- ==== Sys2Proof/Machine/Reset.lean ====
section
/-! DEFINITION. Clocks and reset (13, R515): the reset sources and their reach, what a level loses in reset, the release sequence, option
loading, the watchdog, pads and domain gating. -/

namespace Sys2Proof.Machine

/-- Change the state of clocks and reset. -/
def updRst (g : RstD → RstD) : Eff := .upd (fun d => { d with rst := g d.rst })

/-! Sources (Table 13.3). -/

/-- The levels a source reaches, bit k for Dk. [DEDUCED, log 25, unsafe] -/
def reach : Source → BitVec 9
  | .por => 0x1FF
  | .pin => 0x1FE
  | .warm => 0x1FE
  | .host => 0x100
  | .activate => 0x010

/-- CAUSE of Table 13.7. -/
def srcCode : Source → Nat
  | .por => 1
  | .pin => 2
  | .warm => 3
  | .host => 4
  | .activate => 5

/-- A source's reach is wider than another's. [DEDUCED, log 25, unsafe] -/
def wider (a b : Source) : Bool := reach a &&& reach b == reach b && reach a != reach b

/-- "Kept" fields keep their value under a source (R32). [DEDUCED, log 25, unsafe] -/
def keeps (src : Source) : Bool := src != .por && src != .pin

/-- The level of a register. -/
def regLevel (a : Nat) : Nat := domLevel (domOf a)

/-! What lies in a domain and shows in no register. -/

/-- One pool's engines and FIFO as the reset of its domain alone leaves them (R535): its tasks and the reissues that wait for it are
gone; fences lie outside the domain and stay. [DEDUCED, log 68, unsafe] -/
def poolDyn (p : Nat) (x : ShlD) : ShlD :=
  let other (t : STask) : Bool := t.pool != p
  { x with
    engs := (List.range x.engs.length).map (fun e =>
      let g := x.engs.getD e {}
      if e / 8 = p then { last := e, fenced := g.fenced, reset := g.reset, mem := g.mem, wait := g.wait.filter other }
      else { g with wait := g.wait.filter other })
    fifos := setAt x.fifos p [] }

/-- A domain's state after its reset through CLK_DOM_OFF (R391). [DEDUCED, log 68, unsafe] -/
def domDyn (d : Nat) (x : Dyn) : Dyn :=
  if d = 1 then { x with mpd := { low := x.mpd.low } }
  else if d = 2 then { x with thm := {} }
  else if d = 3 then { x with pwr := { x.pwr with queue := [], holds := [] } }
  else if d = 5 then { x with mgt := {} }
  else if d = 8 then { x with wrk := {} }
  else if d = 14 then { x with mem := { x.mem with scrub := none } }
  else if 16 ≤ d && d ≤ 18 then { x with rst := { x.rst with cores := setAt x.rst.cores (d - 15) .waiting } }
  else if 21 ≤ d && d ≤ 24 then { x with
  cch := { x.cch with
    lines := x.cch.lines.filter (fun l => setDom l.line != d)
    filling := x.cch.filling.filter (fun l => setDom l.line != d) } }
  else if 25 ≤ d && d ≤ 32 then { x with shl := poolDyn (d - 25) x.shl }
  else if d = 33 then { x with hq := {}, cal := none }
  else if 34 ≤ d && d ≤ 37 then { x with hl := setAt x.hl (d - 34) {} }
  else if 38 ≤ d && d ≤ 53 then { x with ch := { x.ch with
    lanes := setAt x.ch.lanes (d - 38) {}
    writing := if x.ch.writing = some (d - 38) then none else x.ch.writing } }
  else if 54 ≤ d && d ≤ 57 then { x with wa := modAt x.wa (d - 54) (fun w => { faultN := w.faultN }) }
  else if 59 ≤ d && d ≤ 62 then { x with dec := { x.dec with jobs := setAt x.dec.jobs (d - 59) none } }
  else if d = 63 then { x with dec := { x.dec with pass := 0 } }
  else x

/-- A zone stands in an opened state whose save is still due. -/
def openUnsaved (d : Dyn) (z : Nat) : Bool := d.zn.zones.any (fun x => x.zone == z && x.due && (x.st == 2 || x.st == 3))

/-- Opened zones that no save has recorded yet. -/
def firstOpened (d : Dyn) : List Nat :=
  ((d.zn.zones.filter (fun x => openUnsaved d x.zone && !d.media.saved.any (fun y => y.zone == x.zone))).map (fun x => x.zone)).eraseDups

/-- Zones and the write buffer as a reset that reaches D7 leaves them: the saved zones, an opened one Closed (R302); those that
were open, or lost committed data, are to be scanned (R232). [DEDUCED, log 30, unsafe] -/
def znReset (src : Source) (d : Dyn) : ZnD where
  zones := d.media.saved.map (fun z =>
      ⟨z.zone, if z.state = 2 || z.state = 3 || openUnsaved d z.zone then 4 else z.state, z.wp, 0, false⟩) ++
    (firstOpened d).map (fun z => ⟨z, 4, 0, 0, false⟩)
  scan := (d.media.saved.filter (fun z => z.state == 2 || z.state == 3 || openUnsaved d z.zone ||
    d.loss.shingled.any (fun p => p.1 == z.zone))).map (fun z => z.zone) ++ firstOpened d
  cause := if keeps src then 1 else 2

/-- Recovery loses what it held in DRAM and what it was doing; counters, events and the relocation table stay (R237). -/
def rcvReset (r : RecD) : RecD := { r with ladders := [], got := [], pend := [], reloc := [] }

/-- A level's state after a source has reached it. [DEDUCED, log 29, unsafe] [DEDUCED, log 68, unsafe] -/
def levelDyn (src : Source) (k : Nat) (x : Dyn) : Dyn :=
  if k = 0 then { x with aon := { x.aon with count := 0, tripNext := 0 }, align := [], alignTotal := 0 }
  else if k = 1 then { x with
    sys := {}, thm := {}
    pwr := if keeps src then { spin1 := x.pwr.spin1, stagOk := x.pwr.stagOk, d1us := x.pwr.d1us } else {}
    rst := { x.rst with domHeld := 0 }
    mpd := { low := x.mpd.low } }
  else if k = 2 then { x with rst := { x.rst with optLoad := false, optDone := false } }
  else if k = 3 then { x with mem := { gen := x.mem.gen + 1 }, rcv := rcvReset x.rcv, log := { x.log with image := [] } }
  else if k = 4 then { x with
    nvs := {}, mgt := {}, cal := none
    rst := { x.rst with cores := List.replicate 4 .waiting, bootDue := false, uartWait := false, dbgGo := false } }
  else if k = 5 then { x with cch := {} }
  else if k = 6 then { x with shl := {} }
  else if k = 7 then { x with
    hl := List.replicate 4 {}, ch := {}, dec := {}, wa := x.wa.map (fun w => { faultN := w.faultN }), wrk := {}, cal := none, excluded := [], keepParked := [0, 1, 2, 3], zn := znReset src x
    nsp := { x.nsp with ns := (x.nsp.ns.filter (fun n => n.st != 0)).map (fun n => { n with st := 1 }) } }
  else if k = 8 then (if src = .host then x else { x with hq := {} })
  else x

/-- The levels of a mask, ascending. -/
def levelsIn (m : BitVec 9) : List Nat := (List.range 9).filter (fun k => m.getLsbD k)

/-- The records of R307 are taken as a WARM reset discards the write buffer; POR and PIN lose them with the loss page. [DEDUCED, log 29, unsafe] [DEDUCED, log 54, unsafe] -/
def recordLoss (src : Source) : Act := fun s =>
  if !keeps src then [updLoss (fun _ => {})]
  else
    let bs (z : Nat) : List WBlk := s.dyn.zn.buf.filter (fun b => b.zone == z)
    let zs := bufZones s
    [updLoss (fun l => { l with
      shingled := l.shingled.filter (fun p => !zs.contains p.1) ++ ((zs.filter (fun z => !isConvZone s z)).map (fun z =>
        (z, (zoneAt s z).wp)))
      conv := l.conv.filter (fun p => !zs.contains p.1) ++ ((zs.filter (fun z => isConvZone s z)).map (fun z =>
        (z, (bs z).length, (bs z).foldl (fun m b => min m b.blk) zoneBlocks, (bs z).foldl (fun m b => max m b.blk) 0))) })]

/-- A HOST reset acts as a controller reset of every link and closes every one (R303). -/
def hostDrop : Act := fun s =>
  seqs [each s.dyn.hq.links (fun l => dropCmds (!l.pcie) l.id), fun s =>
    [updHq (fun h => { cmds := h.cmds, next := h.next, hold := s.dyn.hq.hold })]] s

/-- Levels go into reset as under a source (R32, R148, R368, R399). [DEDUCED, log 24, unsafe] -/
def holdLevels (src : Source) (m : BitVec 9) : PAct := fun s =>
  let loading := m.getLsbD 2 && s.dyn.rst.optLoad && keeps src
  seqsP [
    lift (if m.getLsbD 7 then seqs [mediaSafe, recordLoss src] else skip),
    lift (if m.getLsbD 8 && src == .host then hostDrop else skip),
    fun _ => [.rst (fun a => m.getLsbD (regLevel a)) (keeps src)],
    lift (if m.getLsbD 3 then fun _ => [.wipe, .emit (.memPins false false true)] else skip),
    fun _ => [.eff (.upd (fun d => (levelsIn m).foldl (fun x k => levelDyn src k x) d)),
      .eff (updRst (fun r => { r with held := r.held ||| m }))],
    lift (if loading then fun _ => [.cnt Reg.OPT_STAT 31 24 1] else skip)] s

/-- The SYS_LOCK bits of the blocks whose level a reach includes (R40, Table 2.1). -/
def unlockMask (m : BitVec 9) : Word :=
  (if m.getLsbD 1 then 0x0000000F else 0) ||| (if m.getLsbD 3 then 0x00000010 else 0) |||
  (if m.getLsbD 5 then 0x00000020 else 0) ||| (if m.getLsbD 6 then 0x00000040 else 0) |||
  (if m.getLsbD 8 then 0x00000380 else 0) ||| (if m.getLsbD 7 then 0x0000FC00 else 0) |||
  (if m.getLsbD 4 then 0x00010000 else 0)

/-- RST_CAUSE records a source, and RST_COUNT counts it, unless a source as wide started the sequence in progress, or a wider one
asserts with it (R402). [DEDUCED, log 26, unsafe] -/
def recordCause (r : Raise) : Act := fun s =>
  let first := match s.dyn.rst.seq with
    | none => true
    | some c => wider r.src c
  if !first then []
  else if s.dyn.rst.raised.any (fun x => wider x.src r.src) then
    [updRst (fun x => { x with seq := if x.seq.isNone then some r.src else x.seq })]
  else [updRst (fun x => { x with seq := some r.src }),
    updAon (fun a => { a with
      cause := w32 (srcCode r.src * 2 ^ 28 + r.sub % 256 * 2 ^ 20 + r.init % 16 * 2 ^ 16)
      count := if r.src = .por then 0 else min (a.count + 1) (2 ^ 32 - 1) })]

/-- The registers behind the 1.8 V balls of PER_GPIO, as a WARM reset latches them (R405); an ACTIVATE holds only the
UART's. [DEDUCED, log 70, unsafe] -/
def padLatch (src : Source) : Act := fun s =>
  if src = .warm then [updRst (fun r => { r with
    padHeld := if r.padHeld.isEmpty then
      [Reg.GPIO_DIR, Reg.GPIO_OUT, Reg.PAD_FE].map (fun a => (a, s.reg a)) else r.padHeld })]
  else []

/-- What a source does beside its reach: PLL and dividers, the reference qualifier, the beached state (R385, R423, Table
13.3). -/
def srcClocks (src : Source) : Act := fun s =>
  (if src = .por then [updRst (fun r => { r with refGood := false, faultN := false }),
    .upd (fun d => { d with aon := { d.aon with synch := d.aon.synch || (d.aon.set && s.dyn.rst.refGood) }, tap := {} })] else []) ++
  (if keeps src then []
   else [updRst (fun r => { r with
       pllLock := false, good := 0, beached := false, padHeld := [], faultPll := false,
       faultN := r.faultN && !r.faultPll }),
     .upd (fun d => { d with aon := { d.aon with tripDue := false } })]) ++
  (if src = .host then [updRst (fun r => { r with hostSeen := true })] else [])

/-- A source asserts: it brings its reach into reset (R392, R395, R398, R402). -/
def assertSrc (r : Raise) : PAct := fun s =>
  if s.dyn.rst.asserted.any (fun x => x.src == r.src && x.sub == r.sub) then []
  else
    let m := reach r.src
    let again := s.dyn.rst.seq.isSome && (m &&& ~~~s.dyn.rst.held) != 0
    seqsP [
      lift (recordCause r),
      fun _ => [.eff (updRst (fun x => { x with asserted := x.asserted ++ [r] }))],
      lift (padLatch r.src),
      holdLevels r.src m,
      lift (srcClocks r.src),
      fun _ => [.unlock (unlockMask m)],
      lift (if r.src == .warm || r.src == .activate then fun _ => [.fld Reg.RST_PAD 1 1 1] else skip),
      lift (if again then fun _ => [.sq Reg.RST_STAT 1] else skip)] s

/-- A source that has asserted releases. -/
def releaseSrc (p : Raise → Bool) : Act := fun s =>
  match s.dyn.rst.asserted.find? p with
  | some r => [updRst (fun x => { x with asserted := x.asserted.erase r })]
  | none => []

/-- An asserted source of a kind and sub-code. -/
def isSrc (src : Source) (sub : Nat) (r : Raise) : Bool := r.src == src && r.sub == sub

/-! Pins and supplies (R395, R515). -/

/-- A ball goes low. A pulse shorter than 1 µs asserts the source as a whole, or does nothing: which is not defined (R395). [DESIGN CHOICE, log 27, safe] -/
def pinLow (short : Bool) (r : Raise) : PAct := fun s =>
  if !short then assertSrc r s
  else .eff .draw :: (if s.fresh % 2 = 0 then [] else assertSrc r (applyEff s .draw))

/-- PORST_N_ASSERT (R395). -/
def execPorstNAssert (short : Bool) (s : State) : Res :=
  runP (seqsP [pinLow short ⟨.por, 1, 0⟩, if short then lift (releaseSrc (isSrc .por 1)) else fun _ => []]) s

/-- PORST_N_RELEASE (R395): the straps are sampled (R384, R408, R448). -/
def execPorstNRelease (slotId : BitVec 6) (refsel : Bool) (bootMode : BitVec 2) (s : State) : Res :=
  run (fun s =>
    if s.dyn.rst.asserted.any (isSrc .por 1) then
      updRst (fun r => { r with slotId := slotId, refsel := refsel, bootMode := bootMode }) :: releaseSrc (isSrc .por 1) s
    else []) s

/-- RESET_N_ASSERT (R395). -/
def execResetNAssert (short : Bool) (s : State) : Res :=
  runP (seqsP [pinLow short ⟨.pin, 1, 0⟩, if short then lift (releaseSrc (isSrc .pin 1)) else fun _ => []]) s

/-- RESET_N_RELEASE (R395). -/
def execResetNRelease (s : State) : Res := run (releaseSrc (isSrc .pin 1)) s

/-- A supply monitor's sub-code (Table 13.7). -/
def railSub : Rail → Nat
  | .core => 0x10
  | .sram => 0x11
  | .io => 0x12
  | .aon => 0x13
  | .ddq => 0x14

/-- VDD_AON goes: a power loss that no shutdown has announced counts as an unsafe one (R5). [DEDUCED, log 113, unsafe] -/
def aonPowerLoss : Act := fun _ => [updLog (fun g => { g with smart := { g.smart with
  unclean := g.smart.unclean + (if g.smart.clean then 0 else 1), clean := true } })]

/-- SUPPLY_MONITOR_FALL (R515). -/
def execSupplyMonitorFall (rail : Rail) (s : State) : Res :=
  runP (seqsP [lift (if rail = .aon then aonPowerLoss else skip), assertSrc ⟨.por, railSub rail, 0⟩]) s

/-- VDD_AON power-up: the AON state that outlives every POR takes its reset values (R393); it is one power cycle more (R5). [DEDUCED, log 113, unsafe] -/
def aonPowerUp : Act := fun _ => [updLog (fun g => { g with smart := { g.smart with cycles := g.smart.cycles + 1 } }), .upd (fun d => { d with
  us := 0
  aon := { d.aon with tripLatch := 0, tripStat := 0, host := 0, base := 0, set := false, synch := false, norOp := none } })]

/-- SUPPLY_MONITOR_RISE (R515, R393). -/
def execSupplyMonitorRise (rail : Rail) (s : State) : Res :=
  run (fun s =>
    if s.dyn.rst.asserted.any (isSrc .por (railSub rail)) then
      seqs [if rail = .aon then aonPowerUp else skip, releaseSrc (isSrc .por (railSub rail))] s
    else []) s

/-! Reference, PLL and clock-good (R385-R389). -/

/-- REF_GOOD (R385): the qualifier runs from the release of the POR source. -/
def execRefGood (s : State) : Res :=
  run (fun s => if s.dyn.rst.asserted.any (fun r => r.src == .por) then [] else [updRst (fun r => { r with refGood := true })]) s

/-- REF_LOST (R386, R459): a PIN-reach reset that D1 leaves once the reference is good again. [DEDUCED, log 26, unsafe] -/
def execRefLost (s : State) : Res :=
  runP (fun s =>
    if !s.dyn.rst.refGood then []
    else seqsP [
      fun _ => [.eff (updRst (fun r => { r with refGood := false })),
        .eff (.upd (fun d => { d with aon := { d.aon with synch := d.aon.synch || d.aon.set } }))],
      assertSrc ⟨.pin, 2, 0⟩, lift (releaseSrc (isSrc .pin 2))] s) s

/-- FAULT_N asserted for PLL_FAIL goes once the PLL has locked and every clock-good has asserted (R387). [DEDUCED, log 28, unsafe] -/
def faultOff : Act := fun s =>
  if s.dyn.rst.faultPll && s.dyn.rst.pllLock && s.dyn.rst.good == 0x1F then
    [updRst (fun r => { r with faultN := false, faultPll := false })] else []

/-- PLL_LOCK (R387). -/
def execPllLock (s : State) : Res :=
  run (fun s => if s.levelUp 1 && s.dyn.rst.refGood then seqs [fun _ => [updRst (fun r => { r with pllLock := true })], faultOff] s
    else []) s

/-- The bit of a family in GOOD: CORE 4 down to PERIPH 0. -/
def famBit : Family → Nat
  | .core => 4
  | .mgmt => 3
  | .mem => 2
  | .media => 1
  | .periph => 0

/-- The levels that use a family's clock-good (Table 13.1). -/
def famLevels : Family → List Nat
  | .core => [5, 6, 8]
  | .mgmt => [4]
  | .mem => [3]
  | .media => [7]
  | .periph => [2]

/-- The family a level needs. -/
def levelFam (k : Nat) : Option Family :=
  if k = 2 then some .periph else if k = 3 then some .mem else if k = 4 then some .mgmt
  else if k = 5 || k = 6 || k = 8 then some .core else if k = 7 then some .media else none

/-- A family's clock-good stands. -/
def famGood (s : State) (f : Family) : Bool := s.dyn.rst.good.getLsbD (famBit f)

/-- CLOCK_GOOD_ASSERT (R387). -/
def execClockGoodAssert (fam : Family) (s : State) : Res :=
  run (fun s =>
    if s.dyn.rst.pllLock && !s.dyn.rst.beached then
      seqs [fun _ => [updRst (fun r => { r with good := r.good ||| BitVec.ofNat 5 (2 ^ famBit fam) })], faultOff] s
    else []) s

/-- The levels from k to D8. -/
def fromLevel (k : Nat) : BitVec 9 := BitVec.ofNat 9 (512 - 2 ^ k)

/-- Clock-goods have fallen (R397): in a sequence the first released level that uses one returns to reset with all above it, as
under the source of the sequence; after it, WARM is raised. [DEDUCED, log 123, unsafe] -/
def goodsFall (fams : List Family) : PAct := fun s =>
  let gone := fams.filter (famGood s)
  if gone.isEmpty then []
  else
    let clear := gone.foldl (fun m f => m ||| BitVec.ofNat 5 (2 ^ famBit f)) (0 : BitVec 5)
    let back := (List.range 9).find? (fun k => !s.dyn.rst.held.getLsbD k && (gone.any (fun f => (famLevels f).contains k)))
    seqsP [
      fun _ => [.eff (updRst (fun r => { r with good := r.good &&& ~~~clear }))],
      lift (fun s => if s.up 0 then [.sq Reg.CLK_STAT 1] else []),
      match s.dyn.rst.seq, back with
        | some src, some k => seqsP [holdLevels src (fromLevel k),
          lift (fun s => if s.up 0 then [.sq Reg.RST_STAT 1] else [])]
        | some _, none => fun _ => []
        | none, _ => lift (raiseSrc .warm 6 0)] s

/-- CLOCK_GOOD_FALL (R397). -/
def execClockGoodFall (fam : Family) (s : State) : Res :=
  runP (fun s => if s.dyn.rst.beached then [] else goodsFall [fam] s) s

/-- The level released next. -/
def nextLevel (s : State) : Option Nat := (List.range 9).find? (fun k => s.dyn.rst.held.getLsbD k)

/-- PLL_FAIL (R387): the next level's clock-good has not come 10 ms after D1's release; the PLL restarts, so that every clock-good
falls. [DEDUCED, log 28, unsafe] -/
def execPllFail (s : State) : Res :=
  runP (fun s =>
    match (nextLevel s).bind levelFam with
    | some f =>
      if !s.levelUp 1 || famGood s f then []
      else seqsP [
        fun _ => [.eff (.sq Reg.CLK_STAT 0x200), .eff (updRst (fun r => { r with
          faultN := true, faultPll := r.faultPll || !r.faultN, pllLock := false }))],
        goodsFall [.core, .mgmt, .mem, .media, .periph]] s
    | none => []) s

/-! Release (R396-R398). -/

/-- The registers of a level whose domains are released with it. -/
def optOf (s : State) (k : Nat) (a : Nat) : Bool := regLevel a == k && !s.dyn.rst.domHeld.getLsbD (domOf a)

/-- The release of Dk waits for no more than its gap (R396, R398). -/
def mayRelease (s : State) (k : Nat) : Bool :=
  !s.dyn.rst.beached && !(s.dyn.rst.asserted.any (fun r => (reach r.src).getLsbD k)) &&
  (k != 1 || s.dyn.rst.refGood) && (k != 3 || s.dyn.rst.optDone) && (levelFam k).all (famGood s)

/-- Domains of a level held through CLK_DOM_OFF whose bit is 0 are released with the level (R391). -/
def domsFree (k : Nat) : Act := fun s =>
  let off (i : Nat) : Bool := s.bit (Reg.CLK_DOM_OFF (i / 32)) (i % 32)
  [updRst (fun r => { r with
  domHeld := ((List.range 100).filter (fun i => domLevel i == k && !off i)).foldl (fun m i =>
    m &&& ~~~(BitVec.ofNat 101 (2 ^ i))) r.domHeld })]

/-- Conventional zones that lost writes get their loss entries at the release of D7 (R308). -/
def convLoss : Act := fun s =>
  each s.dyn.loss.conv (fun c s => seqs [fun _ => [updLoss (fun l => { l with conv := l.conv.filter (fun x => x.1 != c.1) })],
    lossAdd { lossEnt s c.1 s.dyn.zn.cause c.2.2.1 c.2.1 (c.2.2.2 + 1 - c.2.2.1) with kind := 1 }] s) s

/-- What the release of a level starts. [DEDUCED, log 94, unsafe] [DEDUCED, log 132, safe] -/
def levelStarts (k : Nat) : Act := fun s =>
  if k = 1 then [updRst (fun r => { r with sscUse := s.bit Reg.CLK_CFG 0 })] ++
    (if s.dyn.pwr.spin1 && s.dyn.rst.seq.all (fun x => !keeps x) then [updPwr (fun p => { p with d1us := p.d1us.or (some s.dyn.us) })] else [])
  else if k = 2 then [.emit .norReset, updRst (fun r => { r with optLoad := true, norCtl := [] }), .upd (fun d => { d with aon := { d.aon with norOp := none } })]
  else if k = 3 then [.emit (.memPins s.dyn.mem.resetN true false)]
  else if k = 4 then [updRst (fun r => { r with bootDue := true }), .upd (fun d => { d with mgt := { d.mgt with hjDue := true } })]
  else if k = 6 then (if s.up 2 && s.bit Reg.THM_STAT 11 then [.fld Reg.SHL_CTL 1 1 1] else [])
  else if k = 7 then seqs [convLoss, calBringUp] s
  else if k = 8 && s.dyn.rst.hostSeen then [updRst (fun r => { r with hostSeen := false }), .sq Reg.RST_STAT 2]
  else []

/-- LEVEL_RELEASE (R396-R398, R401, R453): the sequencer releases the lowest level held. [DEDUCED, log 24, unsafe] -/
def execLevelRelease (s : State) : Res :=
  runP (fun s =>
    match nextLevel s with
    | none => []
    | some k =>
      if !mayRelease s k then []
      else seqsP [
        lift (domsFree k),
        fun _ => [.eff (updRst (fun r => { r with held := r.held &&& ~~~(BitVec.ofNat 9 (2 ^ k)) }))],
        fun s => if 3 ≤ k then [.opt (optOf s k)] else [],
        lift (levelStarts k),
        fun _ => [.eff (updRst (fun r => { r with seq := if r.held = 0 then none else r.seq }))]] s) s

/-- A source raised in the device asserts (R392). [DEDUCED, log 28, unsafe] -/
def assertRaised (src : Source) : PAct := fun s =>
  match s.dyn.rst.raised.find? (fun r => r.src == src) with
  | some r => if s.dyn.rst.beached then [] else
    seqsP [assertSrc r, fun _ => [.eff (updRst (fun x => { x with raised := x.raised.erase r }))]] s
  | none => []

/-- WARM_ASSERT (R392). -/
def execWarmAssert (s : State) : Res := runP (assertRaised .warm) s

/-- WARM_SOURCE_RELEASE (R395): 256 PERIPH cycles after the assertion. -/
def execWarmSourceRelease (s : State) : Res := run (releaseSrc (fun r => r.src == .warm)) s

/-- HOST_ASSERT (R392). -/
def execHostAssert (s : State) : Res := runP (assertRaised .host) s

/-- HOST_RELEASE (R395): the port has left Hot Reset or Detect, or 256 PERIPH cycles have passed. -/
def execHostRelease (s : State) : Res := run (releaseSrc (fun r => r.src == .host)) s

/-! Domain gating (R391). -/

/-- The domains CLK_DOM_OFF gates. -/
def gated (i : Nat) : Bool := i < 100 && !([0, 4, 9, 15, 19, 20].contains i)

/-- One domain goes into reset; a write path's gates fall with it (R148), an Ethernet port's link goes down, and with the thermal monitor
enforcement ends (R420). [DEDUCED, log 132, safe] -/
def domOff (i : Nat) : PAct := seqsP [
  lift (if 54 ≤ i && i ≤ 57 then seqs [gatesLow (i - 54), feSilent (i - 54)] else skip),
  fun _ => [.rst (fun a => domOf a == i) true, .eff (.upd (domDyn i)),
    .eff (updRst (fun r => { r with domHeld := r.domHeld ||| BitVec.ofNat 101 (2 ^ i) }))],
  lift (fun s =>
    if i = 2 && s.up 100 then [.fld Reg.SHL_CTL 1 1 0]
    else if (i = 96 || i = 97) && s.up 33 && s.bit (Reg.NET_STAT (i - 96)) 15 then
      [.fld (Reg.NET_STAT (i - 96)) 15 15 0, .sq (Reg.NET_STAT (i - 96)) 2]
    else if 64 ≤ i && i ≤ 79 && laneUp s (i - 64) then [.fld (Reg.LN_RATE (i - 64)) 31 31 0]
    else if 80 ≤ i && i ≤ 95 && feUp s ((i - 80) / 4) then [.fld (Reg.WP_RATE ((i - 80) / 4) (i % 4)) 31 31 0]
    else [])]

/-- A write of CLK_DOM_OFF: the domains newly off go into reset at once; one whose bit clears waits for DOMAIN_RELEASE. [DEDUCED, log 30, unsafe] -/
def hDomOff (w : Nat) (data : Word) : PAct := fun s =>
  let old := s.reg (Reg.CLK_DOM_OFF w)
  seqsP (lift (plainWrite (Reg.CLK_DOM_OFF w) data) ::
    (((List.range 32).filter (fun b => data.bit b && !old.bit b && gated (32 * w + b))).map (fun b => domOff (32 * w + b)))) s

/-- DOMAIN_OFF_WRITE (R391). -/
def execDomainOffWrite (init : Initiator) (idx : Fin 4) (data : Word) (s : State) : Res :=
  runP (wrAccessP init (Reg.CLK_DOM_OFF idx.val) (hDomOff idx.val data)) s

/-- DOMAIN_RELEASE (R391, R401): one gap after its bit has cleared, while its level is released. -/
def execDomainRelease (dom : Fin 100) (s : State) : Res :=
  runP (fun s =>
    let i := dom.val
    if !s.dyn.rst.domHeld.getLsbD i || !s.levelUp (domLevel i) || s.bit (Reg.CLK_DOM_OFF (i / 32)) (i % 32) then []
    else seqsP [fun _ => [.eff (updRst (fun r => { r with domHeld := r.domHeld &&& ~~~(BitVec.ofNat 101 (2 ^ i)) })),
      .opt (fun a => domOf a == i)], lift (if i = 3 then bwRelease else skip)] s) s

/-! Option loading (R399-R401). -/

/-- The watchdog counts from now if it is on (R404). [DEDUCED, log 24, unsafe] -/
def wdRestart : Act := fun s => [updRst (fun r => { r with wdStart := s.dyn.us })]

/-- OPTION_LOAD_DONE (R399-R401): `sfdp` gives the capacity in MiB and whether erases can be suspended; none where the NOR does not
answer. -/
def execOptionLoadDone (sfdp : Option (BitVec 9 × Bool)) (s : State) : Res :=
  runP (fun s =>
    if !s.dyn.rst.optLoad || !s.levelUp 2 then []
    else
      let ram := match sfdp with
        | some _ => s.norBytes 0 4096
        | none => List.replicate 4096 0xFF
      seqsP [
        fun _ => [.eff (.upd (fun d => { d with
          rst := { d.rst with optRam := ram, optLoad := false, optDone := true, norMib := (sfdp.map (fun p => p.1.toNat)).getD 0 }
          aon := { d.aon with suspend := (sfdp.map (fun p => p.2)).getD false }
          zn := { d.zn with apst := optApst ram, apste := optApste ram } })),
          .eff (.fld Reg.OPT_STAT 17 0 (min (leAt ram 0 2) 382 * 512 + (if sfdp.isNone then 2 else 0) + 1))],
        fun s => [.opt (optOf s 1)],
        lift (fun s => if s.up 3 then bwMirror s else []),
        lift wdRestart] s) s

/-! Software reset, watchdog, pads (R403-R405). -/

/-- A write of RST_SW (R403). [DEDUCED, log 26, unsafe] -/
def hRstSw (init : Initiator) (data : Word) : Act := fun s =>
  if !init.isMc || data.fld 31 16 ≠ 0xD7A1 then []
  else seqs [if data.bit 0 then raiseSrc .warm 1 init.id else skip, if data.bit 1 then raiseSrc .host 5 init.id else skip] s

/-- RST_SW_WRITE (R403). -/
def execRstSwWrite (init : Initiator) (data : Word) (s : State) : Res := run (wrAccess init Reg.RST_SW (hRstSw init data)) s

/-- A write of RST_WDOG_KICK (R404). -/
def hKick (data : Word) : Act := fun s => if data.fld 15 0 = 0xC0DE then wdRestart s else []

/-- WATCHDOG_KICK (R404). -/
def execWatchdogKick (init : Initiator) (data : Word) (s : State) : Res := run (wrAccess init Reg.RST_WDOG_KICK (hKick data)) s

/-- The debug port holds a core (R479). -/
def dbgHolds (s : State) (c : Nat) : Bool := s.bit Reg.DBG_CORE c

/-- The watchdog counts (R404). -/
def wdCounts (s : State) : Bool := s.up 0 && s.dyn.rst.optDone && s.bit Reg.RST_WDOG 31 && !dbgHolds s 0

/-- The watchdog raises WARM. -/
def wdExpire : Act := fun s => if wdCounts s then seqs [wdRestart, raiseSrc .warm 2 0] s else []

/-- WATCHDOG_EXPIRY (R404): WD_MS have passed without a kick. -/
def execWatchdogExpiry (s : State) : Res := run wdExpire s

/-- A write of RST_PAD (R405). [DEDUCED, log 70, unsafe] -/
def hPad (data : Word) : Act := fun _ =>
  if data.bit 0 then [.fld Reg.RST_PAD 1 1 0, updRst (fun r => { r with padHeld := [] })] else []

/-- PAD_RELEASE (R405). -/
def execPadRelease (init : Initiator) (data : Word) (s : State) : Res := run (wrAccess init Reg.RST_PAD (hPad data)) s

/-- A write of RST_CORE_GO: MC1 to MC3 start at the entry (R406, Table 13.12). -/
def hCoreGo (data : Word) : Act := fun s =>
  [updRst (fun r => { r with
  cores := (List.range 4).map (fun c =>
    let x := r.cores.getD c .waiting
    if c ≠ 0 && data.bit c && x == .waiting && s.up (15 + c) then .running else x) })]

/-- CORE_GO (R406). -/
def execCoreGo (init : Initiator) (data : Word) (s : State) : Res := run (wrAccess init Reg.RST_CORE_GO (hCoreGo data)) s

/-! Views: registers that show this state. -/

/-- RST / CLK registers that show AON and sequencer state (Table 13.12), and the slot strap (R448). [DEDUCED, log 30, unsafe] -/
def viewRst (s : State) (a : Nat) : Option Word :=
  let r := s.dyn.rst
  if a = Reg.CLK_STAT then
    some (((s.reg a).setFld 8 8 (if r.refsel then 1 else 0)).setFld 7 1
      ((if r.refGood then 64 else 0) + (if r.pllLock then 32 else 0) + r.good.toNat))
  else if a = Reg.RST_STAT then
    some (((s.reg a).setFld 17 16 r.bootMode.toNat).setFld 15 8 (r.held.toNat / 2))
  else if a = Reg.BW_SLOT then some ((s.reg a).setFld 31 26 r.slotId.toNat)
  else if a = Reg.RST_GAP then some (w32 (optParam s 2 2 64 4096))
  else none

end Sys2Proof.Machine
end

