-- ==== Sys2Proof/Machine/Boot.lean ====
section
/-! DEFINITION. The boot ROM (R406-R409) and the firmware commands (R305, R455). -/

namespace Sys2Proof.Machine

/-! The image check (R407, Table 13.9). -/

/-- KEYHASH, fuse bytes 0x000 to 0x02F. -/
def keyHash : List Byte := (List.range 48).map Config.fuse

/-- KEYHASH is all zero. -/
def unsealed : Bool := keyHash.all (fun b => b == 0)

/-- LENGTH of an image. -/
def imgLen (h : List Byte) : Nat := leAt h 8 4

/-- LOAD of an image. -/
def imgLoad (h : List Byte) : Nat := leAt h 16 8

/-- The header passes the first three tests. -/
def imgHead (s : State) (h : List Byte) : Bool :=
  leAt h 0 4 == 0x5A3EF1A6 && imgLen h % 64 == 0 && 512 + imgLen h ≤ 0x800000 && imgLoad h % 64 == 0 &&
    imgLoad h + 512 + imgLen h ≤ memEnd s

/-- The key and the signature pass. -/
def imgSig (img : List Byte) : Bool :=
  (unsealed || sha384 (slice img 64 96) == keyHash) &&
    ecdsaVerify (ofBE (slice img 64 48), ofBE (slice img 112 48)) (ofBE (slice img 256 48)) (ofBE (slice img 304 48))
      (ofBE (sha384 (img.take 256 ++ slice img 512 (imgLen img))))

/-- An image of the NOR as far as its header says it reaches. -/
def slotImage (s : State) (slot : Nat) : List Byte :=
  s.norBytes (slotOffset slot) (512 + min (imgLen (s.norBytes (slotOffset slot) 512)) 0x800000)

/-- An image passes the boot ROM's check. -/
def imgOk (s : State) (img : List Byte) : Bool := imgHead s img && imgSig img

/-! The boot ROM (R406, Table 13.8). -/

/-- MC0 stores an image to DRAM at LOAD in whole words (step 4); one whose header fails is not copied. -/
def bootCopy (img : List Byte) : Act := fun s =>
  if imgHead s img then each (wordChunks (img.length + 1) (imgLoad img) img) (fun c => reqPut .mc0 true c.1 c.2) s else []

/-- MC0 runs firmware (step 7). [DESIGN CHOICE, log 31, unsafe] -/
def bootGo (slot : Nat) : Act := fun s =>
  [.fld Reg.RST_BOOT 31 25 (7 * 8 + slot * 2 + (if unsealed then 1 else 0)),
   updRst (fun r => { r with cores := setAt r.cores 0 .running, uartWait := false, bootUs := s.dyn.us }),
   updLog (fun l => { l with slot := if slot = 3 then 0 else slot })]

/-- The boot has failed (R408). -/
def bootHalt : Act := fun _ =>
  [updRst (fun r => { r with cores := setAt r.cores 0 .halted, uartWait := false, faultN := true, faultPll := false })]

/-- Neither slot passes: the ERR code is not stated, but for being set. [DESIGN CHOICE, log 31, unsafe] -/
def bootFail : Act := fun s =>
  [.draw, .fld Reg.RST_BOOT 15 0 (1 + s.fresh % 65535), .fld Reg.RST_BOOT 31 28 6] ++
    (if s.dyn.rst.bootMode = 2 then [updRst (fun r => { r with uartWait := true })] else bootHalt s)

/-- Steps 4 to 7, with the second slot if the first fails (step 6). -/
def bootSlots (first : Nat) : Act := fun s =>
  let other := 3 - first
  if imgOk s (slotImage s first) then seqs [bootCopy (slotImage s first), bootGo first] s
  else seqs [bootCopy (slotImage s first), fun s =>
    if imgOk s (slotImage s other) then seqs [bootCopy (slotImage s other), bootGo other] s
    else seqs [bootCopy (slotImage s other), bootFail] s] s

/-- Step 2: DRAM is trained unless D3 was not reset. -/
def bootTrain (trained : BitVec 4) : Act := fun s =>
  if s.fld Reg.MEM_TRAIN_STAT 7 4 = 0xF then []
  else match memGiB (s.reg Reg.MEM_CFG) with
    | none => [.reg Reg.MEM_TRAIN_STAT 0xF, .sq Reg.MEM_STAT 8]
    | some _ => seqs [memRstRelease, trainEnd trained] s

/-- BOOT_ROM_RUN (R406-R408): MC0 runs the boot ROM after a release of D4 once the cache serves its requests (R381); with BOOT_MODE 01b once the debug access port has
released it. `trained` are the subchannels whose training passes. [DESIGN CHOICE, log 31, unsafe] -/
def execBootRomRun (trained : BitVec 4) (s : State) : Res :=
  run (fun s =>
    if !s.dyn.rst.bootDue || !s.up 15 || !s.up 19 || !s.up 20 || !s.dyn.cch.ready || (s.dyn.rst.bootMode = 1 && !s.dyn.rst.dbgGo) then []
    else seqs [fun _ => [updRst (fun r => { r with bootDue := false })], bootTrain trained, fun s => bootSlots (slotFirst s) s] s) s

/-- BOOT_UART_IMAGE (R408). [DESIGN CHOICE, log 31, unsafe] -/
def execBootUartImage (image : List Byte) (s : State) : Res :=
  run (fun s =>
    if !s.dyn.rst.uartWait || !s.up 15 || !s.dyn.cch.ready then []
    else if imgOk s image then seqs [bootCopy (image.take (512 + imgLen image)), bootGo 3] s
    else bootHalt s) s

/-! Firmware commands (R305, R455, Table 10.4). -/

/-- The slot record is written into the other sector, after erasing it, with SEQ one higher (R455). [DEDUCED, log 32, unsafe] -/
def slotWrite (slot : Nat) : Act := fun s =>
  let p := match slotBest s with
    | some (k, seq, _) => (1 - k, seq + 1)
    | none => (0, 1)
  let b := leBytes 4 0x5A3E5107 ++ leBytes 4 p.2 ++ [b8 slot, 0, 0, 0]
  [.nor (0x20000 + 4096 * p.1) (b ++ leBytes 4 (crc32c b).toNat ++ List.replicate 4080 0xFF)]

/-- The downloaded image: parts later downloaded win; what no part gave is 0xFF. -/
def downloaded (s : State) : List Byte :=
  let parts := s.dyn.log.image
  let n := parts.foldl (fun m p => max m (p.1 + p.2.length)) 0
  (List.range n).map (fun i => match parts.find? (fun p => p.1 ≤ i && i < p.1 + p.2.length) with
    | some p => p.2.getD (i - p.1) 0xFF
    | none => 0xFF)

/-- The slot a Firmware Commit names; 0 is the one not in use. [DEDUCED, log 32, unsafe] -/
def fwSlot (s : State) (c : HCmd) : Nat :=
  let f := (c.cdw 10).fld 2 0
  if f = 0 then (if s.dyn.log.slot = 1 then 2 else 1) else f

/-- An image is stored in a slot. [DEDUCED, log 33, unsafe] -/
def slotStore (slot : Nat) (img : List Byte) : Act := fun _ =>
  [.nor (slotOffset slot) (img ++ List.replicate ((4096 - img.length % 4096) % 4096) 0xFF)]

/-- FIRMWARE_COMMIT (R305): CA 0 stores the downloaded image, CA 1 stores it and names the slot for the next reset that reaches D4,
CA 2 names the slot. [DEDUCED, log 32, unsafe] -/
def execFirmwareCommit (cmd : CmdRef) (s : State) : Res :=
  run (withCmd cmd true 0x10 (fun c s =>
    let ca := (c.cdw 10).fld 5 3
    let slot := fwSlot s c
    let img := downloaded s
    if 3 ≤ ca || !s.up 19 then []
    else if 2 < slot then finish c invField s
    else if s.dyn.rst.norMib = 0 then finish c (status 0 6) s
    else if !imgOk s (if ca = 2 then slotImage s slot else img) then finish c (status 1 7) s
    else seqs [if ca = 2 then skip else slotStore slot img, if ca = 0 then skip else slotWrite slot,
      finish c (if ca = 0 then okCpl else status 1 0x0B)] s)) s

/-- A command in flight: started and not ended (R303). -/
def HCmd.inFlight (c : HCmd) : Bool := c.done.isNone && c.work != .idle && c.work != .aer

/-- The first stage of an activation: the check, then fetching stops (R305, steps 1 and 2). [DEDUCED, log 33, unsafe] -/
def activateStart (c : HCmd) : Act := fun s =>
  let slot := fwSlot s c
  if (c.cdw 10).fld 5 3 ≠ 3 || !s.up 19 then []
  else if 2 < slot then finish c invField s
  else if s.dyn.rst.norMib = 0 then finish c (status 0 6) s
  else if !imgOk s (slotImage s slot) then finish c (status 1 7) s
  else seqs [fun _ => [updHq (fun h => { h with hold := true }), updCmd c.no (fun x => { x with work := .fw slot 1 })],
    raiseAll (aecBit 9) (eventDw 2 1 3) true] s

/-- The second: once nothing is in flight the write buffer goes to the media; then the slot is recorded and the cores are reset
(steps 2 to 4). [DEDUCED, log 33, unsafe] -/
def activateSwitch (c : HCmd) (slot : Nat) : PAct := fun s =>
  if s.dyn.hq.cmds.any (fun x => x.no != c.no && x.inFlight) then []
  else seqsP [lift drainAll, lift waitEnds, fun s =>
    if !s.dyn.zn.buf.isEmpty then []
    else seqsP [lift (slotWrite slot), fun _ => [.eff (updCmd c.no (fun x => { x with work := .fw slot 2 }))],
      assertSrc ⟨.activate, 1, 0⟩, lift (releaseSrc (isSrc .activate 1))] s] s

/-- The third: the new image runs, fetching resumes and the command completes (step 5). [DEDUCED, log 33, unsafe] -/
def activateEnd (c : HCmd) : Act := fun s =>
  if s.up 15 && s.dyn.rst.cores.getD 0 .waiting == .running then
    seqs [fun _ => [updHq (fun h => { h with hold := false })], finish c okCpl] s
  else []

/-- FIRMWARE_ACTIVATE (R305): Firmware Commit with CA 3, one stage at a time. -/
def execFirmwareActivate (cmd : CmdRef) (s : State) : Res :=
  runP (fun s =>
    match s.cmdBy cmd (fun c => c.done.isNone && c.work != .idle) with
    | some c =>
      (match c.work with
        | .fw slot 1 => activateSwitch c slot s
        | .fw _ _ => lift (activateEnd c) s
        | _ => [])
    | none => lift (withCmd cmd true 0x10 activateStart) s) s

/-- FIRMWARE_IMAGE_DOWNLOAD (Table 10.2): a part of an image of at most 8 MiB. -/
def execFirmwareImageDownload (cmd : AdminCmd) (data : Option (List Byte)) (s : State) : Res :=
  run (withCmd cmd.cmd true 0x11 (fun c s =>
    let n := 4 * ((c.cdw 10).toNat + 1)
    let o := 4 * (c.cdw 11).toNat
    if 0x800000 < o + n then finish c invField s
    else withData c cmd.list data n (fun d =>
      seqs [fun _ => [updLog (fun l => { l with image := (o, d) :: l.image })], finish c okCpl]) s)) s

end Sys2Proof.Machine
end

