-- ==== Sys2Proof/Machine/Ports.lean ====
section
/-! DEFINITION. The test access port (R476, R477), the management core halt of the debug port (R479), the motor serial port
(R492-R495) and the pads (R490, R511). -/

namespace Sys2Proof.Machine

/-! The test access port. -/

/-- POR holds the test access port in Test-Logic-Reset; it is out of reset otherwise (R476). [PRESUMED, log 22, unsafe] -/
def tapUp (s : State) : Bool := !(s.dyn.rst.asserted.any (fun r => r.src == .por))

/-- Change the test access port. -/
def updTap (g : TapD → TapD) : Eff := .upd (fun d => { d with tap := g d.tap })

/-- The `n` low bits of a number, least significant first: the order in which a register is shifted. -/
def bitsLE (n v : Nat) : List Bool := (List.range n).map (fun i => v.testBit i)

/-- SAMPLE/PRELOAD (Table 16.6; any code it does not list acts as BYPASS). -/
def Tap.sample : Nat := 0x01
/-- IDCODE. -/
def Tap.idcode : Nat := 0x02
/-- DBG_ACCESS. -/
def Tap.dbg : Nat := 0x20

/-- What IDCODE reads (R476). -/
def idcodeWord : Word := 0x16440B47

/-- The gates whose block holds them high, by actuator and path. -/
def highGates (s : State) : List (Nat × Nat) :=
  (List.range 4).flatMap (fun a => ((List.range 4).filter (fun j => (s.path a j).wg)).map (fun j => (a, j)))

/-- The instruction register takes a code: under EXTEST the gates stand at their inactive level, and after it they show their
block's level again (R477). [PRESUMED, log 22, unsafe] -/
def tapSelect (code : Nat) : Act := fun s =>
  let now := code == Tap.extest
  updTap (fun t => { t with ir := code }) ::
    (if now == extest s then [] else (highGates s).map (fun p => .emit (.gate p.1 p.2 (!now) 0)))

/-- EXTEST (R477): the boundary cells drive the balls from now on, gates and links at their inactive level. [PRESUMED, log 22, unsafe] -/
def execExtest (s : State) : Res := run (fun s => if tapUp s then tapSelect Tap.extest s else []) s

/-- SAMPLE_PRELOAD (R476): the cells' captured levels leave, and the cells take the bits shifted in. The levels on the balls are
free. [PRESUMED, log 22, unsafe] -/
def execSamplePreload (shift : List Bool) (s : State) : Res :=
  run (fun s =>
    if tapUp s then
      [.emit (.tdo (bitsLE shift.length s.fresh)), .draw, updTap (fun t => { t with cells := shift })] ++ tapSelect Tap.sample s
    else []) s

/-- IDCODE (R476): the identification register is selected and shifted out. -/
def execIdcode (s : State) : Res :=
  run (fun s =>
    if tapUp s then tapSelect Tap.idcode s ++ [.emit (.tdo (bitsLE 32 idcodeWord.toNat))] else []) s

/-- BYPASS (R476): 0xFF, or any code Table 16.6 does not list, selects the bypass register. A code it lists belongs to another
command and changes nothing here. [PRESUMED, log 22, unsafe] -/
def execBypass (code : BitVec 8) (s : State) : Res :=
  run (fun s =>
    let c := code.toNat
    if tapUp s && !(c = Tap.extest || c = Tap.sample || c = Tap.idcode || c = Tap.dbg) then
      tapSelect c s ++ [.emit (.tdo [false])]
    else []) s

/-- TRST_N_ASSERT (R476): Test-Logic-Reset selects IDCODE. -/
def execTrstNAssert (s : State) : Res := run (seqs [tapSelect Tap.idcode, fun _ => [updTap (fun _ => {})]]) s

/-! Core halt (R479). -/

/-- A write of DBG_CORE: HALT bit c set by the debug port halts MCc while HALT_EN is 1; a bit it writes as 0 resumes the core,
unless PS5 holds it. Writes by others change nothing. [DEDUCED, log 21, unsafe] -/
def hDbgCore (init : Initiator) (data : Word) : Act := fun s =>
  if init != .jtag then []
  else
    let old := s.fld Reg.DBG_CORE 3 0
    let new := if s.bit Reg.SYS_DBG_EN 1 then data.fld 3 0 else Nat.land old (data.fld 3 0)
    [.fld Reg.DBG_CORE 3 0 new,
     updRst (fun r => { r with
        dbgGo := r.dbgGo || !data.bit 0
        cores := (List.range 4).map (fun c =>
          let x := r.cores.getD c .waiting
          if new.testBit c && x == .running then .halted
          else if !new.testBit c && old.testBit c && x == .halted && (c = 0 || s.dyn.pwr.ps < 5) then .running else x) })]

/-- DBG_CORE_HALT_WRITE (R479). -/
def execDbgCoreHaltWrite (init : Initiator) (data : Word) (s : State) : Res :=
  run (wrAccess init Reg.DBG_CORE (hDbgCore init data)) s

/-- DBG_CORE with HALTED. -/
def viewDbgCore (s : State) : Word :=
  (s.reg Reg.DBG_CORE).setFld 7 4 ((List.range 4).foldl (fun m c =>
    if s.bit Reg.DBG_CORE c || s.dyn.rst.cores.getD c .waiting == .halted then m + 2 ^ c else m) 0)

/-! The motor serial port (R493-R495). -/

/-- Change the motor serial port. -/
def updMpd (g : MpdD → MpdD) : Eff := .upd (fun d => { d with mpd := g d.mpd })

/-- The bytes of a frame the device sends, in the formats of R135. -/
def mpdFrame (cmd : Word) : List Byte :=
  let h := [b8 (cmd.fld 31 24), b8 (cmd.fld 23 16)]
  let w := h ++ [b8 (cmd.fld 15 8), b8 (cmd.fld 7 0)]
  if cmd.bit 31 then h else w ++ [crc8 w]

/-- A write of MPD_CMD (R493): a frame while the port runs; discarded with MPD_BUSY while one is in progress. [DEDUCED, log 20, unsafe] -/
def hMpdCmd (data : Word) : Act := fun s =>
  if s.dyn.mpd.cmd.isSome then [.sq Reg.PAD_STAT 4]
  else if s.bit Reg.MPD_CTL 8 then [.emit (.motor (mpdFrame data)), updMpd (fun m => { m with cmd := some data })]
  else []

/-- MPD_CMD_WRITE (R493). -/
def execMpdCmdWrite (init : Initiator) (data : Word) (s : State) : Res :=
  run (wrAccess init Reg.MPD_CMD (hMpdCmd data)) s

/-- MPD_DONE (R493): the frame ends; a read leaves its data and whether its CRC was right in MPD_RDATA. [DEDUCED, log 20, unsafe] -/
def execMpdDone (rdata : BitVec 16) (crcOk : Bool) (s : State) : Res :=
  run (fun s =>
    match s.dyn.mpd.cmd with
    | none => []
    | some c =>
      if s.up 1 then
        (if c.bit 31 then [.reg Reg.MPD_RDATA (w32 (rdata.toNat + 2 ^ 16 + (if crcOk then 0 else 2 ^ 17)))] else []) ++
        [updMpd (fun m => { m with cmd := none }), .sq Reg.PAD_STAT 2]
      else []) s

/-- MPD_FAULT (R495): MPD_FAULT_N falls. [DEDUCED, log 20, unsafe] -/
def execMpdFault (s : State) : Res :=
  run (fun s => updMpd (fun m => { m with low := true }) :: (if s.up 1 then [.sq Reg.PAD_STAT 1] else [])) s

/-! Pads (R490, R511). -/

/-- PAD_FE_WRITE (R490): the front-end resets and FW_FAULT. -/
def execPadFeWrite (init : Initiator) (data : Word) (s : State) : Res :=
  run (wrAccess init Reg.PAD_FE (plainWrite Reg.PAD_FE data)) s

/-- The word a pad register's balls show: the one latched while the pads are held (R405), else the register's. [DEDUCED, log 70, unsafe] -/
def padWord (s : State) (a : Nat) : Word :=
  match s.dyn.rst.padHeld.find? (fun p => p.1 == a) with
  | some p => p.2
  | none => s.reg a

/-- PAD_FE with the fault levels. -/
def viewPadFe (s : State) : Word :=
  ((s.reg Reg.PAD_FE).setFld 7 4 ((List.range 4).foldl (fun m a =>
    if (s.dyn.wa.getD a {}).faultN then m + 2 ^ a else m) 0)).setBit 8 s.dyn.mpd.low

/-- GPIO_IN: outputs show what they drive; what the board drives on inputs is free. [DESIGN CHOICE, log 19, unsafe] -/
def viewGpio (s : State) : Word :=
  (w32 s.fresh).merge (padWord s Reg.GPIO_DIR) (padWord s Reg.GPIO_OUT)

/-- FAULT_N is driven low: by the device, or by firmware through FW_FAULT (Tables 17.8 and 17.13). [DEDUCED, log 132, safe] -/
def faultLow (s : State) : Bool := s.dyn.rst.faultN || (padWord s Reg.PAD_FE).bit 16

/-- THERM_TRIP_N is driven low through the beached state (R423). [DEDUCED, log 132, safe] -/
def thermTripLow (s : State) : Bool := s.dyn.rst.beached

/-- While a reset holds D2, XSPI_CS_N is high and XSPI_CLK low, unless the trip-record writer has the balls (R486, R424). [DEDUCED, log 132, safe] -/
def xspiIdle (s : State) : Bool := !s.levelUp 2 && !s.dyn.aon.tripDue

/-- While a reset holds D4, both I3C balls are undriven (R487). [DEDUCED, log 132, safe] -/
def i3cUndriven (s : State) : Bool := !s.levelUp 4

/-- The level of ACTn_FE_RST_N (R490, R405). -/
def feRstN (s : State) (act : Nat) : Bool := (padWord s Reg.PAD_FE).bit act

end Sys2Proof.Machine
end

