-- ==== Sys2Proof/Machine/Ladder.lean ====
section
/-! DEFINITION. The recovery ladder: what starts it, which step comes next, how it ends (R210-R222, R237). -/

namespace Sys2Proof.Machine

/-- One more of a counter of Table 8.5 (its index in `RecD.counts`). -/
def recCount (k n : Nat) : Eff := updRcv (fun r => { r with counts := modAt r.counts k (· + n) })

/-- The lane that reads a head. -/
def headLane (h : Nat) : Nat := h / 16 * 4 + h % 4

/-- A failing frame of a head is captured (R99, R100). -/
def capturesOn (s : State) (h : Nat) : Bool := capMode s (headLane h) == 1 && (freeSlot s (headLane h)).isSome

/-- The ladder running on a sector. -/
def ladderOf (s : State) (head band sector : Nat) : Option Ladder :=
  s.dyn.rcv.ladders.find? (fun l => l.head == head && l.band == band && l.sector == sector)

/-- A ladder runs on a sector of a zone (R214). -/
def zoneLadder (s : State) (z : Nat) : Bool := s.dyn.rcv.ladders.any (fun l => zoneOf s l.head l.band == z)

/-- The run of a sector is complete, parity included (R143). -/
def runComplete (s : State) (head band sector : Nat) : Bool :=
  isConvBand s band || sector / 66 * 66 + 66 ≤ bandPtr s head band

/-- A step of Table 8.2 is left out. Steps 1 to 3 do not reach an excluded head (R196, R218). [DEDUCED, log 52, unsafe] -/
def stepSkipped (s : State) (l : Ladder) (k : Nat) : Bool :=
  match k with
  | 1 => l.caps == 0 || s.dyn.excluded.contains l.head
  | 2 => l.lr || optRereads s == 0 || s.dyn.excluded.contains l.head
  | 3 => l.lr || l.caps == 0 || s.dyn.excluded.contains l.head
  | 4 => l.origin == 2 || !runComplete s l.head l.band l.sector
  | _ => l.lr || !optTwin s || s.dyn.excluded.contains (twin l.head) || hlState s (twin l.head / 16) == 0 ||
      hlState s (twin l.head / 16) == 4

/-- The next step of a ladder; none when it has failed. -/
def nextStep (s : State) (l : Ladder) : Option Nat :=
  (List.range 6).find? (fun k => l.step < k && !stepSkipped s l k)

/-- Store a changed ladder. -/
def putLadder (l : Ladder) : Eff := updRcv (fun r => { r with
  ladders := r.ladders.map (fun x =>
    if x.head = l.head && x.band = l.band && x.sector = l.sector then l else x) })

/-- A ladder ends. -/
def dropLadder (l : Ladder) : Eff := updRcv (fun r => { r with
  ladders := r.ladders.filter (fun x =>
    x.head != l.head || x.band != l.band || x.sector != l.sector) })

/-- The block of a data sector as an event or error entry names it: in its namespace, or of the device where the event names no
namespace; all ones for parity (Table 8.6). [DEDUCED, log 54, unsafe] -/
def eventLba (s : State) (head band sector : Nat) (inNs : Bool) : Nat × Nat :=
  match lbaOf s head band sector with
  | none => (2 ^ 64 - 1, if inNs then ((zoneNs s (zoneOf s head band)).map (fun p => p.1.nsid)).getD 0 else 0)
  | some n =>
    match inNs, zoneNs s (n / zoneBlocks) with
    | true, some (ns, base) => (base + n % zoneBlocks, ns.nsid)
    | _, _ => (n, 0)

/-- A recovery event (Table 8.6), the oldest of 96 overwritten first. -/
def recEvent (l : Ladder) (step outcome : Nat) : Act := fun s =>
  let b := eventLba s l.head l.band l.sector (l.origin == 0 || l.origin == 2)
  let e : RecEvt := ⟨s.dyn.us, b.1, b.2, l.head, step, outcome, l.origin, l.band, l.sector, l.reason, l.cas⟩
  [updRcv (fun r => { r with events := (e :: r.events).take 96, nEvents := r.nEvents + 1 })]

/-! The relocation table (R221-R228). -/

/-- The table has an entry of a sector, or room for one (R228). -/
def tableTakes (s : State) (head band sector : Nat) : Bool :=
  s.dyn.media.table.length < 2097152 || (relocOf s head band sector).isSome

/-- Set the table entry of a sector, where one exists already or an entry is free; a relocation refused counts in NO_SPARE (R227). -/
def tablePut (e : Reloc) : Act := fun s =>
  if tableTakes s e.head e.band e.sector then [updMedia (fun m => tableSet m e)] else if e.state = 3 then [] else [recCount 8 1]

/-- PENDING data held in DRAM, while fewer than PEND_MAX sectors are (R224). -/
def pendPut (head band sector : Nat) (info : List Byte) : Act := fun s =>
  let old := s.dyn.rcv.pend.filter (fun x => x.head != head || x.band != band || x.sector != sector)
  if old.length < optPendMax s || 67584 ≤ bandPtr s head band then
    [updRcv (fun r => { r with pend := ⟨head, band, sector, info, false⟩ :: old })]
  else []

/-- A sector recovered at RELOC_STEP or later is to be relocated: at once in a conventional band, once the band has filled in
a shingled one (R222, R224). -/
def relocDue (l : Ladder) (step : Nat) (info : List Byte) : Act := fun s =>
  if isConvBand s l.band then
    [updRcv (fun r => { r with
      reloc := (⟨l.head, l.band, l.sector, info, false⟩, step) ::
        r.reloc.filter (fun x => x.1.head != l.head || x.1.band != l.band || x.1.sector != l.sector) })]
  else seqs [tablePut ⟨l.head, l.band, l.sector, 0, 2, step, false⟩, pendPut l.head l.band l.sector info] s

/-- A step recovers the sector. -/
def ladderWin (l : Ladder) (step : Nat) (info : List Byte) : Act := fun s =>
  let moves := optRelocStep s ≤ step || (relocOf s l.head l.band l.sector).any (fun r => r.state == 2)
  seqs [fun _ => [dropLadder l, recCount step 1,
      updRcv (fun r => { r with
        got := ⟨l.head, l.band, l.sector, info, false⟩ :: r.got.filter (fun x =>
          x.head != l.head || x.band != l.band || x.sector != l.sector) })],
    recEvent l step (if moves && !isConvBand s l.band && tableTakes s l.head l.band l.sector then 3 else 0),
    if moves then relocDue l step info else skip, settle] s

/-! Commands that read. -/

/-- The blocks a read works on, with its namespace. -/
def HCmd.readSpan (c : HCmd) : Option (Nat × Nat × Nat × Bool) :=
  match c.work with
  | .rd nsid lba n lr => some (nsid, lba, n, lr)
  | .drd nsid lba n _ _ => some (nsid, lba, n, false)
  | _ => none

/-- A read or derive read still waits for a sector. -/
def waitsFor (s : State) (head band sector : Nat) (c : HCmd) : Bool :=
  match c.readSpan, lbaOf s head band sector with
  | some (nsid, lba, n, _), some d =>
    c.done.isNone && (zoneNs s (d / zoneBlocks)).any (fun p => p.1.nsid == nsid && lba ≤ p.2 + d % zoneBlocks &&
      p.2 + d % zoneBlocks < lba + n)
  | _, _ => false

/-- A read ends with Unrecovered Read Error, its first unrecovered block in the Error Information log (R219). -/
def readFail (c : HCmd) (lba : Nat) : Act := fun s =>
  seqs [fun _ => [updLog (fun g => { g with
      nErr := g.nErr + 1, media := g.media + 1,
      errs := (⟨g.nErr + 1, c.sqid, c.cid, 0x502, lba, (c.readSpan.map (fun p => p.1)).getD 0⟩ :: g.errs).take 64 })],
    finish c (status 2 0x81)] s

/-- The ladder fails: UNREC, and every command that waits for the sector ends (R219, R221). -/
def ladderFail (l : Ladder) : Act := fun s =>
  let waiting := s.dyn.hq.cmds.filter (waitsFor s l.head l.band l.sector)
  let lba := (eventLba s l.head l.band l.sector true).1
  seqs [fun _ => [dropLadder l, recCount 6 1,
      updRcv (fun r => { r with pend := r.pend.filter (fun x => x.head != l.head || x.band != l.band || x.sector != l.sector) })],
    tablePut ⟨l.head, l.band, l.sector, 0, 3, 6, false⟩, recEvent l 6 1, trigger 4 (l.head / 16),
    each waiting (fun c => readFail c lba), settle] s

/-- A ladder whose remaining steps are all left out has failed. -/
def ladderGo (l : Ladder) : Act := fun s =>
  if (nextStep s l).isNone then ladderFail l s else []

/-- A sector's ladder starts, or the one that runs serves this reader too (R211, R213). `line` says that a read of the sector has failed
at line rate; a sector of a head out of use is not read (R196). [DEDUCED, log 52, unsafe] -/
def startLadder (line : Bool) (l : Ladder) : Act := fun s =>
  match ladderOf s l.head l.band l.sector with
  | some x => [putLadder { x with lr := x.lr && l.lr }]
  | none =>
    seqs [fun s => if line && !s.dyn.excluded.contains l.head then [recCount 0 1] else [],
      fun _ => [updRcv (fun r => { r with ladders := r.ladders ++ [l] })], ladderGo l] s

/-- What a read of a sector's stored frame gives once a step has decoded it: the frame, or the spare's. [DEDUCED, log 52, unsafe] -/
def storedInfo (s : State) (head band sector : Nat) : Option (List Byte) :=
  let z := zoneOf s head band
  let k := sectKind s z sector
  let e := epochOf s z
  match relocOf s head band sector with
  | some r =>
    if r.state = 1 then (s.msec head band (67584 + r.spare)).map (fun m =>
      m.info.take 4096 ++ metaTag head band sector k e ++ m.info.drop 4104)
    else (s.msec head band sector).map (fun m => m.info)
  | none => (s.msec head band sector).map (fun m => m.info)

/-- Decoded bytes pass the checks of R97 for a sector. [DEDUCED, log 52, unsafe] -/
def infoOk (s : State) (head band sector : Nat) (info : List Byte) : Bool :=
  let z := zoneOf s head band
  frameChecks head band sector (sectKind s z sector) (epochOf s z) info == 0

/-- A step ends: the decode succeeded or not. -/
def stepEnd (l : Ladder) (k : Nat) (ok : Bool) : Act := fun s =>
  match ok, storedInfo s l.head l.band l.sector with
  | true, some info => if infoOk s l.head l.band l.sector info then ladderWin l k info s
    else seqs [fun _ => [putLadder { l with step := k }], ladderGo { l with step := k }] s
  | _, _ => seqs [fun _ => [putLadder { l with step := k }], ladderGo { l with step := k }] s

end Sys2Proof.Machine
end

