-- ==== Sys2Proof/Machine/Io.lean ====
section
/-! DEFINITION. I/O commands (R278-R301, R315, R319): validation in the order of R279, data movement, commit, zone actions. -/

namespace Sys2Proof.Machine

/-! Zones a command touches. -/

/-- The device zones of a range of a namespace. -/
def spanZones (n : Ns) (lba blocks : Nat) : List Nat :=
  (List.range ((lba + blocks - 1) / zoneBlocks + 1 - lba / zoneBlocks)).map (fun i => n.zones.getD (lba / zoneBlocks + i) 0)

/-- ZSA of a Zone Management Send. -/
def HCmd.zsa (c : HCmd) : Nat := (c.cdw 13).fld 7 0
/-- Select All. -/
def HCmd.all (c : HCmd) : Bool := (c.cdw 13).bit 8

/-- The device zones a command works on, before or after it has been validated. -/
def HCmd.zonesOf (s : State) (c : HCmd) : List Nat :=
  match c.work with
  | .wr nsid lba n _ _ _ => (nsAny s nsid).elim [] (fun x => spanZones x lba n)
  | .rd nsid lba n _ => (nsAny s nsid).elim [] (fun x => spanZones x lba n)
  | .drd nsid lba n _ _ => (nsAny s nsid).elim [] (fun x => spanZones x lba n)
  | .zact _ zs => zs
  | .idle =>
    if c.admin then []
    else match nsOf s c.nsid with
      | none => []
      | some x =>
        if c.op = 1 || c.op = 2 || c.op = 0x83 then
          (if c.slba + c.nlb < nsSize x && c.nlb < 2048 then spanZones x c.slba (c.nlb + 1) else [])
        else if c.op = 0x7D then (if c.slba < nsSize x then [nsZone x c.slba] else [])
        else if c.op = 0x79 then (if c.all then x.zones else if c.slba < nsSize x then [nsZone x c.slba] else [])
        else []
  | _ => []

/-- A command fetched earlier, not yet ended, that works on one of the zones. -/
def earlier (s : State) (c : HCmd) (zs : List Nat) (p : HCmd → Bool) : Bool :=
  s.dyn.hq.cmds.any (fun x => x.no < c.no && x.done.isNone && p x && (x.zonesOf s).any (fun z => zs.contains z))

/-- A zone action, validated or not. -/
def HCmd.isAction (c : HCmd) : Bool :=
  match c.work with
  | .zact _ _ => true
  | .idle => c.op == 0x79 && !c.admin
  | _ => false

/-- A write or append that has not been validated. -/
def HCmd.newWrite (c : HCmd) : Bool := c.work == .idle && !c.admin && (c.op == 1 || c.op == 0x7D)

/-- The scan of a zone, or the track read after it, is still to come (R236). -/
def scanDue (s : State) (z : Nat) : Bool := s.dyn.zn.scan.contains z || s.dyn.zn.track.any (fun t => t.1 == z)

/-- The device holds a command to these zones: their scan is not over (R236), or an action fetched before has still to take
effect (R298); a write also follows the writes fetched before it (R294). [DEDUCED, log 48, unsafe] -/
def held (s : State) (c : HCmd) (zs : List Nat) : Bool :=
  zs.any (scanDue s) ||
  earlier s c zs HCmd.isAction || (c.newWrite && earlier s c zs HCmd.newWrite)

/-! Checks 8 and 9: the pointers of R294 and Table 10.6. -/

/-- Blocks of a zone's accepted writes and appends not yet committed. -/
def acceptedBlocks (s : State) (z : Nat) : Nat :=
  (s.dyn.hq.cmds.filter (fun c => c.uncommitted && (c.wzones s).contains z)).foldl (fun n c =>
    n + (match c.work with
      | .wr _ _ k _ _ _ => k
      | _ => 0)) 0

/-- The fetch pointer of a zone (R294). -/
def fetchPtr (s : State) (z : Nat) : Nat := (zoneAt s z).wp + acceptedBlocks s z

/-- Table 10.6 for a write or append of `n` blocks to a zoned namespace. [DEDUCED, log 48, unsafe] -/
def zoneCheck (s : State) (x : Ns) (lba n : Nat) (app : Bool) : Option Cpl :=
  let z := nsZone x lba
  let st := (zoneAt s z).st
  let fp := fetchPtr s z
  if st = 14 then some (status 1 0xB9)
  else if st = 13 then some (status 1 0xBA)
  else if st = 15 then some (status 1 0xBB)
  else if !app && lba % zoneBlocks ≠ fp then some (status 1 0xBC)
  else if app && lba % zoneBlocks ≠ 0 then some invField
  else if zoneBlocks < fp + n then some (status 1 0xB8)
  else if st = 1 && 1024 ≤ activeCount s then some (status 1 0xBD)
  else if (st = 1 || st = 4) && 256 ≤ openCount s && (lruOpen s).isNone then some (status 1 0xBE)
  else none

/-- The same for a conventional one: a zone may be Read Only (R290, R300). [DEDUCED, log 50, unsafe] -/
def convCheck (s : State) (x : Ns) (lba n : Nat) : Option Cpl :=
  if (spanZones x lba n).any (fun z => (zoneAt s z).st == 13) then some (status 1 0xBA) else none

/-- Key Slot Empty (R277). -/
def keyCheck (s : State) (x : Ns) : Option Cpl := if keyOk s x then none else some (status 7 0x81)

/-- The first check of a list that fails. -/
def firstOf : List (Option Cpl) → Option Cpl
  | [] => none
  | some r :: _ => some r
  | none :: cs => firstOf cs

/-- A check of a condition that must not hold. -/
def refuse (b : Bool) (r : Cpl) : Option Cpl := if b then some r else none

/-- A command of an I/O queue to a namespace in service (checks 1 and 2 of R279); a zoned command goes to zoned ones only. -/
def withNs (cmd : CmdRef) (op : Nat) (zoned : Bool) (k : HCmd → Link → Ns → Act) : Act :=
  withCmd cmd false op (fun c s =>
    match s.link? c.link, nsOf s c.nsid with
    | some l, some x => if zoned && !x.zoned then finish c (status 0 1) s else k c l x s
    | some _, none => finish c (status 0 0x0B) s
    | none, _ => [])

/-- Checks 4 and 5 (R280). -/
def rangeChecks (x : Ns) (c : HCmd) : List (Option Cpl) :=
  [refuse (2048 ≤ c.nlb) invField, refuse (nsSize x ≤ c.slba + c.nlb) (status 0 0x80)]

/-- A write or append is accepted: it opens an Empty or Closed zone (R293). -/
def acceptWrite (c : HCmd) (x : Ns) (app : Bool) (ps : List Piece) : Act := fun s =>
  let z := nsZone x c.slba
  let st := (zoneAt s z).st
  seqs [fun _ => [updCmd c.no (fun k => { k with
        dptr := ps
        work := .wr x.nsid c.slba (c.nlb + 1) app ((c.cdw 12).bit 30 || !s.dyn.zn.wce) none })],
    if !x.zoned then skip
    else seqs [if st = 1 || st = 4 then seqs [makeOpenRoom, zoneTo z 2] else skip,
      fun s => [putZone { zoneAt s z with used := c.no + 1 }]]] s

/-- WRITE (R279, R284): validation, and acceptance. -/
def execWrite (cmd : CmdRef) (list : Option (List Byte)) (s : State) : Res :=
  run (withNs cmd 0x01 false (fun c l x s =>
    if held s c (c.zonesOf s) then []
    else match firstOf ([refuse ((c.cdw 12).fld 29 26 ≠ 0 || (c.cdw 12).fld 23 20 ≠ 0 || (c.cdw 12).bit 24) invField] ++
        rangeChecks x c ++ [dptrCheck l c ((c.nlb + 1) * 4096) list,
        if x.zoned then zoneCheck s x c.slba (c.nlb + 1) false else convCheck s x c.slba (c.nlb + 1), keyCheck s x]) with
      | some r => finish c r s
      | none => acceptWrite c x false (dptrPieces l c ((c.nlb + 1) * 4096) list) s)) s

/-- ZONE_APPEND (R296). -/
def execZoneAppend (cmd : CmdRef) (list : Option (List Byte)) (s : State) : Res :=
  run (withNs cmd 0x7D true (fun c l x s =>
    if held s c (c.zonesOf s) then []
    else match firstOf (rangeChecks x c ++ [dptrCheck l c ((c.nlb + 1) * 4096) list, zoneCheck s x c.slba (c.nlb + 1) true,
        keyCheck s x]) with
      | some r => finish c r s
      | none => acceptWrite c x true (dptrPieces l c ((c.nlb + 1) * 4096) list) s)) s

/-- A zone of the range is Offline (R291). -/
def offlineCheck (s : State) (x : Ns) (lba n : Nat) : Option Cpl :=
  refuse ((spanZones x lba n).any (fun z => (zoneAt s z).st == 15)) (status 1 0xBB)

/-- READ (R279, R291). -/
def execRead (cmd : CmdRef) (list : Option (List Byte)) (s : State) : Res :=
  run (withNs cmd 0x02 false (fun c l x s =>
    if held s c (c.zonesOf s) then []
    else match firstOf ([refuse ((c.cdw 12).fld 29 26 ≠ 0) invField] ++ rangeChecks x c ++
        [dptrCheck l c ((c.nlb + 1) * 4096) list, offlineCheck s x c.slba (c.nlb + 1), keyCheck s x]) with
      | some r => finish c r s
      | none => [updCmd c.no (fun k => { k with
          dptr := dptrPieces l c ((c.nlb + 1) * 4096) list, work := .rd x.nsid c.slba (c.nlb + 1) ((c.cdw 12).bit 31) })])) s

/-- DERIVE_READ (R315): validation and the read of the recipe. -/
def execDeriveRead (cmd : CmdRef) (list : Option (List Byte)) (recipe : Option (List Byte)) (s : State) : Res :=
  run (withNs cmd 0x83 false (fun c l x s =>
    let rlen := (c.cdw 13).fld 15 0
    let olen := (c.cdw 14).toNat
    if held s c (c.zonesOf s) then []
    else match firstOf ([refuse (leAt c.sqe 16 8 % 64 ≠ 0 || rlen = 0 || 1024 < rlen || olen = 0 || 8388608 < olen) invField] ++
        rangeChecks x c ++ [dptrCheck l c olen list, offlineCheck s x c.slba (c.nlb + 1), keyCheck s x]) with
      | some r => finish c r s
      | none =>
        seqs [getHost l [⟨leAt c.sqe 16 8, ringKey l, 64 * rlen⟩], match recipe with
          | none => finish c (status 0 4)
          | some r => fun _ => [updCmd c.no (fun k => { k with
              dptr := dptrPieces l c olen list, work := .drd x.nsid c.slba (c.nlb + 1) (fit (64 * rlen) r) olen })]] s)) s

/-! Writes: data and commit. -/

/-- The SMART counts of a command that has moved data: 512-byte units and commands, read or written (R5). [DEDUCED, log 113, unsafe] -/
def smartIo (wr : Bool) (bytes : Nat) : Eff := updLog (fun g => { g with smart :=
  if wr then { g.smart with wrUnits := g.smart.wrUnits + (bytes + 511) / 512, wrCmds := g.smart.wrCmds + 1 }
  else { g.smart with rdUnits := g.smart.rdUnits + (bytes + 511) / 512, rdCmds := g.smart.rdCmds + 1 } })

/-- Bytes in the write buffer, pulled data that is not committed included. -/
def bufUsed (s : State) : Nat :=
  4096 * s.dyn.zn.buf.length + s.dyn.hq.cmds.foldl (fun n c =>
    n + (match c.uncommitted, c.work with
      | true, .wr _ _ _ _ _ (some d) => d.length
      | _, _ => 0)) 0

/-- WRITE_DATA_PULL (R257, R284): the data of a write comes into the write buffer where there is room; none is a host memory or
RDMA error. -/
def execWriteDataPull (cmd : CmdRef) (data : Option (List Byte)) (s : State) : Res :=
  run (fun s =>
    match s.cmdBy cmd (fun c => c.uncommitted && !c.orphan) with
    | none => []
    | some c =>
      match c.work, s.link? c.link with
      | .wr nsid lba n app fua none, some l =>
        if !hqUp s || !linkLive s c.link || !reqReady s || optWbuf s * 1048576 < bufUsed s + 4096 * n then []
        else (match data with
          | none => failWrite c (status 0 4) s
          | some d => seqs [getHost l c.dptr,
              fun _ => [updCmd c.no (fun k => { k with work := .wr nsid lba n app fua (some (fit (4096 * n) d)) })]] s)
      | _, _ => []) s

/-- Blocks of committed data as the buffer holds them. A block that replaces one still in the buffer keeps that one's place in
the order of commits and its age (R286, R289). [DEDUCED, log 50, unsafe] -/
def bufAdd (s : State) (x : Ns) (lba n : Nat) (d : List Byte) (buf : List WBlk) : List WBlk :=
  (List.range n).foldl (fun b i =>
    let z := nsZone x (lba + i)
    let k := (lba + i) % zoneBlocks
    let new := slice d (4096 * i) 4096
    if b.any (fun w => w.zone == z && w.blk == k) then
      b.map (fun w => if w.zone = z && w.blk = k then { w with data := new } else w)
    else b ++ [⟨z, k, new, s.dyn.zn.commits + 1, s.dyn.us, false⟩]) buf

/-- A zone's write pointer moves on (R294, R295): Full at its end; a save falls due every 65,536 blocks (R231). A zone closed since
the write was accepted is opened again (R293); one made Read Only stays so (R300). -/
def advanceWp (z n : Nat) : Act := fun s =>
  let x := zoneAt s z
  let saved := ((s.dyn.media.saved.find? (fun y => y.zone == z)).map (fun y => y.wp)).getD 0
  let wp := x.wp + n
  let opens := x.st = 1 || x.st = 4
  if x.st = 13 then [putZone { x with wp := wp }]
  else seqs [if opens then makeOpenRoom else skip, fun _ => [putZone { x with
    wp := wp
    st := if wp = zoneBlocks then 14 else if opens then 2 else x.st
    due := x.due || opens || wp = zoneBlocks || 65536 ≤ wp - saved }]] s

/-- Derive sources that share a block with a range are held no longer (R350). -/
def endHolds (nsid lba n : Nat) : Eff := updShl (fun d => { d with
    holds := d.holds.filter (fun h => h.nsid != nsid || h.lba + h.nlb < lba || lba + n ≤ h.lba) })

/-- WRITE_COMMIT (R285, R287, R296): the data joins the write buffer; with FUA it goes to the media first, with the zone's earlier
data. A FUA write whose key has gone ends after two failed transfers (R290, R319). -/
def execWriteCommit (cmd : CmdRef) (s : State) : Res :=
  run (fun s =>
    match s.cmdBy cmd (fun c => c.uncommitted && c.work.hasData) with
    | none => []
    | some c =>
      match c.work with
      | .wr nsid lba n app fua (some d) =>
        (match nsAny s nsid with
          | none => failWrite c (status 0 0x0B) s
          | some x =>
            let zs := c.wzones s
            let at_ := if app then lba + (zoneAt s (nsZone x lba)).wp else lba
            let slow := fua || !s.dyn.zn.wce
            if !reqReady s || s.dyn.hq.cmds.any (fun y => y.no < c.no && y.uncommitted &&
                (y.wzones s).any (fun z => zs.contains z)) then []
            else
              let put : Act := fun s => [endHolds nsid at_ n, updZn (fun d' => { d' with
                  buf := bufAdd s x at_ n d d'.buf, commits := d'.commits + 1 })]
              let done : Act := seqs [if x.zoned then advanceWp (nsZone x lba) n else skip,
                fun _ => [smartIo true d.length], finish c (if app then { dw0 := at_ % 2 ^ 32, dw1 := at_ / 2 ^ 32 } else {})]
              if !slow then seqs [put, done] s
              else
                let s1 := applyAll s (put s)
                if !(zs.all (zoneReady s1)) then []
                else if !(keyOk s x) then seqs [each zs (fun z s => faultZone z (bufChunks s z ++ c.wchunks s z) s), waitEnds] s
                else seqs [put, each zs drainZone, done, waitEnds] s)
      | _ => []) s

/-! Reads. -/

/-- A block as a read gets it: from the write buffer, as zeros where nothing is written in a zoned namespace, or from the media
(R291, R299); none where the sector cannot be read without a ladder, or one runs on it (R213). -/
def blockData (s : State) (x : Ns) (lba : Nat) : Option (List Byte) :=
  let z := nsZone x lba
  let k := lba % zoneBlocks
  match s.dyn.zn.buf.find? (fun b => b.zone == z && b.blk == k) with
  | some b => some b.data
  | none =>
    let p := placeOf s (z * zoneBlocks + k)
    if x.zoned && ((zoneAt s z).wp ≤ k || bandPtr s p.head p.band ≤ p.sector) then some (zeros 4096)
    else if (ladderOf s p.head p.band p.sector).isSome then none
    else (sectorInfo s z p.head p.band p.sector).map (fun i => crypt s false x lba (i.take 4096))

/-- The place of a namespace's block. -/
def nsPlace (s : State) (x : Ns) (lba : Nat) : Place := placeOf s (nsZone x lba * zoneBlocks + lba % zoneBlocks)

/-- A block whose sector is recorded UNREC (R221). -/
def isUnrec (s : State) (x : Ns) (lba : Nat) : Bool :=
  let p := nsPlace s x lba
  (relocOf s p.head p.band p.sector).any (fun r => r.state == 3)

/-- A read meets a sector that fails at line rate: its ladder starts, with what the read reported or, where the stored frame itself
fails, an unknown reason; the ladder that runs already serves this read too (R211, R213). -/
def readLadder (x : Ns) (lr : Bool) (o : Option SectorOutcome) (b : Nat) : Act := fun s =>
  let p := nsPlace s x b
  let l : Ladder := ⟨p.head, p.band, p.sector, 0, lr, 0, 0, 0, 0⟩
  if (ladderOf s p.head p.band p.sector).isSome then startLadder false l s
  else match o with
    | some o => startLadder true { l with caps := if o.captured then 1 else 0, reason := o.reason.val, cas := o.syncCase.val } s
    | none => seqs [fun _ => [.draw], startLadder true { l with
        caps := if capturesOn s p.head then 1 else 0, reason := 1 + s.fresh % 8, cas := s.fresh / 8 % 6 }] s

/-- A block a read takes from the media at line rate: written, not in the buffer, and recovered by no ladder yet. -/
def fromMedia (s : State) (x : Ns) (lba : Nat) : Bool :=
  let z := nsZone x lba
  let k := lba % zoneBlocks
  let p := nsPlace s x lba
  !(s.dyn.zn.buf.any (fun b => b.zone == z && b.blk == k)) &&
    !(x.zoned && ((zoneAt s z).wp ≤ k || bandPtr s p.head p.band ≤ p.sector)) &&
    !(s.dyn.rcv.got ++ s.dyn.rcv.pend).any (fun m => m.head == p.head && m.band == p.band && m.sector == p.sector)

/-- Sectors recovered for readers go once no reader waits for them. -/
def dropGot : Act := fun s =>
  [updRcv (fun r => { r with got := r.got.filter (fun m => s.dyn.hq.cmds.any (waitsFor s m.head m.band m.sector)) })]

/-- Table 10.13: what a failed task of a read or derive read completes the command with. [DEDUCED, log 51, unsafe] -/
def taskStatus (st res : Nat) : Cpl :=
  if st = 2 then { sct := 7, sc := 0x80, dw0 := res }
  else if st = 3 then { sct := 7, sc := 0x85, dw0 := res }
  else if st = 5 then { sct := 7, sc := 0x81, dw0 := res }
  else status 0 6

/-- The STATUS and RESULT with which the CHECK_ONLY task of a derive read fails on a source length (R344, R345). [DEDUCED, log 51, unsafe] -/
def deriveFault (s : State) (recipe : List Byte) (n olen : Nat) : Option (Nat × Nat) :=
  match rcCheck recipe recipe.length n olen (slotInfo s) with
  | some f => some f
  | none => (emptySlot s recipe).map (fun o => (5, o))

/-- Data goes to the host and a read ends; a host memory or RDMA error ends it with Data Transfer Error. [DESIGN CHOICE, log 98, unsafe] -/
def placeData (c : HCmd) (l : Link) (bs : List Byte) (dw0 : Nat) (hostOk : Bool) : Act :=
  seqs [if hostOk then putHost l c c.dptr bs else linkFrames l, fun _ => [smartIo false bs.length],
    finish c (if hostOk then { dw0 := dw0 } else status 0 4), dropGot]

/-- A derive source is held from its last use on, while the sources held total at most HOLD_MIB (R350). [DEDUCED, log 51, unsafe] -/
def holdSource (nsid lba n : Nat) (data : List Byte) : Act := fun s =>
  let same (h : SHold) : Bool := h.nsid == nsid && h.lba == lba && h.nlb + 1 == n
  let others := s.dyn.shl.holds.filter (fun h => !same h)
  let total := others.foldl (fun t h => t + 4096 * (h.nlb + 1)) (4096 * n)
  if s.fld Reg.SHL_HOLD 15 0 = 0 || 1048576 * s.fld Reg.SHL_HOLD 31 16 < total then []
  else [updShl (fun d => { d with holds := others ++ [⟨nsid, lba, n - 1, data⟩] })]

/-- The source a derive read takes from a hold (R350). -/
def heldSource (s : State) (nsid lba n : Nat) : Option (List Byte) :=
  (s.dyn.shl.holds.find? (fun h => h.nsid == nsid && h.lba == lba && h.nlb + 1 == n)).map (fun h => h.data)

/-- The data of a range, or what stands in its way: the actuators' other transfers (R14), the first unrecovered block, or ladders
to run (R221). `failed` gives the blocks of the range that fail at line rate. -/
def readRange (c : HCmd) (x : Ns) (lba n : Nat) (lr : Bool) (failed : List (Fin 2048 × SectorOutcome)) (k : List Byte → Act) : Act :=
  fun s =>
  let bad := failed.filter (fun f => f.1.val < n && f.2.reason ≠ 0 && fromMedia s x (lba + f.1.val))
  let outcome (b : Nat) : Option SectorOutcome := (bad.find? (fun f => lba + f.1.val == b)).map (fun f => f.2)
  if (List.range n).any (fun i => fromMedia s x (lba + i) && !zoneFree s (nsZone x (lba + i))) then []
  else match (List.range n).filterMap (fun i =>
      if (outcome (lba + i)).isSome || (blockData s x (lba + i)).isNone then some (lba + i) else none) with
  | [] => k ((List.range n).flatMap (fun i => (blockData s x (lba + i)).getD [])) s
  | bs =>
    match bs.find? (isUnrec s x) with
    | some b =>
      let p := nsPlace s x b
      seqs [recEvent ⟨p.head, p.band, p.sector, 0, lr, 0, 6, 0, 0⟩ 6 4, readFail c b, dropGot] s
    | none => each bs (fun b => readLadder x lr (outcome b) b) s

/-- READ_DATA_PLACE (R257, R291, R319): the data of a read, or the output of a derive read whose recipe has passed its check
(R345), goes to the host. `failed` gives the blocks of it that fail at line rate, `task` the pool
and STATUS of a Shoal task that has ended with a deadline, a descriptor or a DRAM error. -/
def execReadDataPlace (cmd : CmdRef) (go : ReadRun) (task : Option (Fin 8 × Nat)) (s : State) : Res :=
  run (fun s =>
    match s.cmdBy cmd (fun c => c.done.isNone && c.readSpan.isSome) with
    | none => []
    | some c =>
      if !hqUp s || !linkLive s c.link || !mediaReady s then []
      else match c.work, s.link? c.link with
        | .rd nsid lba n lr, some l =>
          (match nsAny s nsid with
            | none => finish c (status 0 0x0B) s
            | some x => readRange c x lba n lr go.failed (fun d s =>
                if (task.any (fun t => t.2 == 1 || t.2 == 4 || t.2 == 7)) then seqs [finish c (status 0 6), dropGot] s
                else if !keyOk s x then seqs [finish c (taskStatus 5 0), dropGot] s
                else placeData c l d 0 go.hostOk s) s)
        | .drd nsid lba n recipe olen, some l =>
          (match nsAny s nsid with
            | none => finish c (status 0 0x0B) s
            | some x =>
              let put (d : List Byte) : Act := fun s =>
                if (task.any (fun t => t.2 == 1 || t.2 == 4 || t.2 == 7)) then seqs [finish c (status 0 6), dropGot] s
                else if !keyOk s x then seqs [finish c (taskStatus 5 0), dropGot] s
                else
                  let o := rcOutput recipe (fun o n => slice d o n) (s.shlKey ·)
                  seqs [holdSource nsid lba n d, placeData c l o o.length go.hostOk] s
              match deriveFault s recipe (4096 * n) olen, heldSource s nsid lba n with
              | some f, _ => seqs [finish c (taskStatus f.1 f.2), dropGot] s
              | none, some d => put d s
              | none, none => readRange c x lba n false go.failed put s)
        | _, _ => []) s

/-! Flush. -/

/-- FLUSH (R289): the data it covers goes to the media as soon as it can. -/
def execFlush (cmd : CmdRef) (s : State) : Res :=
  run (withCmd cmd false 0x00 (fun c s =>
    if c.nsid ≠ 0xFFFFFFFF && (nsOf s c.nsid).isNone then finish c (status 0 0x0B) s
    else
      seqs [fun _ => [updCmd c.no (fun k => { k with work := .fl c.nsid c.mark })], settle] s)) s

/-! Zone management (R297-R301). -/

/-- A Zone Management Send is validated: its zones wait for the action (R297, R298). -/
def zoneSend (cmd : CmdRef) (op : Nat) : Act :=
  withNs cmd 0x79 true (fun c _ x s =>
    if c.zsa ≠ op then []
    else if c.all then [updCmd c.no (fun k => { k with work := .zact op x.zones })]
    else if c.slba % zoneBlocks ≠ 0 || nsSize x ≤ c.slba then finish c invField s
    else [updCmd c.no (fun k => { k with work := .zact op [nsZone x c.slba] })])

/-- ZONE_CLOSE (R297). -/
def execZoneClose (cmd : CmdRef) (s : State) : Res := run (zoneSend cmd 1) s
/-- ZONE_FINISH (R297). -/
def execZoneFinish (cmd : CmdRef) (s : State) : Res := run (zoneSend cmd 2) s
/-- ZONE_OPEN (R297). -/
def execZoneOpen (cmd : CmdRef) (s : State) : Res := run (zoneSend cmd 3) s
/-- ZONE_RESET (R297). -/
def execZoneReset (cmd : CmdRef) (s : State) : Res := run (zoneSend cmd 4) s
/-- ZONE_OFFLINE (R297). -/
def execZoneOffline (cmd : CmdRef) (s : State) : Res := run (zoneSend cmd 5) s

/-- The From states of Table 10.7. -/
def fromOk (op st : Nat) : Bool :=
  match op with
  | 1 => st == 2 || st == 3
  | 2 => st == 1 || st == 2 || st == 3 || st == 4
  | 3 => st == 1 || st == 2 || st == 4
  | 4 => st == 1 || st == 2 || st == 3 || st == 4 || st == 14
  | _ => st == 13

/-- The limits an Open of zones meets (R292, R293): every implicitly opened zone may be closed for it. [DEDUCED, log 48, unsafe] -/
def openLimit (s : State) (zs : List Nat) : Option Cpl :=
  let n (p : Nat → Bool) : Nat := (zs.filter (fun z => p (zoneAt s z).st)).length
  let explicit := (s.dyn.zn.zones.filter (fun x => x.st == 3)).length
  if 1024 < activeCount s + n (fun st => st == 1) then some (status 1 0xBD)
  else if 256 < explicit + n (fun _ => true) then some (status 1 0xBE)
  else none

/-- One zone takes an action it is permitted. [DEDUCED, log 48, unsafe] -/
def zoneAction (op z : Nat) : Act := fun s =>
  match op with
  | 1 => closeZone z s
  | 2 => seqs [drainZone z, fun s =>
      if (zoneAt s z).st = 13 then [] else [putZone { zoneAt s z with st := 14, wp := zoneBlocks, due := true }]] s
  | 3 => seqs [if (zoneAt s z).st = 2 then skip else makeOpenRoom, zoneTo z 3] s
  | 4 => seqs [(match zoneNs s z with
        | some (n, base) => fun _ => [endHolds n.nsid base zoneBlocks]
        | none => skip), emptyZone z, saveZone z,
      fun _ => [updLoss (fun p => { p with
        page := p.page.filter (fun e => e.zone != z), wait := p.wait.filter (fun e => e.zone != z) })]] s
  | _ => zoneTo z 15 s

/-- ZONE_ACTION_EFFECT (R298, R299): every command to the zones fetched before has ended, and no ladder runs on them. A Finish waits
until its data can go to the media; without the key its transfers fail, and after the second the zone is Read Only (R290, R319). -/
def execZoneActionEffect (cmd : CmdRef) (s : State) : Res :=
  run (fun s =>
    match s.cmdBy cmd (fun c => c.done.isNone && c.work.isZact) with
    | none => []
    | some c =>
      match c.work with
      | .zact op zs =>
        let ok := zs.filter (fun z => fromOk op (zoneAt s z).st)
        let lost := ok.filter (fun z => !zoneKeyOk s z && !(bufChunks s z).isEmpty)
        if !s.up 63 || earlier s c zs (fun _ => true) || zs.any (fun z => zoneLadder s z || scanDue s z) ||
            (op == 2 && !ok.all (zoneReady s)) then []
        else if op == 2 && !lost.isEmpty then seqs [each lost (fun z s => faultZone z (bufChunks s z) s), waitEnds] s
        else if !c.all && ok.isEmpty then finish c (status 1 0xBF) s
        else match refuse (op ≠ 3) {} , openLimit s ok with
          | none, some r => finish c r s
          | _, _ => seqs [each ok (fun z s => zoneAction op z s), finish c okCpl, waitEnds] s
      | _ => []) s

/-- A zone descriptor (R301). -/
def zoneDesc (s : State) (x : Ns) (i : Nat) : List Byte :=
  let z := zoneAt s (x.zones.getD i 0)
  let base := i * zoneBlocks
  let wp := if z.st = 14 || z.st = 13 || z.st = 15 then 2 ^ 64 - 1 else base + z.wp
  [2, b8 (z.st * 16), 0, 0, 0, 0, 0, 0] ++ leBytes 8 zoneBlocks ++ leBytes 8 base ++ leBytes 8 wp ++ zeros 32

/-- The states a ZRASF value selects. -/
def zrasf (f st : Nat) : Bool := f == 0 || st == (match f with
  | 1 => 1
  | 2 => 2
  | 3 => 3
  | 4 => 4
  | 5 => 14
  | 6 => 13
  | _ => 15)

/-- ZONE_MGMT_RECEIVE (R301): the zones from the one that holds SLBA on. [DEDUCED, log 49, unsafe] -/
def execZoneMgmtReceive (cmd : CmdRef) (list : Option (List Byte)) (s : State) : Res :=
  run (withNs cmd 0x7A true (fun c l x s =>
    let len := 4 * ((c.cdw 12).toNat + 1)
    let f := (c.cdw 13).fld 15 8
    let from_ := c.slba / zoneBlocks
    match firstOf [refuse ((c.cdw 13).fld 7 0 ≠ 0 || 7 < f || 8388608 < len) invField, refuse (nsSize x ≤ c.slba) (status 0 0x80),
        dptrCheck l c len list] with
    | some r => finish c r s
    | none =>
      if held s c (x.zones.drop from_) then []
      else
        let is := ((List.range x.zones.length).filter (fun i => from_ ≤ i && zrasf f (zoneAt s (x.zones.getD i 0)).st))
        let fits := (len - 64) / 64
        let n := if (c.cdw 13).bit 16 then min is.length fits else is.length
        reply c list (fit len (leBytes 8 n ++ zeros 56 ++ (is.take fits).flatMap (zoneDesc s x))) s)) s

/-! Commands no row carries out. -/

/-- Opcodes of Tables 10.2 and 10.3. -/
def knownOp (c : HCmd) : Bool :=
  if c.admin then [0x00, 0x01, 0x02, 0x04, 0x05, 0x06, 0x08, 0x09, 0x0A, 0x0C, 0x0D, 0x10, 0x11, 0xC0, 0xC2, 0xC5].contains c.op
  else [0x00, 0x01, 0x02, 0x79, 0x7A, 0x7D, 0x83].contains c.op

/-- A supported command with a value in a listed field that the device does not support (R278). -/
def badField (c : HCmd) : Bool :=
  if c.admin then
    (c.op == 0x09 && !([1, 2, 4, 6, 7, 8, 9, 0x0B, 0x0C, 0x0E].contains ((c.cdw 10).fld 7 0))) ||
    (c.op == 0x0D && 1 < (c.cdw 10).fld 3 0) || (c.op == 0x10 && 3 < (c.cdw 10).fld 5 3) ||
    (c.op == 0xC2 && 4 < (c.cdw 10).fld 3 0)
  else c.op == 0x79 && (c.zsa == 0 || 5 < c.zsa)

/-- UNSUPPORTED_OPCODE (R6, R278): Invalid Command Opcode; a supported command with an unsupported value that no other row
completes ends with Invalid Field in Command, after its namespace is checked. [DEDUCED, log 47, unsafe] -/
def execUnsupportedOpcode (cmd : CmdRef) (s : State) : Res :=
  run (fun s =>
    match s.cmdBy cmd (fun c => c.done.isNone && c.work == .idle && !c.orphan) with
    | none => []
    | some c =>
      if !hqUp s || !linkLive s c.link || s.dyn.hq.hold then []
      else if !knownOp c then finish c (status 0 1) s
      else if !badField c then []
      else if c.admin then finish c invField s
      else match nsOf s c.nsid with
        | none => finish c (status 0 0x0B) s
        | some x => finish c (if x.zoned then invField else status 0 1) s) s

end Sys2Proof.Machine
end

