-- ==== Sys2Proof/Machine/Recovery.lean ====
section
/-! DEFINITION. Media recovery (08): the steps of the ladder, relocation, patrol, writes cut off by a reset. -/

namespace Sys2Proof.Machine

/-- A ladder whose next step is the given one runs it; a step that reads takes the actuator when no other transfer has it (R14). [DEDUCED, log 52, unsafe] -/
def ladderStep (head : Fin 64) (band sector k : Nat) (reads : Bool) (go : Ladder → Act) : Act := fun s =>
  match ladderOf s head.val band sector with
  | some l => if mediaReady s && (!reads || actFree s (head.val / 16)) && nextStep s l == some k then go l s else []
  | none => []

/-- A deep decoder job of the ladder (Table 8.2): NCAP, MAX_ITER, HYP_MASK, ABANDON_ITER, ADAPT, SOFT_SYNC. -/
structure LadderJob where
  ncap    : Nat
  maxIter : Nat
  mask    : Nat
  abandon : Nat
  adapt   : Bool
  soft    : Bool
deriving DecidableEq, Repr

/-- Step 1's job: the line-rate capture alone, at the reference start alone. -/
def deepJob : LadderJob := ⟨0, 64, 0x01, 8, false, false⟩

/-- Step 3's job over the captures of the sector, at most four. -/
def shiftJob (caps : Nat) : LadderJob := ⟨min caps 4 - 1, 64, 0x7F, 8, true, true⟩

/-- A job recovers the sector: the run succeeds on a hypothesis the job tries, within its iterations, at a start it may find. -/
def LadderJob.wins (j : LadderJob) (r : DeepRun) : Bool :=
  r.ok && j.mask.testBit r.hyp.val && 1 ≤ r.iters && r.iters ≤ j.maxIter && (!r.soft || j.soft)

/-- LADDER_DEEP (R211, step 1). -/
def execLadderDeep (head : Fin 64) (band : Nat) (sector : Nat) (r : DeepRun) (s : State) : Res :=
  run (ladderStep head band sector 1 false (fun l => stepEnd l 1 (deepJob.wins r))) s

/-- Armed passes of a sector on a head's lane: LN_CAP_RANGE takes the sector and COUNT, and after COUNT + 1 passes in CAP_MODE 2 the lane
is back in mode 1 (R99). -/
def armedReads (head sector count : Nat) : Act := fun s =>
  let g := headLane head
  if laneUp s g then [.fld (Reg.LN_CAP_RANGE g) 16 0 sector, .fld (Reg.LN_CAP_RANGE g) 19 17 count, .fld (Reg.LN_CTL g) 11 10 1] else []

/-- LADDER_REREAD (R211, step 2): REREADS passes with armed capture. -/
def execLadderReread (head : Fin 64) (band : Nat) (sector : Nat) (passes : List SectorOutcome) (s : State) : Res :=
  run (ladderStep head band sector 2 true (fun l s =>
    let ps := passes.take (optRereads s)
    seqs [armedReads head.val sector (optRereads s - 1),
      stepEnd { l with caps := l.caps + (ps.filter (fun p => p.captured)).length } 2 (ps.any (fun p => p.reason == 0))] s)) s

/-- LADDER_SHIFT (R211, step 3). -/
def execLadderShift (head : Fin 64) (band : Nat) (sector : Nat) (r : DeepRun) (s : State) : Res :=
  run (ladderStep head band sector 3 false (fun l => stepEnd l 3 ((shiftJob l.caps).wins r))) s

/-- A sector whose entry carries ZP counts as zeros (R217). -/
def isZp (s : State) (head band sector : Nat) : Bool := (relocOf s head band sector).any (fun r => r.zp)

/-- A sector of a run as the rebuild takes it: zeros for one whose entry carries ZP (R217). -/
def runInfo (s : State) (head band sector : Nat) : List Byte :=
  if isZp s head band sector then zeros 4112 else (storedInfo s head band sector).getD (zeros 4112)

/-- The sectors of a run the rebuild lacks, by their place in it: the one asked for, those named, and those whose stored frame
passes no check of R97. [DEDUCED, log 52, unsafe] -/
def runGone (s : State) (head band s0 i : Nat) (lost : List Nat) : List Nat :=
  (i :: (List.range 66).filter (fun k => !isZp s head band (s0 + k) && (lost.contains k ||
    !(storedInfo s head band (s0 + k)).any (infoOk s head band (s0 + k))))).eraseDups

/-- LADDER_PARITY (R215-R217, R211 step 4): `lost` names the sectors of the run that could not be read, by their place in it. -/
def execLadderParity (head : Fin 64) (band : Nat) (sector : Nat) (lost : List Nat) (crcOk : Bool) (s : State) : Res :=
  run (ladderStep head band sector 4 true (fun l s =>
    let i := sector % 66
    let s0 := sector - i
    let gone := runGone s head.val band s0 i lost
    let z := zoneOf s head.val band
    let fails := seqs [fun _ => [putLadder { l with step := 4 }], ladderGo { l with step := 4 }]
    if 2 < gone.length || !crcOk then fails s
    else
      let info := rebuiltInfo (fun k => runInfo s head.val band (s0 + k)) gone i head.val band s0 (sectKind s z sector) (epochOf s z)
      if infoOk s head.val band sector info then ladderWin l 4 info s else fails s)) s

/-- LADDER_TWIN (R218, R211 step 5): once the twin actuator has no transfer in hand, the twin reads the sector, at line rate (`line`)
and then through steps 1 to 3 with one reread pass on the lane of the same group position, as far as its captures go. [DESIGN CHOICE, log 126, unsafe] -/
def execLadderTwin (head : Fin 64) (band : Nat) (sector : Nat) (twin_ : TwinRun) (s : State) : Res :=
  run (ladderStep head band sector 5 false (fun l s =>
    let t := twin head.val
    let caps := (if twin_.line.captured then 1 else 0) + (if twin_.reread.captured then 1 else 0)
    let won := twin_.line.reason == 0 || (twin_.line.captured && deepJob.wins twin_.deep) || twin_.reread.reason == 0 ||
      (caps ≠ 0 && (shiftJob caps).wins twin_.shift)
    if !actFree s (t / 16) || !laneUp s (headLane t) then []
    else seqs [armedReads t sector 0, stepEnd l 5 won] s)) s

/-! Relocation (R222-R228). -/

/-- The latest event of a sector now reads as relocated (Table 8.6). [DEDUCED, log 53, unsafe] -/
def eventMoved (head band sector : Nat) : List RecEvt → List RecEvt
  | [] => []
  | e :: es => if e.head = head && e.band = band && e.sector = sector then { e with outcome := 2 } :: es
    else e :: eventMoved head band sector es

/-- The band's spare pointer moves past the spares that have been written. -/
def sparesUsed (head band n : Nat) : Eff := updMedia (fun m => { m with
  spares := hbPut m.spares head band ((hbGet m.spares head band).getD 0 + n) })

/-- A sector is relocated in the order of R223: spares are written and read back until one reads; then the table refers to
it. [DEDUCED, log 46, unsafe] [DEDUCED, log 53, unsafe] -/
def relocate (m : MSec) (step : Nat) (readBack : List Bool) (gone : Eff) : Act := fun s =>
  let k0 := nextSpare s m.head m.band
  let e := epochOf s (zoneOf s m.head m.band)
  let i := readBack.idxOf true
  let tries := min (i + 1) (min readBack.length (328 - k0))
  if 328 ≤ k0 || !tableTakes s m.head m.band m.sector then [recCount 8 1, gone]
  else seqs [
    each (List.range tries) (fun j _ => [mediaPut m.head m.band (67584 + k0 + j) (spareInfo m.head m.band (k0 + j) e m.info)
      (j != i)]),
    fun _ => [sparesUsed m.head m.band tries],
    if i < tries then seqs [tablePut ⟨m.head, m.band, m.sector, k0 + i, 1, step, false⟩, fun _ => [recCount 7 1, gone,
        updRcv (fun r => { r with events := eventMoved m.head m.band m.sector r.events })]]
    else if 328 ≤ k0 + tries then fun _ => [recCount 8 1, gone] else skip] s

/-- RELOCATE_CONVENTIONAL (R223). -/
def execRelocateConventional (head : Fin 64) (band : Nat) (sector : Nat) (readBack : List Bool) (s : State) : Res :=
  run (fun s =>
    match s.dyn.rcv.reloc.find? (fun x => x.1.head == head.val && x.1.band == band && x.1.sector == sector) with
    | some (m, step) =>
      if mediaReady s && actFree s (head.val / 16) then relocate m step readBack (updRcv (fun r => { r with
        reloc := r.reloc.filter (fun x => x.1.head != m.head || x.1.band != m.band || x.1.sector != m.sector) })) s
      else []
    | none => []) s

/-- The PENDING entry of a band with the lowest sector. -/
def firstPending (s : State) (head band : Nat) : Option Reloc :=
  (s.dyn.media.table.filter (fun e => e.head == head && e.band == band && e.state == 2)).foldl (fun m e =>
    match m with
    | some x => if e.sector < x.sector then some e else some x
    | none => some e) none

/-- A sector is PENDING no longer: its data and its entry go. -/
def pendingGone (e : Reloc) : Eff := .upd (fun d => { d with
  rcv := { d.rcv with pend := d.rcv.pend.filter (fun x => x.head != e.head || x.band != e.band || x.sector != e.sector) },
  media := tableDrop (fun x => x.at e.head e.band e.sector && x.state == 2) d.media })

/-- PENDING_SPARE_WRITE (R224): the band has filled; a sector whose data is held no longer goes through the ladder again, and
one for which no spare is left stays at its place (R227). -/
def execPendingSpareWrite (head : Fin 64) (band : Nat) (readBack : List Bool) (s : State) : Res :=
  run (fun s =>
    match firstPending s head.val band with
    | none => []
    | some e =>
      if !mediaReady s || !actFree s (head.val / 16) || isConvBand s band || bandPtr s head.val band < 67584 then []
      else match s.dyn.rcv.pend.find? (fun x => x.head == e.head && x.band == e.band && x.sector == e.sector) with
        | some m => relocate m e.step readBack (pendingGone e) s
        | none =>
          if (ladderOf s e.head e.band e.sector).isSome then []
          else seqs [fun _ => [.draw], startLadder false ⟨e.head, e.band, e.sector, 1, false,
            if capturesOn s e.head then 1 else 0, 0, 1 + s.fresh % 8, s.fresh / 8 % 6⟩] s) s

/-! Patrol (R229, R230). -/

/-- An actuator has no host transfer to serve and is not held back by heat (R198, R201): no transfer runs on it, no command to its
zones is at hand, no ladder waits for it, and no buffered data is due to it. -/
def actIdle (s : State) (act : Nat) : Bool :=
  !s.bit Reg.THM_STAT 11 && actFree s act && !s.dyn.hq.cmds.any (fun c => c.done.isNone && (c.zonesOf s).any (fun z => z % 4 == act)) &&
    !s.dyn.rcv.ladders.any (fun l => l.head / 16 == act) && !(wanted s).any (fun z => z % 4 == act) &&
    !(bufZones s).any (fun z => z % 4 == act && (bufChunks s z).any (runReady s z))

/-- The smaller of two sectors in the order of a pass. -/
def patrolMin (a : Option (Nat × Nat × Nat)) (b : Nat × Nat × Nat) : Option (Nat × Nat × Nat) :=
  match a with
  | some x => if patrolKey b.1 b.2.1 b.2.2 < patrolKey x.1 x.2.1 x.2.2 then some b else some x
  | none => some b

/-- The next sector a pass of an actuator reads from a place on (R229): head, band, sector. [DESIGN CHOICE, log 124, unsafe] -/
def patrolNext (s : State) (act key : Nat) : Option (Nat × Nat × Nat) :=
  let own := (s.dyn.media.secs.filter (fun m => m.head / 16 == act && patrolled s m.head m.band m.sector &&
    key ≤ patrolKey m.head m.band m.sector)).map (fun m => (m.head, m.band, m.sector))
  let zero := (s.dyn.media.zero.map (fun z => (z.1, z.2.1, (key - patrolKey z.1 z.2.1 0 + 3) / 4))).filter (fun x =>
    x.1 / 16 == act && x.2.2 < 67584)
  (own ++ zero).foldl patrolMin none

/-- A pass of an actuator takes up sector after sector with what each read gives. -/
def patrolRun (act : Nat) : List SectorOutcome → Act
  | [] => skip
  | o :: os => fun s =>
    match patrolNext s act (s.dyn.media.patrol.getD act 0) with
    | none => []
    | some (h, b, k) =>
      seqs [fun _ => [updMedia (fun m => { m with patrol := setAt m.patrol act (patrolKey h b k + 1) })],
        if o.reason = 0 || (relocOf s h b k).any (fun r => r.state == 3) then skip
        else startLadder true ⟨h, b, k, 1, false, if o.captured then 1 else 0, 0, o.reason.val, o.syncCase.val⟩,
        patrolRun act os] s

/-- A pass ends when no actuator has a written sector left to read; the next begins at the first one. -/
def patrolEnd : Act := fun s =>
  if (List.range 4).all (fun a => (patrolNext s a (s.dyn.media.patrol.getD a 0)).isNone) then
    [recCount 9 1, updMedia (fun m => { m with patrol := List.replicate 4 0 })] else []

/-- PATROL_REVOLUTION (R229, R230): what one revolution read on an idle actuator, sector by sector in the order of the pass. -/
def execPatrolRevolution (act : Fin 4) (reads : List SectorOutcome) (s : State) : Res :=
  run (fun s =>
    if optPatrol s = 0 || !mediaReady s || !actIdle s act.val ||
        (patrolNext s act.val (s.dyn.media.patrol.getD act.val 0)).isNone || reads.isEmpty then []
    else seqs [patrolRun act.val reads, patrolEnd] s) s

/-! Writes cut off (R232-R236). -/

/-- The lowest block of a zone at or above `n` on head position j. -/
def lowBlock (n j : Nat) : Nat :=
  let c := n / 64
  if c % 4 = j then n else (c + (j + 4 - c % 4) % 4) * 64

/-- The sector in band of a shingled zone's block; the end of the band past its last block. -/
def blockSector (b : Nat) : Nat := if zoneBlocks ≤ b then 67584 else b / 256 * 66 + b % 64

/-- The lowest block on head position j whose sector is at or beyond a sector in band. -/
def sectorBlock (sec j : Nat) : Nat :=
  let r := sec / 66
  if sec % 66 < 64 then (4 * r + j) * 64 + sec % 66 else (4 * (r + 1) + j) * 64

/-- The zone's Unflushed Loss entry, once its scan has ended (R308, R309); after a POR or PIN the blocks lost are not known. -/
def scanLoss (z : Nat) (found : Bool) : Act := fun s =>
  let n := (zoneAt s z).wp
  match s.dyn.loss.shingled.find? (fun p => p.1 == z) with
  | some (_, w) => seqs [fun _ => [updLoss (fun p => { p with shingled := p.shingled.filter (fun x => x.1 != z) })],
      if n < w then lossAdd (lossEnt s z s.dyn.zn.cause n (w - n) (w - n)) else skip] s
  | none =>
    if s.dyn.zn.cause = 2 && found then
      seqs [fun _ => [.draw], lossAdd (lossEnt s z 2 n (2 ^ 32 - 1) (s.fresh % 2 ^ 32))] s
    else []

/-- The reason with which a sector fails in a scan; 0 if it does not. What is read fails where the frame on the media cannot pass: there
is none, its metadata is of an earlier epoch, or it was cut off. [DEDUCED, log 52, unsafe] -/
def scanReason (s : State) (z head band sector : Nat) (o : Option (SectorOutcome × Bool)) : Nat :=
  let said := (o.map (fun x => x.1.reason.val)).getD 0
  match s.msec head band sector with
  | none => if said = 5 then 5 else 3
  | some m => if said ≠ 0 then said
    else if m.cut then 3
    else if s.dyn.excluded.contains head then 8
    else match frameChecks head band sector (sectKind s z sector) (epochOf s z) m.info with
      | 0 => 0
      | r => r

/-- The scanned end of a band from a sector on (R232), with the sectors that failed before it: each with its reason, its sync case,
whether it was captured, and whether step 1 recovers it. -/
def scanBand (s : State) (z head band : Nat) : Nat → Nat → List (SectorOutcome × Bool) → Nat × List (Nat × Nat × Nat × Bool × Bool)
  | 0, sec, _ => (sec, [])
  | n + 1, sec, os =>
    let r := scanReason s z head band sec os.head?
    let won := r ≠ 0 && os.head?.any (fun x => x.1.captured && x.2) && (storedInfo s head band sec).any (infoOk s head band sec)
    let bad (i : Nat) : Bool := 67584 ≤ sec + i || scanReason s z head band (sec + i) os[i]? ≠ 0
    if r = 5 || r = 3 || (r ≠ 0 && !won && bad 1 && bad 2) then (sec, [])
    else
      let rest := scanBand s z head band n (sec + 1) os.tail
      if r = 0 then rest
      else (rest.1, (sec, r, (os.head?.map (fun x => x.1.syncCase.val)).getD 0, os.head?.any (fun x => x.1.captured), won) :: rest.2)

/-- A sector within a scanned end that failed: step 1 has recovered it, or its ladder goes on (R232). -/
def scanFailed (head band : Nat) (f : Nat × Nat × Nat × Bool × Bool) : Act := fun s =>
  let l : Ladder := ⟨head, band, f.1, 3, false, if f.2.2.2.1 then 1 else 0, if f.2.2.2.1 then 1 else 0, f.2.1, f.2.2.1⟩
  if (relocOf s head band f.1).any (fun r => r.state == 3) then []
  else if f.2.2.2.2 then seqs [fun _ => [recCount 0 1, recCount 1 1], recEvent l 1 0] s
  else startLadder true l s

/-- CUT_WRITE_SCAN (R232, R233): `reads` gives for each head position what each sector's read gives, from the saved pointer's sector
on, and whether step 1 recovers it. -/
def execCutWriteScan (zone : Nat) (reads : List (List (SectorOutcome × Bool))) (s : State) : Res :=
  run (fun s =>
    if !s.dyn.zn.scan.contains zone || !zoneFree s zone then []
    else
      let start (j : Nat) : Nat := blockSector (lowBlock (zoneAt s zone).wp j)
      let place (j : Nat) : Place := placeOf s (zone * zoneBlocks + j * 64)
      let scans := (List.range 4).map (fun j =>
        scanBand s zone (place j).head (place j).band (67584 - start j) (start j) (reads.getD j []))
      let e (j : Nat) : Nat := (scans.getD j (0, [])).1
      let n := min zoneBlocks ((List.range 4).foldl (fun m j => min m (sectorBlock (e j) j)) (2 * zoneBlocks))
      let ends := (List.range 4).map (fun j => if start j < e j then some (e j) else none)
      let found := (ends.filter (fun x => x.isSome)).length
      seqs [fun _ => [
          putZone { zoneAt s zone with wp := n, st := if n = zoneBlocks then 14 else (zoneAt s zone).st, due := true },
          updMedia (fun m => { m with
            ptr := (List.range 4).foldl (fun p j =>
              hbPut p (place j).head (place j).band (blockSector (lowBlock n j))) m.ptr }),
          recCount 10 found,
          updZn (fun d => { d with
            scan := d.scan.filter (fun x => x != zone), track := if found = 0 then d.track else d.track ++ [(zone, ends)] })],
        each (List.range 4) (fun j => each ((scans.getD j (0, [])).2) (scanFailed (place j).head (place j).band)),
        if found = 0 then scanLoss zone false else skip] s) s

/-- TRACK_BEFORE_END_READ (R235): in each band whose scan found data the track before its scanned end has been read; `failed` names what
failed there, by head position. Where a track begins is not stated, so that every sector below the end may lie on it. [DESIGN CHOICE, log 125, safe] -/
def execTrackBeforeEndRead (zone : Nat) (failed : List (Fin 4 × Nat × SectorOutcome)) (s : State) : Res :=
  run (fun s =>
    match s.dyn.zn.track.find? (fun t => t.1 == zone) with
    | none => []
    | some (_, ends) =>
      if !zoneFree s zone then []
      else
        let p := placeOf s (zone * zoneBlocks)
        let bad := failed.filter (fun f => f.2.2.reason ≠ 0 && (ends.getD f.1.val none).any (fun e => f.2.1 < e))
        seqs [fun _ => [recCount 11 bad.length],
          each bad (fun f s =>
            if (relocOf s (p.head + f.1.val) p.band f.2.1).any (fun r => r.state == 3) then []
            else startLadder true ⟨p.head + f.1.val, p.band, f.2.1, 3, false, if f.2.2.captured then 1 else 0, 0, f.2.2.reason.val,
              f.2.2.syncCase.val⟩ s),
          fun _ => [updZn (fun d => { d with track := d.track.filter (fun x => x.1 != zone) })],
          scanLoss zone true] s) s

/-- PARITY_READ_BACK (R234): sectors of a run that the buffer no longer holds are read back before P and Q are computed; those
that fail go through the ladder without step 4. -/
def execParityReadBack (zone : Nat) (pos : Fin 4) (runNo : Nat) (failed : List Nat) (s : State) : Res :=
  run (fun s =>
    let c := 4 * runNo + pos.val
    let p := placeOf s (zone * zoneBlocks + c * 64)
    let inBuf (i : Nat) : Bool := s.dyn.zn.buf.any (fun b => b.zone == zone && b.blk == c * 64 + i)
    if !zoneFree s zone || (chunkBlks s zone c).isEmpty then []
    else each (failed.filter (fun i => i < 64 && !inBuf i && (s.msec p.head p.band (p.sector + i)).isSome &&
        !(relocOf s p.head p.band (p.sector + i)).any (fun r => r.state == 3))) (fun i s =>
      seqs [fun _ => [.draw], startLadder true ⟨p.head, p.band, p.sector + i, 2, false, if capturesOn s p.head then 1 else 0, 0,
        1 + s.fresh % 8, s.fresh / 8 % 6⟩] s) s) s

end Sys2Proof.Machine
end

