-- ==== Sys2Proof/Machine/Cal.lean ====
section
/-! DEFINITION. Calibrate (R189-R201, R208, R209, R316): the run, its measurements, acceptance and commit. -/

namespace Sys2Proof.Machine

/-- Change the calibration run. -/
def updCal (g : CalRun → CalRun) : Eff := .upd (fun d => { d with cal := d.cal.map g })

/-- The run in progress; one whose command a controller reset has dropped is over (R316). [DEDUCED, log 35, unsafe] -/
def calRun (s : State) : Option CalRun := s.dyn.cal.filter (fun r => s.dyn.hq.cmds.any (fun c => c.no == r.no))

/-- The thermal level is CRITICAL: no run passes it (R201). -/
def atCritical (s : State) : Bool := s.fld Reg.THM_STAT 15 14 == 3

/-! The command. -/

/-- CALIBRATE (R316, R194, R209). [DEDUCED, log 35, unsafe] -/
def execCalibrate (cmd : CmdRef) (s : State) : Res :=
  run (withCmd cmd true 0xC0 (fun c s =>
    let d := c.cdw 10
    let acts := if d.fld 19 16 = 0 then 15 else d.fld 19 16
    if !s.up 19 then []
    else if d.fld 5 0 = 0 then finish c invField s
    else if (calRun s).isSome then finish c (status 7 0x83) s
    else if (calCurrent s).isNone && (d.bit 8 || d.fld 5 0 ≠ 0x3F || acts ≠ 15) then finish c (status 0 0x0C) s
    else [updCmd c.no (fun x => { x with work := .cal }),
      .upd (fun y => { y with cal := some { no := c.no, items := d.fld 5 0, compat := d.bit 8, acts := acts } })])) s

/-! Measurements (Tables 7.1 and 7.4). -/

/-- Units of one measurement: revolutions, or seek pairs for KT (Table 7.4). [DEDUCED, log 34, unsafe] -/
def calUnits (item : Nat) : Nat :=
  match item with
  | 0 => 8
  | 1 => 20
  | 2 => 32
  | 3 => 16
  | 4 => 8
  | _ => 2

/-- Places per stripe group: recording zones, segments (Table 7.2). -/
def calPlaces (item : Nat) : Nat := if item = 3 || item = 4 then 32 else if item = 5 then 256 else 1

/-- Positions judged on their own, and values of each: one slot, or the actuator or group as a whole (R195). -/
def calShape (item : Nat) : Nat × Nat :=
  if item = 1 then (1, 1) else if item = 5 then (1, 4) else if item = 2 then (4, 768) else (4, 1)

/-- The values of a position. -/
def posVals (item pos : Nat) (vs : List Int) : List Int :=
  let n := (calShape item).2
  (List.range n).map (fun i => vs.getD (n * pos + i) 0)

/-- Differences of two measurements, value by value. -/
def calDiff (a b : List Int) : List Nat := (a.zip b).map (fun p => (p.1 - p.2).natAbs)

/-- Two measurements agree within the native tolerance (Table 7.1). -/
def calAgree (item : Nat) (a b : List Int) : Bool :=
  let d := calDiff a b
  let sums := (a.zip b).map (fun p => (p.1 + p.2).natAbs)
  let each2 (f : Nat → Nat → Bool) : Bool := (d.zip sums).all (fun p => f p.1 p.2)
  match item with
  | 0 => each2 (fun x m => 100 * x ≤ m)
  | 1 => each2 (fun x m => 2000 * x ≤ 15 * m)
  | 2 => (d.foldl (fun n x => n + x * x) 0 ≤ 4 * d.length) && d.all (fun x => x ≤ 8)
  | 3 => each2 (fun x m => x ≤ 4 || 200 * x ≤ 3 * m)
  | 4 => d.all (fun x => x ≤ 5)
  | _ => d.all (fun x => x ≤ 4)

/-- The mean of two measurements, rounded towards zero (R195). -/
def calMean (a b : List Int) : List Int := (a.zip b).map (fun p => divTZ (p.1 + p.2) 2)

/-- A value as it is stored: ASSIST at T_REF (R190). -/
def calStore (s : State) (act item : Nat) (temp x : Int) : Int :=
  if item = 3 then
    let a2 := s.reg (Reg.WA_ASSIST2 act)
    divTZ (64 * x - sgn 8 (a2.fld 23 16) * (temp - 16 * sgn 8 (a2.fld 31 24))) 64
  else x

/-- A measurement ends (R195, R197): in compatibility mode it is the result; in native mode it makes half a pair, and a pair is
judged position by position. [DEDUCED, log 34, unsafe] -/
def calTake (compat : Bool) (m : CalMeas) (vs : List Int) : CalMeas :=
  let n := (calShape m.item).1
  let ps := List.range n
  if compat then { m with units := 0, acc := ps.map (fun p => some (posVals m.item p vs)) }
  else match m.first with
    | none => { m with units := 0, first := some vs }
    | some a =>
      let open_ := ps.filter (fun p => (m.acc.getD p none).isNone)
      let ok (p : Nat) : Bool := calAgree m.item (posVals m.item p a) (posVals m.item p vs)
      { m with
        units := 0, first := none, pairs := m.pairs + 1
        acc := ps.map (fun p => if open_.contains p && (ok p || m.pairs = 2) then
          some (calMean (posVals m.item p a) (posVals m.item p vs)) else m.acc.getD p none)
        failed := m.failed ++ open_.filter (fun p => m.pairs = 2 && !ok p) }

/-- A measurement has its result at every position. -/
def CalMeas.done (m : CalMeas) : Bool := m.acc.length == (calShape m.item).1 && m.acc.all (fun x => x.isSome)

/-- What has been measured of an item at a place. -/
def CalRun.at (r : CalRun) (item group idx : Nat) : CalMeas :=
  (r.meas.find? (fun m => m.item == item && m.group == group && m.idx == idx)).getD { item := item, group := group, idx := idx }

/-- The stripe groups an item is measured in on the run's actuators. -/
def CalRun.groups (r : CalRun) (item : Nat) : List Nat :=
  (bitsOf 4 r.acts).flatMap (fun a => if item = 1 then [4 * a] else [4 * a, 4 * a + 1, 4 * a + 2, 4 * a + 3])

/-- Every item is measured. -/
def CalRun.done (r : CalRun) : Bool :=
  (bitsOf 6 r.items).all (fun i => (r.groups i).all (fun g => (List.range (calPlaces i)).all (fun k => (r.at i g k).done)))

/-- CAL_MEASURE_UNIT (R195, R197-R201): a unit of a measurement ends on an actuator with an idle gap. The unit's values count
when it is the last of its measurement. -/
def execCalMeasureUnit (act : Fin 4) (unit : CalUnit) (s : State) : Res :=
  run (fun s =>
    match calRun s with
    | none => []
    | some r =>
      let i := unit.item.val
      let g := if i = 1 then 4 * act.val else unit.head.val / 4
      let k := if calPlaces i = 1 then 0 else unit.unit % calPlaces i
      let m := r.at i g k
      if !(bitsOf 6 r.items).contains i || !(r.groups i).contains g || g / 4 ≠ act.val || m.done || !hlUp s act.val ||
          !actIdle s act.val || atCritical s then []
      else
        let vs := unit.values.map (calStore s act.val i unit.temp)
        let m' := if m.units + 1 < calUnits i then { m with units := m.units + 1 } else calTake r.compat m vs
        [updCal (fun r => { r with
          meas := m' :: r.meas.filter (fun x => !(x.item == i && x.group == g && x.idx == k))
          temp := r.temp + unit.temp, temps := r.temps + 1 })]) s

/-- CAL_UNIT_ABANDON (R199): the unit in progress counts for nothing and is measured again in a later gap. [DEDUCED, log 35, unsafe] -/
def execCalUnitAbandon (_act : Fin 4) (s : State) : Res := run skip s

/-! Acceptance in compatibility mode (R197). -/

/-- Every value lies within the plausible range (Table 7.1). -/
def calPlausible (s : State) (act item : Nat) (vs : List Int) : Bool :=
  let within (lo hi : Int) : Bool := vs.all (fun v => lo ≤ v && v ≤ hi)
  match item with
  | 0 => vs.all (fun v => 64 * 2 ^ 30 ≤ 1000 * v && 1000 * v ≤ 256 * 2 ^ 30)
  | 1 => within (10000 * 65536) (500000 * 65536)
  | 2 => within (-2560) 2560
  | 3 => within 1 (s.fld (Reg.WA_ASSIST act) 11 0)
  | 4 => within 0 1500
  | _ => maxI vs - minI vs ≤ 2 * s.fld (Reg.EBB_STROKE act) 15 0

/-- The run's values of an item for a position of a group are accepted. [DEDUCED, log 34, unsafe] -/
def calAccept (s : State) (r : CalRun) (item group pos : Nat) : Bool :=
  r.items.testBit item && (r.groups item).contains group &&
    (!r.compat || (List.range (calPlaces item)).all (fun k =>
      calPlausible s (group / 4) item (((r.at item group k).acc.getD pos none).getD [])))

/-- A value of the new set: the run's, or the old one. -/
def calVal (s : State) (r : CalRun) (old : List Byte) (item group idx pos i off n : Nat) : List Byte :=
  if calAccept s r item group pos then leBytes n (enc (8 * n) ((((r.at item group idx).acc.getD pos none).getD []).getD i 0))
  else slice old off n

/-- The item failed for the head in the run (R195). -/
def calFailed (r : CalRun) (item head : Nat) : Bool :=
  let g := if item = 1 then head / 16 * 4 else head / 4
  let pos := if item = 1 || item = 5 then 0 else head % 4
  !r.compat && (List.range (calPlaces item)).any (fun k => (r.at item g k).failed.contains pos)

/-- HEAD_FLAGS of a head in the new set: a native run renews the bits of what it measured. -/
def calNewFlags (r : CalRun) (old : List Byte) (head : Nat) : Nat :=
  let w := w32 (calFlags old head)
  ((List.range 6).foldl (fun (w : Word) i =>
    if !r.compat && r.items.testBit i && r.acts.testBit (head / 16) then w.setBit i (calFailed r i head) else w) w).toNat

/-- The regions of the new set, from HEAD_FLAGS on (Table 7.2). [DEDUCED, log 34, unsafe] -/
def calBody (s : State) (r : CalRun) (old : List Byte) : List Byte :=
  let hs := List.range 64
  let zs := List.range 32
  hs.flatMap (fun h => leBytes 4 (calNewFlags r old h)) ++
  hs.flatMap (fun h => calVal s r old 0 (h / 4) 0 (h % 4) 0 (0x140 + 4 * h) 4) ++
  (List.range 4).flatMap (fun a => calVal s r old 1 (4 * a) 0 0 0 (0x240 + 4 * a) 4) ++
  hs.flatMap (fun h => zs.flatMap (fun z => calVal s r old 3 (h / 4) z (h % 4) 0 (0x250 + 64 * h + 2 * z) 2)) ++
  hs.flatMap (fun h => zs.flatMap (fun z => calVal s r old 4 (h / 4) z (h % 4) 0 (0x1250 + 64 * h + 2 * z) 2)) ++
  (List.range 16).flatMap (fun g => (List.range 256).flatMap (fun k => (List.range 4).flatMap (fun j =>
    calVal s r old 5 g k 0 j (0x2250 + 2048 * g + 8 * k + 2 * j) 2))) ++
  hs.flatMap (fun h => (List.range 768).flatMap (fun w =>
    calVal s r old 2 (h / 4) 0 (h % 4) w (0xA250 + 1536 * h + 2 * w) 2))

/-- The new set, COMMIT left erased (Table 7.3). -/
def calBuild (s : State) (r : CalRun) (old : Option (List Byte)) : List Byte :=
  let prev := old.getD []
  let body := calBody s r prev
  let h := leBytes 4 0x5A3ECA17 ++ leBytes 2 1 ++ leBytes 2 (if r.compat then 2 else 1) ++
    leBytes 4 ((old.map (fun b => leAt b 8 4)).getD 0 + 1) ++ leBytes 2 (enc 16 (divTZ r.temp (16 * max 1 r.temps))) ++ [0, 0] ++
    leBytes 8 (powerOnHours s)
  let h := h ++ zeros 36 ++ zeros 4
  let h := h.take 24 ++ calCrcs (h ++ body)
  h ++ leBytes 4 (crc32c h).toNat ++ zeros 4 ++ List.replicate 4 0xFF ++ body

/-- The completion of a run (R316). [DEDUCED, log 35, unsafe] -/
def calCpl (r : CalRun) (ok : Bool) : Cpl :=
  let items := (List.range 6).foldl (fun n i => if (List.range 64).any (fun h => r.items.testBit i && calFailed r i h) then n + 2 ^ i else n) 0
  let heads := ((List.range 64).filter (fun h => (List.range 6).any (fun i => r.items.testBit i && calFailed r i h))).length
  { sct := if ok && items = 0 then 0 else 7, sc := if ok && items = 0 then 0 else 0x82, dw0 := items + heads * 65536 }

/-- CAL_COMMIT (R193, R196, R300, R316): the five steps; `checkOk` says that the half reads back right (step 3). A run that CRITICAL
has ended fails its command (R201). [DEDUCED, log 122, unsafe] -/
def execCalCommit (checkOk : Bool) (s : State) : Res :=
  run (fun s =>
    match calRun s with
    | none => each (s.dyn.hq.cmds.filter (fun c => c.work == .cal)) (fun c => finish c (status 7 0x82)) s
    | some r =>
      if !r.done || !s.up 19 || atCritical s then []
      else
        let cur := calCurrent s
        let k := match cur with
          | some (0, _) => 1
          | _ => 0
        let b := calBuild s r (cur.map (fun c => c.2))
        seqs [calErase k, fun _ => [.nor (calHalf k) b],
          if checkOk then seqs [fun _ => [.nor (calHalf k + 60) (zeros 4)], calErase (1 - k), calExclude b, calAssist b] else skip,
          fun _ => [.upd (fun d => { d with cal := none })],
          fun s => match s.dyn.hq.cmds.find? (fun c => c.no == r.no) with
            | some c => finish c (calCpl r checkOk) s
            | none => []] s) s

end Sys2Proof.Machine
end

