-- ==== Sys2Proof/Machine/Recorder.lean ====
section
/-! DEFINITION. Recorder control, the capture image and replay (R467-R474, R317). -/

namespace Sys2Proof.Machine

/-! Commands to the recorder (Table 16.3). -/

/-- The offsets of an actuator's range that a snapshot takes, in image order: general coefficients, runout, tide table, state
memory, registers (R471). [PRESUMED, log 36, unsafe] -/
def snapOffs : List (Nat × Nat) := [(0x4000, 0x8000), (0xD000, 0x2000), (0x2000, 0x2000), (0, 0x1000)]

/-- The snapshot of an engine: listed words by offset in its range. -/
def snapshot (s : State) (act : Nat) : List (Nat × Word) :=
  (s.regs.filter (fun p => snapOffs.any (fun r => actAddr act r.1 ≤ p.1 && p.1 < actAddr act (r.1 + r.2)))).map (fun p =>
    (p.1 - actAddr act 0, p.2))

/-- The recorder is armed with the masks of WRK_CTL (R467). [PRESUMED, log 36, unsafe] -/
def recArm : Act := fun s =>
  if !s.up 8 || 2 ≤ wrkState s then []
  else [.fld Reg.WRK_TRIG 1 0 1,
    .upd (fun d => { d with
      wrk := { d.wrk with
        mask := s.fld Reg.WRK_CTL 7 4, journal := s.bit Reg.WRK_CTL 3, tick := List.replicate 4 0, post := 0, lost := 0,
        drops := List.replicate 4 0, dropped := List.replicate 4 false, counts := List.replicate 9 0,
        trigSrc := none, snaps := (List.range 4).map (fun a => if (s.fld Reg.WRK_CTL 7 4).testBit a then snapshot s a else []) }
      hl := d.hl.map (fun h => { h with acc := {} }) })]

/-- The actuator a source without one is recorded with: the lowest armed. [PRESUMED, log 36, unsafe] -/
def recAct (s : State) : Nat := ((List.range 4).find? (fun a => s.dyn.wrk.mask.testBit a)).getD 0

/-- Stop (Table 16.3). -/
def recStop : Act := fun s =>
  if !s.up 8 then [] else if wrkState s = 1 then enterHeld (some 7) s else if wrkState s = 2 then enterHeld none s else []

/-- Release (Table 16.3, R468). -/
def recRelease : Act := fun s =>
  if !s.up 8 || wrkState s = 0 then []
  else [.fld Reg.WRK_TRIG 1 0 0, updWrk (fun w => { w with held := List.replicate 16 0, mask := 0, journal := false })]

/-- A write of WRK_CTL: the masks, then CMD (R467). -/
def hWrkCtl (data : Word) : Act :=
  seqs [plainWrite Reg.WRK_CTL data, fun s =>
    match data.fld 2 0 with
    | 1 => recArm s
    | 2 => trigger 6 (recAct s) s
    | 3 => recStop s
    | 4 => recRelease s
    | _ => []]

/-- A Recorder Control command with an action (R317). -/
def withRec (cmd : CmdRef) (action : Nat) (k : HCmd → Act) : Act :=
  withCmd cmd true 0xC2 (fun c s => if (c.cdw 10).fld 3 0 ≠ action || !s.up 19 then [] else k c s)

/-- Recorder Control's masks and POST go to the registers (R470). -/
def recMasks (c : HCmd) : Act := fun _ =>
  let m := c.cdw 11
  [.fld Reg.WRK_CTL 15 3 (m.fld 15 8 * 32 + (if m.fld 3 0 = 0 then 15 else m.fld 3 0) * 2 + m.fld 4 4)] ++
    (if c.cdw 12 = 0 then [] else [.fld Reg.WRK_POST 23 0 (c.cdw 12).toNat])

/-- RECORDER_ARM (R467, R470): by Recorder Control, or by firmware with the masks as they stand. -/
def execRecorderArm (cmd : Option CmdRef) (s : State) : Res :=
  run (match cmd with
    | some r => withRec r 1 (fun c s =>
        if 2 ≤ wrkState s then finish c (status 7 0x84) s else seqs [recMasks c, recArm, finish c okCpl] s)
    | none => recArm) s

/-- RECORDER_TRIGGER (R468, R469): by Recorder Control, or from another source. [DEDUCED, log 37, unsafe] -/
def execRecorderTrigger (src : Fin 7) (act : Fin 4) (cmd : Option CmdRef) (s : State) : Res :=
  run (match cmd with
    | some r => withRec r 2 (fun c s => seqs [trigger 5 (recAct s), finish c okCpl] s)
    | none => trigger src.val act.val) s

/-- RECORDER_STOP (R467). -/
def execRecorderStop (cmd : Option CmdRef) (s : State) : Res :=
  run (match cmd with
    | some r => withRec r 3 (fun c => seqs [recStop, finish c okCpl])
    | none => recStop) s

/-- RECORDER_RELEASE (R468). -/
def execRecorderRelease (cmd : Option CmdRef) (s : State) : Res :=
  run (match cmd with
    | some r => withRec r 4 (fun c => seqs [recRelease, finish c okCpl])
    | none => recRelease) s

/-- RECORDER_HELD (R468): POST further loop records have been written. -/
def execRecorderHeld (s : State) : Res :=
  run (fun s => if s.up 8 && wrkState s = 2 && s.dyn.wrk.post = 0 then enterHeld none s else []) s

/-! The capture image (R470, R471). -/

/-- Bytes of a record of a ring. -/
def recSize (r : Nat) : Nat := if r < 4 then 64 else if r < 8 then 16 else 128

/-- The records a ring holds. -/
def recHeld (s : State) (r : Nat) : Nat :=
  let on := if r < 8 then s.dyn.wrk.mask.testBit (r % 4) else s.dyn.wrk.journal
  if on then min (s.dyn.wrk.counts.getD r 0) ((s.reg (Reg.WRK_RSIZE r)).toNat / recSize r) else 0

/-- Record k of a ring, oldest first. -/
def recAt (s : State) (r k : Nat) : List Byte :=
  let size := (s.reg (Reg.WRK_RSIZE r)).toNat
  let start := (s.reg (Reg.WRK_RPTR r)).toNat + size - recHeld s r * recSize r
  if recHeld s r ≤ k then zeros (recSize r)
  else fit (recSize r) ((reqRead s (s.pair (Reg.WRK_RBASE_LO r) + (start + k * recSize r) % size) (recSize r)).getD [])

/-- Pages of some bytes. -/
def pagesOf (n : Nat) : Nat := (n + 4095) / 4096

/-- A word of a snapshot. -/
def snapWord (s : State) (act off : Nat) : Word :=
  match (s.dyn.wrk.snaps.getD act []).find? (fun p => p.1 == off) with
  | some p => p.2
  | none => resetWord (actAddr act off)

/-- The offsets of the 13 snapshot pages. -/
def snapPageOff (k : Nat) : Nat :=
  if k < 8 then 0x4000 + 4096 * k else if k < 10 then 0xD000 + 4096 * (k - 8) else if k < 12 then 0x2000 + 4096 * (k - 10) else 0

/-- A part of the image: its pages, and what each holds. -/
structure RecPart where
  pages : Nat
  page  : Nat → List Byte

/-- The held capture slots, in lane and then slot order. -/
def heldSlots (s : State) : List (Nat × Nat) :=
  (List.range 16).flatMap (fun g => (bitsOf 8 (s.dyn.wrk.held.getD g 0)).map (fun i => (g, i)))

/-- The armed actuators. -/
def recActs (s : State) : List Nat := (List.range 4).filter (fun a => s.dyn.wrk.mask.testBit a)

/-- The parts after the status page (R471). -/
def recParts (s : State) : List RecPart :=
  (recActs s).map (fun a => ⟨13, fun k => (List.range 1024).flatMap (fun w => leBytes 4 (snapWord s a (snapPageOff k + 4 * w)).toNat)⟩) ++
  (List.range 9).map (fun r => ⟨pagesOf (recHeld s r * recSize r), fun k =>
    (List.range (4096 / recSize r)).flatMap (fun i => recAt s r (k * (4096 / recSize r) + i))⟩) ++
  (heldSlots s).map (fun p => ⟨21, fun k => fit 4096 ((reqRead s (s.pair (Reg.LN_CAP_BASE_LO p.1) + p.2 * 86016 + 4096 * k) 4096).getD [])⟩)

/-- First pages of the parts. -/
def partStarts : Nat → List RecPart → List Nat
  | _, [] => []
  | n, p :: ps => n :: partStarts (n + p.pages) ps

/-- Pages of the image. -/
def recPages (s : State) : Nat := (recParts s).foldl (fun n p => n + p.pages) 1

/-- Page k of the parts, from a first page on. -/
def partPage : Nat → List RecPart → Nat → List Byte
  | _, [], _ => zeros 4096
  | n, p :: ps, k => if k < n + p.pages then p.page (k - n) else partPage (n + p.pages) ps k

/-- CRC32C of an engine's program memory; a word not written since reset is not stated. -/
def pmCrc (s : State) (act : Nat) : Nat :=
  (crc32c ((List.range 16384).flatMap (fun i => leBytes 8 ((pmGet s act i).getD (Config.free (s.free + i)))))).toNat

/-- The status page (Table 16.5). -/
def recStatus (s : State) : List Byte :=
  let w := s.dyn.wrk
  let acts := recActs s
  let starts := partStarts 1 (recParts s)
  let ring (r : Nat) : List Byte :=
    leBytes 4 (if recHeld s r = 0 then 0 else starts.getD (acts.length + r) 0) ++ leBytes 4 (recHeld s r) ++
      leBytes 8 (if recHeld s r = 0 then 0 else leAt (recAt s r 0) 0 (if r = 8 then 8 else 4))
  leBytes 4 1 ++ [b8 (wrkState s), b8 (w.trigSrc.getD 0xFF), b8 (s.fld Reg.WRK_TRIG 9 8), 0] ++ leBytes 8 w.trigTime ++
    leBytes 4 (s.reg Reg.WRK_TRIG_TICK).toNat ++ leBytes 4 (s.fld Reg.WRK_POST 23 0) ++ leBytes 4 (recPages s) ++ leBytes 4 w.lost ++
    (List.range 4).flatMap (fun a => leBytes 4 (if acts.contains a then pmCrc s a else 0)) ++
    (List.range 4).flatMap (fun a => leBytes 4 (w.drops.getD a 0)) ++
    (List.range 9).flatMap ring ++
    (List.range 4).flatMap (fun a => leBytes 4 (if acts.contains a then starts.getD (acts.idxOf a) 0 else 0)) ++
    (List.range 16).flatMap (fun g => leBytes 2 (w.held.getD g 0)) ++
    leBytes 4 (if (heldSlots s).isEmpty then 0 else starts.getD (acts.length + 9) 0) ++ zeros 3836

/-- RECORDER_STATUS (R470, R471): a page of the image; pages above 0 only while HELD. [DEDUCED, log 37, unsafe] -/
def execRecorderStatus (cmd : AdminCmd) (s : State) : Res :=
  run (withRec cmd.cmd 0 (fun c s =>
    let k := (c.cdw 12).toNat
    if k = 0 then .draw :: reply c cmd.list (recStatus s) (applyEff s .draw)
    else if wrkState s ≠ 3 || recPages s ≤ k then finish c invField s
    else reply c cmd.list (partPage 1 (recParts s) k) s)) s

/-! Replay (R472-R474). -/

/-- A write of WRK_RP_CTL: GO starts a replay unless one runs (R472). [DEDUCED, log 38, unsafe] -/
def hRpCtl (data : Word) : Act := fun s =>
  let busy := s.bit Reg.WRK_RP_CTL 1
  seqs [plainWrite Reg.WRK_RP_CTL data, fun s =>
    if !data.bit 0 || busy then []
    else if s.reg Reg.WRK_RP_CNT = 0 then [.reg Reg.WRK_RP_STAT 1, .reg Reg.WRK_RP_POS 0, .sq Reg.WRK_STAT 8]
    else [.fld Reg.WRK_RP_CTL 1 1 1, .reg Reg.WRK_RP_STAT 0, .reg Reg.WRK_RP_POS 0, updWrk (fun w => { w with replay := some 0 })]] s

/-- REPLAY_GO (R472). -/
def execReplayGo (init : Initiator) (data : Word) (s : State) : Res :=
  run (wrAccess init Reg.WRK_RP_CTL (hRpCtl (data ||| 1))) s

/-- Record i of the loop image. -/
def rpRecord (s : State) (i : Nat) : List Byte := fit 64 ((reqRead s (s.pair Reg.WRK_RP_SRC_LO + 64 * i) 64).getD [])

/-- The CFG entries of a tick with an AFTER, in order: offset and value. [DEDUCED, log 18, unsafe] -/
def rpCfg (s : State) (tick after : Nat) : List (Nat × Nat) :=
  ((List.range (s.reg Reg.WRK_RP_CFGCNT).toNat).map (fun i => fit 16 ((reqRead s (s.pair Reg.WRK_RP_CFG_LO + 16 * i) 16).getD []))).filterMap
    (fun b => if leAt b 0 4 = tick && leAt b 4 1 = after then some (leAt b 6 2 / 4 * 4, leAt b 8 4) else none)

/-- The CFG tokens of a tick after a token (R464): they land in the engine's memories. A tide word is half of its entry. [DEDUCED, log 38, unsafe] -/
def rpCfgRun (act tick after : Nat) : Act := fun s =>
  each (rpCfg s tick after) (fun p s =>
    if isTideMem p.1 then [.reg (actAddr act p.1) (w32 p.2)] else cfgApply act p.1 p.2 s) s

/-- An SRV token from its 8 bytes (Table 6.4). -/
def srvOf (n : Nat) : SrvToken := {
  pos := Fin.ofNat 4 (n / 2 ^ 54), status := Fin.ofNat 4 (n / 2 ^ 52), wedge := BitVec.ofNat 10 (n / 2 ^ 42),
  track := BitVec.ofNat 24 (n / 2 ^ 18), pes := BitVec.ofNat 10 (n / 2 ^ 8), amp := BitVec.ofNat 8 n }

/-- FLAGS_AFTER of an engine as it stands (Table 16.1). -/
def flagsAfter (s : State) (act : Nat) : Nat :=
  let h := s.hl act
  let f := (s.reg (Reg.HL_FLAGS act)).toNat
  let off := (activeSet s act (groupOf s act)).any (fun j => h.onTrk.getD j 0 < max 1 (s.fld (Reg.WA_CFG act) 15 12))
  f % 512 + (if h.plausInh || f.testBit 5 then 65536 else 0) + (if off then 131072 else 0)

/-- The tokens of a record run on the replaying engine in their order (R463, R473). -/
def rpTokens (act i : Nat) (r : List Byte) (cur srv prf : Option Nat) : Act := fun s =>
  let fl := leAt r 4 1
  let tick := leAt r 0 4
  let srvRun : Act := srvBody act (srvOf (leAt r 12 8)) (slice r 12 8) (theProg srv) false
  let next := rpRecord s (i + 1)
  let sense := ((List.range 8).map (fun k => sgn 16 (leAt r (24 + 2 * k) 2))) ++
    ((List.range 8).map (fun k => sgn 16 (leAt next (24 + 2 * k) 2)))
  let prfRun : Act := seqs [fun _ => if fl / 32 = 0 then [updHl act (fun h => { h with sense := sense })] else [],
    prfBody act (leAt r 20 2) (theProg prf) false]
  let others : List Act :=
    if fl.testBit 3 then (if fl.testBit 1 then [prfRun] else []) ++ (if fl.testBit 2 then [srvRun] else [])
    else (if fl.testBit 2 then [srvRun] else []) ++ (if fl.testBit 1 then [prfRun] else [])
  seqs ([
    fun _ => [updHl act (fun h => { h with acc := { live := true, tick := tick, phase := fl / 32 } })],
    curBody act (fl / 32) (fl.testBit 0) (sgn 16 (leAt r 8 2)) (theProg cur) false, rpCfgRun act tick 0] ++
    ((indexed others).flatMap (fun p => [p.2, rpCfgRun act tick (p.1 + 1)])) ++
    (if others.length < 1 then [rpCfgRun act tick 1] else []) ++ (if others.length < 2 then [rpCfgRun act tick 2] else [])) s

/-- The fields of Table 16.9 that differ after a tick: OUT_CRC, FLAGS_AFTER, POS, RESID, STATE from bit 0 up. -/
def rpDiff (s : State) (act : Nat) (r : List Byte) : Nat :=
  let h := s.hl act
  let d (b : Bool) (n : Nat) : Nat := if b then n else 0
  d ((crc32c h.acc.chars).toNat != leAt r 40 4) 1 + d (flagsAfter s act != leAt r 44 4) 2 +
    d ((s.reg (Reg.PG_POS act)).toNat != leAt r 48 4) 4 + d (enc 32 h.acc.resid != leAt r 52 4) 8 + d (hlState s act != leAt r 5 1) 16

/-- A replay ends with a result (R474). -/
def rpEnd (result fields pos : Nat) : Act := fun s =>
  [.fld Reg.WRK_RP_CTL 1 1 0, .reg Reg.WRK_RP_STAT (w32 (fields * 8 + result)), .reg Reg.WRK_RP_POS (w32 pos), .sq Reg.WRK_STAT 8,
   updWrk (fun w => { w with replay := none }), updHl (s.fld Reg.WRK_RP_CTL 5 4) (fun h => { h with acc := {} })]

/-- REPLAY_TICK (R473, R474): one recorded tick runs and is compared. `cur`, `srv` and `prf` say where the
runs of its tokens meet an uncorrectable program word. -/
def execReplayTick (cur srv prf : Option Nat) (s : State) : Res :=
  run (fun s =>
    let act := s.fld Reg.WRK_RP_CTL 5 4
    match s.dyn.wrk.replay with
    | none => []
    | some i =>
      if !s.up 8 || !hlUp s act || !hlReplay s act || !reqReady s then []
      else
        let r := rpRecord s i
        if i ≠ 0 && (leAt r 4 1).testBit 4 then rpEnd 3 0 i s
        else seqs [rpTokens act i r cur srv prf, fun s =>
          if rpDiff s act r ≠ 0 then rpEnd 2 (rpDiff s act r) i s
          else if i + 1 = (s.reg Reg.WRK_RP_CNT).toNat then rpEnd 1 0 (i + 1) s
          else [.reg Reg.WRK_RP_POS (w32 (i + 1)), updWrk (fun w => { w with replay := some (i + 1) })]] s) s

end Sys2Proof.Machine
end

