-- ==== Sys2Proof/Machine/Sys.lean ====
section
/-! DEFINITION. The SYS block's guard, locks and 64-bit shadows (R36-R41, R47-R49). -/

namespace Sys2Proof.Machine

/-- Change the state of the SYS block that no register shows. -/
def updSys (g : SysD → SysD) : Act := upd (fun d => { d with sys := g d.sys })

/-- A guarded sequence is open. -/
def guardOpen (s : State) : Bool := s.bit Reg.SYS_GUARD_STAT 1

/-- The OWNER field of SYS_GUARD_STAT. [DEDUCED, log 80, unsafe] -/
def guardOwner (s : State) : Nat := s.fld Reg.SYS_GUARD_STAT 23 20

/-- The open sequence fails with a cause of Table 2.5 and closes (R38). -/
def guardFail (cause : Nat) : Act :=
  seqs [guardErr cause,
    fun _ => [.fld Reg.SYS_GUARD_STAT 1 1 0, .upd (fun d => { d with sys := { d.sys with guard := { val := none, late := cause == 1 } } })]]

/-- A write of SYS_GUARD_VAL or SYS_GUARD_INV with no sequence open (R38). -/
def guardStray (init : Initiator) : Act := fun s =>
  if s.dyn.sys.guard.late && guardOwner s == init.id then [] else guardErr 6 s

/-- A sequence opens, owned by the writer (R37). -/
def guardStart (init : Initiator) (data : Word) : Act := fun _ =>
  [.reg Reg.SYS_GUARD_TGT data, .fld Reg.SYS_GUARD_STAT 23 20 init.id, .fld Reg.SYS_GUARD_STAT 1 1 1,
   .upd (fun d => { d with sys := { d.sys with guard := {} } })]

/-- A write of SYS_GUARD_TGT (R36, R37). -/
def hGuardTgt (init : Initiator) (data : Word) : Act := fun s =>
  if guardOpen s && guardOwner s != init.id then guardFail 3 s
  else if guardOpen s then seqs [guardFail 3, guardStart init data] s
  else guardStart init data s

/-- A write of SYS_GUARD_VAL (R36-R38). -/
def hGuardVal (init : Initiator) (data : Word) : Act := fun s =>
  if !guardOpen s then guardStray init s
  else if guardOwner s != init.id then guardFail 3 s
  else [.upd (fun d => { d with sys := { d.sys with guard := { val := some data, late := false } } })]

/-- The SYS_LOCK bit of a block (Table 2.1); 32 where the map shows none. -/
def lockBit : Blk → Nat
  | .sys => 0 | .rst => 1 | .thm => 2 | .pwr => 3 | .mem => 4 | .cch => 5 | .shl => 6 | .hqe => 7 | .net => 8 | .pci => 9
  | .hl a => 10 + a
  | .lane g => 10 + g / 4
  | .wr a => 10 + a
  | .fe a => 10 + a
  | .dec => 14 | .wrk => 15
  | .mgt => 16 | .nvs => 16 | .tim => 16 | .dbg => 16
  | .hole => 32

/-- The target of the open sequence, a word-aligned BAR0 offset. -/
def guardTarget (s : State) : Nat := (s.reg Reg.SYS_GUARD_TGT).toNat % 2 ^ 24 / 4 * 4

/-- A register that holds GD fields (R38, cause 4). -/
def isGuarded (a : Nat) : Bool :=
  match regDef a with
  | some d => d.guarded
  | none => false

/-- The cause with which an accepted SYS_GUARD_INV fails, the lowest that holds; none when the write succeeds (R38). -/
def guardCause (s : State) (inv : Word) : Option Nat :=
  let bad2 := match s.dyn.sys.guard.val with
    | some v => inv != ~~~v
    | none => false
  if bad2 then some 2
  else if !isGuarded (guardTarget s) then some 4
  else if s.bit Reg.SYS_LOCK (lockBit (blkOf (guardTarget s)).1) then some 5
  else if s.dyn.sys.guard.val.isNone then some 6
  else none

/-- The sequence closes without a failure. -/
def guardClose : Act := fun _ =>
  [.fld Reg.SYS_GUARD_STAT 1 1 0, .upd (fun d => { d with sys := { d.sys with guard := {} } })]

/-- A write of SYS_GUARD_INV (R36-R41). `after` is what the owning block does when its guarded field changes. A target
whose domain is held takes nothing and logs IN_RESET (R27). [DEDUCED, log 18, unsafe] [DEDUCED, log 85, unsafe] -/
def hGuardInv (after : Nat → Word → Act) (init : Initiator) (data : Word) : PAct := fun s =>
  if !guardOpen s then lift (guardStray init) s
  else if guardOwner s != init.id then lift (guardFail 3) s
  else match guardCause s data with
    | some c => lift (guardFail c) s
    | none =>
      let a := guardTarget s
      let v := s.dyn.sys.guard.val.getD 0
      if s.up (domOf a) then seqsP [fun _ => [.gd a v], lift guardClose, lift (after a v)] s
      else lift (seqs [guardClose, accErr .inReset init a]) s

/-- A write of SYS_LOCK sets the bits written as 1 (R40). -/
def hSysLock (data : Word) : Act := fun s => [.reg Reg.SYS_LOCK (s.reg Reg.SYS_LOCK ||| data)]

/-- A write of SYS_GUARD_STAT: SEQ-checked (R35); CAUSE returns to 0 when GUARD_ERR clears (Table 2.11). -/
def hGuardStat (data : Word) : Act :=
  seqs [plainWrite Reg.SYS_GUARD_STAT data,
    fun s => if s.bit Reg.SYS_GUARD_STAT 0 then [] else [.fld Reg.SYS_GUARD_STAT 10 8 0]]

/-- GUARD_TGT_WRITE (R37). -/
def execGuardTgtWrite (init : Initiator) (data : Word) (s : State) : Res :=
  run (wrAccess init Reg.SYS_GUARD_TGT (hGuardTgt init data)) s

/-- GUARD_VAL_WRITE (R36). -/
def execGuardValWrite (init : Initiator) (data : Word) (s : State) : Res :=
  run (wrAccess init Reg.SYS_GUARD_VAL (hGuardVal init data)) s

/-- GUARD_WINDOW_EXPIRY (R36): 256 PERIPH cycles have ended with no SYS_GUARD_INV accepted. -/
def execGuardWindowExpiry (s : State) : Res :=
  run (fun s => if fabricUp s && guardOpen s then guardFail 1 s else []) s

/-- SYS_LOCK_WRITE (R40). -/
def execSysLockWrite (init : Initiator) (data : Word) (s : State) : Res :=
  run (wrAccess init Reg.SYS_LOCK (hSysLock data)) s

end Sys2Proof.Machine
end

