-- ==== Sys2Proof/Machine/Bus.lean ====
section
/-! DEFINITION. The register fabric as a whole (02): what a write of each register does, what a read returns and does, the
64-bit pairs (R47, R48), the bit-alias window (R50-R52), the indirect window (R42-R46, R531-R533) and the debug access port
(R478). -/

namespace Sys2Proof.Machine

/-! The indirect window. -/

/-- The bytes of a space of Table 2.6; a reserved code has the whole field. -/
def indSize (space : Nat) : Nat :=
  if space = 0 || space = 5 then 0x1000 else if space < 5 then 0x400 else if space = 6 then 0x800 else 2 ^ 24

/-- OFFSET after a data access (R43). -/
def indNext (space off : Nat) : Nat := if indSize space ≤ off + 4 then 0 else off + 4

/-- A word of the fuse space (R531). [DEDUCED, log 78, unsafe] -/
def fuseWord (off : Nat) : Word := w32 (ofLE ((List.range 4).map (fun i => Config.fuse (off + i))))

/-- A word of the AON space (R532, Tables 13.11 and 14.13, R461). -/
def aonWord (s : State) (off : Nat) : Word :=
  let a := s.dyn.aon
  if off = 0x000 then a.cause
  else if off = 0x004 then w32 a.count
  else if off = 0x010 then a.tripLatch
  else if off = 0x014 then a.tripNext
  else if off = 0x018 then a.tripStat
  else if 0x020 ≤ off && off < 0x038 then (viewEncl s (Reg.TIM_US_LO + (off - 0x020))).getD 0
  else 0

/-- A write of the AON space: RST_COUNT loads its count, TRIP_NEXT its fields, TIM_HOST commits with its high word. [DEDUCED, log 15, unsafe] -/
def aonWrite (off : Nat) (v : Word) : Act := fun s =>
  if off = 0x004 then [updAon (fun a => { a with count := v.toNat })]
  else if off = 0x014 then [updAon (fun a => { a with tripNext := v &&& 0x8FFFFFE0 })]
  else if off = 0x028 then [updAon (fun a => { a with host := a.host / 2 ^ 32 * 2 ^ 32 + v.toNat })]
  else if off = 0x02C then [timeCommit (s.dyn.aon.host % 2 ^ 32 + v.fld 15 0 * 2 ^ 32)]
  else []

/-- No response (R45). -/
def indNack : Act := fun _ => [.sq Reg.SYS_IND_STAT 2]

/-- An actuator's front end answers: its link sends frames and is not DOWN (02, The indirect window). [DEDUCED, log 84, unsafe] -/
def linkAnswers (s : State) (act : Nat) : Bool := feOn s act && !s.bit (Reg.FE_STAT act) 0

/-- What the remote space answers to a read; none where it does not respond. A front end answers where its link runs and it
sends an answer. [DESIGN CHOICE, log 16, safe] -/
def indAnswer (s : State) (space off : Nat) (answer : Option (BitVec 16 × Bool)) : Option Word :=
  if indSize space ≤ off then none
  else if space = 0 then some (aonWord s off)
  else if space < 5 then (if linkAnswers s (space - 1) then answer.map (fun v => w32 v.1.toNat) else none)
  else if space = 5 then some (Config.norCtl (off + 0x1000 * s.free))
  else if space = 6 then some (fuseWord off)
  else none

/-- A posted write is performed (R44, R45). The NOR controller's own registers take it, and from then on the
NVS engine and the trip-record writer get free bytes (R533). [DEDUCED, log 14, unsafe] [DESIGN CHOICE, log 16, safe] -/
def indPerform (space off : Nat) (v : Word) (answered : Bool) : Act := fun s =>
  if space = 6 then [.sq Reg.SYS_IND_STAT 4]
  else if indSize space ≤ off then indNack s
  else if space = 0 then aonWrite off v s
  else if space < 5 then
    (if linkAnswers s (space - 1) then
      seqs [feWrite (space - 1) 0 (off / 4) (v.fld 15 0),
        if !answered then indNack
        else if off = 0xC then fun _ => [updWa (space - 1) (fun w => { w with drv := v.fld 15 0 })]
        else if off = 8 then fun _ => [updWa (space - 1) (fun w => { w with headSel := none })] else skip] s
    else indNack s)
  else if space = 5 then [updRst (fun r => { r with norCtl := (off, v) :: r.norCtl })]
  else indNack s

/-- The posted write in progress ends. [DEDUCED, log 14, unsafe] -/
def indDone (answered : Bool) : Act := fun s =>
  match s.dyn.sys.ind with
  | none => []
  | some (space, off, v) =>
    seqs [indPerform space off v answered,
      fun _ => [.fld Reg.SYS_IND_STAT 0 0 0, .upd (fun d => { d with sys := { d.sys with ind := none } })]] s

/-- An access to the window waits while BUSY is set (R44): the posted write ends first, answered or not. [DESIGN CHOICE, log 13, unsafe] -/
def indSettle : Act := fun s =>
  if s.dyn.sys.ind.isSome then seqs [indDone (s.fresh % 2 == 0), fun _ => [.draw]] s else []

/-- SPACE and OFFSET of SYS_IND_ADDR. -/
def indSpace (s : State) : Nat := s.fld Reg.SYS_IND_ADDR 31 28
/-- OFFSET, in bytes. -/
def indOff (s : State) : Nat := s.fld Reg.SYS_IND_ADDR 23 2 * 4

/-- OFFSET advances (R43). -/
def indAdvance : Act := fun s => [.fld Reg.SYS_IND_ADDR 23 2 (indNext (indSpace s) (indOff s) / 4)]

/-- What a read of SYS_IND_DATA does beside returning its value (R43-R45); a front end's answer with a bad CRC is counted (R150). -/
def indReadAct (answer : Option (BitVec 16 × Bool)) : Act := fun s =>
  let fe := 1 ≤ indSpace s && indSpace s < 5
  let bad := match answer with
    | some v => !v.2
    | none => false
  seqs [(if fe then feReadFrame (indSpace s - 1) (indOff s / 4) else skip),
    (if fe && bad && (indAnswer s (indSpace s) (indOff s) answer).isSome then feCrcErr (indSpace s - 1) else skip),
    (if (indAnswer s (indSpace s) (indOff s) answer).isNone then indNack else skip),
    indAdvance] s

/-- The value a read of SYS_IND_DATA returns. -/
def indReadVal (s : State) (answer : Option (BitVec 16 × Bool)) : Word := (indAnswer s (indSpace s) (indOff s) answer).getD 0

/-- A write of SYS_IND_DATA (R43, R44). -/
def hIndData (data : Word) : Act := seqs [indSettle, fun s =>
  [.fld Reg.SYS_IND_STAT 0 0 1, .upd (fun d => { d with sys := { d.sys with ind := some (indSpace s, indOff s, data) } })],
  indAdvance]

/-- IND_DATA_READ (R44). `answer` is what the front end sends, if it does, and whether its CRC is right. -/
def execIndDataRead (init : Initiator) (answer : Option (BitVec 16 × Bool)) (s : State) : Res :=
  run (seqs [wrAccess init Reg.SYS_IND_DATA indSettle,
    fun s => rdAccess init Reg.SYS_IND_DATA 4 (fun s => (indReadVal s answer).toNat) (indReadAct answer) s]) s

/-- IND_DATA_WRITE (R44). -/
def execIndDataWrite (init : Initiator) (data : Word) (s : State) : Res :=
  run (wrAccess init Reg.SYS_IND_DATA (hIndData data)) s

/-- IND_WRITE_DONE (R44). -/
def execIndWriteDone (answered : Bool) (s : State) : Res := run (fun s => if fabricUp s then indDone answered s else []) s

/-! What a write of each register does. -/

/-- What a guarded field's new value makes its block do at once: a self-reset (R403), a restarted watchdog (R404), budgets that
take effect (R433). -/
def guardAfter (init : Initiator) (a : Nat) (v : Word) : Act :=
  if a = Reg.RST_SELF then (if v.bit 0 then raiseSrc .warm 5 init.id else skip)
  else if a = Reg.RST_WDOG then wdRestart
  else if (blkOf a).1 = .pwr then seqs [bwMirror, bwRun none]
  else skip

/-- Writes in SYS. -/
def wrSys (init : Initiator) (a : Nat) (d : Word) : PAct :=
  if a = Reg.SYS_GUARD_TGT then lift (hGuardTgt init d)
  else if a = Reg.SYS_GUARD_VAL then lift (hGuardVal init d)
  else if a = Reg.SYS_GUARD_INV then hGuardInv (guardAfter init) init d
  else if a = Reg.SYS_GUARD_STAT then lift (hGuardStat d)
  else if a = Reg.SYS_LOCK then lift (hSysLock d)
  else if a = Reg.SYS_IND_DATA then lift (hIndData d)
  else if a = Reg.SYS_IND_ADDR || a = Reg.SYS_IND_STAT then lift (seqs [indSettle, plainWrite a d])
  else lift (plainWrite a d)

/-- Writes in RST / CLK and the pad registers. -/
def wrRst (init : Initiator) (a : Nat) (d : Word) : PAct :=
  if Reg.CLK_DOM_OFF 0 ≤ a && a ≤ Reg.CLK_DOM_OFF 3 then hDomOff ((a - Reg.CLK_DOM_OFF 0) / 4) d
  else if a = Reg.RST_SW then lift (hRstSw init d)
  else if a = Reg.RST_WDOG_KICK then lift (hKick d)
  else if a = Reg.RST_PAD then lift (hPad d)
  else if a = Reg.RST_CORE_GO then lift (hCoreGo d)
  else if a = Reg.MPD_CMD then lift (hMpdCmd d)
  else lift (plainWrite a d)

/-- Writes in PWR. -/
def wrPwr (a : Nat) (d : Word) : Act :=
  if a = Reg.BW_SWREQ then hBwSwreq d
  else if a = Reg.BW_MAXWAIT then fun _ => [.reg Reg.BW_MAXWAIT 0]
  else plainWrite a d

/-- Writes in MEM. -/
def wrMem (a : Nat) (d : Word) : Act :=
  if a = Reg.MEM_TRAIN then hMemTrain d
  else if a = Reg.MEM_CE_FREE then hMemCeFree d
  else if a = Reg.MEM_FILL_CTL then hMemFill d
  else if a = Reg.MEM_SCRUB_CTL then hMemScrub d
  else plainWrite a d

/-- Writes in SHL. -/
def wrShl (a : Nat) (d : Word) : Act :=
  if a = Reg.SHL_KEY_SEL then hKeySel d
  else if a = Reg.SHL_KEY_DATA then hKeyData d
  else plainWrite a d

/-- Writes in a Headland engine's registers and memories. -/
def wrHl (act : Nat) (off a : Nat) (d : Word) : Act := fun s =>
  if a = Reg.HL_CTL act then hHlCtl act d s
  else if a = Reg.HL_FLAGS act then hHlFlags act d s
  else if a = Reg.HL_RAMP_CTL act then hRamp act d s
  else if s.bit (Reg.HL_RAMP_CTL act) 1 && (List.range 16).any (fun e => a = Reg.HL_RAMP_ADDR act e || a = Reg.HL_RAMP_TGT act e)
    then []
  else if a = Reg.PG_TGT act || isEngMem off then hEngMem act off d.toNat s
  else plainWrite a d s

/-- Writes in a lane's registers. -/
def wrLane (g a : Nat) (d : Word) : Act :=
  if a = Reg.LN_RATE g then hLnRate g d
  else if a = Reg.LN_CTL g then hLnCtl g d
  else if a = Reg.LN_CAP_FREE g then hCapFree g d
  else plainWrite a d

/-- Writes in an actuator's write, assist and front-end registers. -/
def wrWrite (act a : Nat) (d : Word) : Act := fun s =>
  if (List.range 4).any (fun j => a = Reg.WP_RATE act j) then rateSet a d s
  else if a = Reg.WA_GO act then hWaGo act d s
  else if Reg.AS_PWR act 0 0 ≤ a && a < Reg.AS_PWR act 16 0 then
    hAsPwr act ((a - Reg.AS_PWR act 0 0) / 0x80) ((a - Reg.AS_PWR act 0 0) % 0x80 / 4) d s
  else if a = Reg.FE_CTL act then seqs [hFeCtl act d (s.fresh % 2 ^ 16) (s.fresh / 2 ^ 16 % 2 == 0), fun _ => [.draw]] s
  else plainWrite a d s

/-- A write of a register that stands alone. -/
def wrOne (init : Initiator) (a : Nat) (d : Word) : PAct :=
  match blkOf a with
  | (.sys, _) => wrSys init a d
  | (.rst, _) => wrRst init a d
  | (.pwr, _) => lift (wrPwr a d)
  | (.mem, _) => lift (wrMem a d)
  | (.cch, _) => lift (if a = Reg.CCH_MAINT_CTL then hCchMaint d else plainWrite a d)
  | (.shl, _) => lift (wrShl a d)
  | (.net, _) => lift (if a = Reg.NET_CTL 0 then hNetCtl 0 d else if a = Reg.NET_CTL 1 then hNetCtl 1 d else plainWrite a d)
  | (.pci, _) => lift (if a = Reg.CC 0 then hCc 0 d else if a = Reg.CC 1 then hCc 1 d else plainWrite a d)
  | (.hl act, off) => lift (wrHl act off a d)
  | (.lane g, _) => lift (wrLane g a d)
  | (.wr act, _) => lift (wrWrite act a d)
  | (.fe act, _) => lift (wrWrite act a d)
  | (.wrk, _) => lift (if a = Reg.WRK_CTL then hWrkCtl d else if a = Reg.WRK_RP_CTL then hRpCtl d else plainWrite a d)
  | (.nvs, _) => lift (if a = Reg.NVS_CMD then hNvsCmd d else plainWrite a d)
  | (.dbg, _) => lift (if a = Reg.DBG_CORE then hDbgCore init d else plainWrite a d)
  | _ => lift (plainWrite a d)

/-- A pair whose two halves simply take what is written (R48). -/
def hiPlain (a : Nat) (lo : Option Word) (d : Word) : Act :=
  seqs [match lo with | some w => plainWrite (a - 4) w | none => skip, plainWrite a d]

/-- What a write of a _HI register does with the staged low word, if it matched (R48). The last three of SHL act only on a
commit. -/
def hiAct (a : Nat) (lo : Option Word) (d : Word) : Act := fun s =>
  match blkOf a with
  | (.mem, off) => if s.bit Reg.MEM_FILL_CTL 1 && 0x50 ≤ off && off < 0x68 then [] else hiPlain a lo d s
  | (.shl, off) =>
    if 0x80 ≤ off && off < 0xC0 then hSubmit ((off - 0x80) / 8) lo d s
    else if a = Reg.SHL_FENCE_CLR_HI then hFenceClr lo d s
    else if a = Reg.SHL_ENG_RST_HI then hEngRst lo d s
    else hiPlain a lo d s
  | (.hl act, off) =>
    if a = Reg.HL_PM_DATA_HI act then hPmHi act lo d s
    else if isTideMem off then hTideHi act ((off - 0xD000) / 8) lo d s
    else hiPlain a lo d s
  | _ => if a = Reg.TIM_HOST_HI then hTimHost lo d s else hiPlain a lo d s

/-- A _LO write stages (R48); HL_PM_DATA_LO is ignored while the microcode runs (R153). [DESIGN CHOICE, log 19, unsafe] -/
def loStage (init : Initiator) (a : Nat) (d : Word) : Act := fun s =>
  match blkOf a with
  | (.hl act, _) =>
    if a = Reg.HL_PM_DATA_LO act && s.bit (Reg.HL_CTL act) 0 then []
    else [.upd (fun x => { x with sys := { x.sys with stage := setAt x.sys.stage init.id (some (a, d)) } })]
  | _ => [.upd (fun x => { x with sys := { x.sys with stage := setAt x.sys.stage init.id (some (a, d)) } })]

/-- The place of a register in a 64-bit pair. -/
def pairOf (a : Nat) : Pair :=
  match regDef a with
  | some r => r.pair
  | none => .one

/-- A 32-bit write of a register that the access rules have let through. -/
def regWrite (init : Initiator) (a : Nat) (d : Word) : PAct :=
  match pairOf a with
  | .one => wrOne init a d
  | .lo => lift (loStage init a d)
  | .hi => lift (hiWrite init (a - 4) (fun lo => hiAct a lo d))

/-! The bit-alias window. -/

/-- The register and bit an address of the alias window stands for (R50). -/
def aliasOf (addr : Nat) : Option (Nat × Nat) :=
  if 0x800000 ≤ addr && addr < 0x1000000 then
    some ((addr - 0x800000) / 4 / 32 * 4, (addr - 0x800000) / 4 % 32)
  else none

/-- The type of a register's bit: none where no field covers it. -/
def bitType (a b : Nat) : Option FType :=
  match regDef a with
  | some r => (r.fields.find? (fun x => x.lo ≤ b && b ≤ x.hi)).map (fun x => x.ty)
  | none => none

/-- An alias write of a value to bit b of a register (R52, Table 2.3). It never stages or commits. A software write of
SYS_GUARD_TGT opens a sequence, one of SYS_LOCK only sets, and one of CLK_DOM_OFF gates. [DEDUCED, log 17, unsafe] -/
def aliasSet (init : Initiator) (a b : Nat) (v : Bool) : PAct := fun s =>
  let w := (s.reg a).setBit b v
  let put : PAct :=
    if a = Reg.SYS_GUARD_TGT then lift (hGuardTgt init w)
    else if a = Reg.SYS_LOCK then lift (hSysLock w)
    else if a = Reg.SYS_IND_ADDR then lift (seqs [indSettle, fun _ => [.fld a b b (if v then 1 else 0)]])
    else if Reg.CLK_DOM_OFF 0 ≤ a && a ≤ Reg.CLK_DOM_OFF 3 then hDomOff ((a - Reg.CLK_DOM_OFF 0) / 4) w
    else fun _ => [.eff (.fld a b b (if v then 1 else 0))]
  match bitType a b with
  | some .rw => put s
  | some .ct => put s
  | some .hw => if hwEnabled s a then [] else put s
  | some .gd => lift (guardErr 7) s
  | _ => []

/-- Why a word access acts on nothing, with alias words judged as the register they stand for (R52). -/
def busError (s : State) (addr size : Nat) (wr : Bool) : Option AccErr :=
  match aliasOf addr with
  | none => accessError s addr size wr
  | some (a, _) =>
    if addr % size ≠ 0 || !mapped a then some .unmapped
    else if !s.up (domOf a) then some .inReset
    else if wr && size < 4 then some .narrow
    else none

/-- A write of at most 32 bits (R24-R27, R529). -/
def wrWordBus (init : Initiator) (addr size : Nat) (d : Word) : PAct := fun s =>
  if !initiatorOk s init then []
  else match busError s addr size true with
    | some e => lift (accErr e init addr) s
    | none => match aliasOf addr with
      | some (a, b) => aliasSet init a b (d.bit 0) s
      | none => regWrite init (addr / 4 * 4) d s

/-- A write of any size: an aligned 8-byte access is the low word's access and then the high word's (R24); a misaligned one acts
on nothing (R529). -/
def busWrite (init : Initiator) (addr size : Nat) (d : Nat) : PAct :=
  if size = 8 then
    (if addr % 8 = 0 then seqsP [wrWordBus init addr 4 (w32 d), wrWordBus init (addr + 4) 4 (w32 (d / 2 ^ 32))]
    else fun s => if initiatorOk s init then lift (accErr .unmapped init addr) s else [])
  else wrWordBus init addr size (w32 d)

/-! Reads. -/

/-- The word a register shows, by the views of the blocks that keep its state elsewhere; WO and RZ bits read zero (Table 2.3). -/
def liveWord (s : State) (a : Nat) : Word :=
  match (viewRst s a).or (viewEncl s a) with
  | some w => w
  | none =>
    match blkOf a with
    | (.sys, _) =>
      if a = Reg.SYS_UID_LO then w32 dieUid else if a = Reg.SYS_UID_HI then w32 (dieUid / 2 ^ 32) else s.reg a
    | (.rst, _) => if a = Reg.PAD_FE then viewPadFe s else if a = Reg.GPIO_IN then viewGpio s else s.reg a
    | (.shl, off) =>
      if 0xC0 ≤ off && off < 0xE0 then viewPool s ((off - 0xC0) / 4)
      else if 0x200 ≤ off && off < 0x300 then viewEng s ((off - 0x200) / 4)
      else if a = Reg.SHL_FENCED_LO then viewFenced s 0
      else if a = Reg.SHL_FENCED_HI then viewFenced s 32
      else s.reg a
    | (.hqe, _) => if a = Reg.HQE_USE then viewUse s else if a = Reg.HQE_LINK_INFO then viewLink s else s.reg a
    | (.net, _) => if a = Reg.NET_LINKS then viewLinks s else s.reg a
    | (.pci, _) => if a = Reg.PCI_STAT then viewPci s else s.reg a
    | (.hl act, _) =>
      let pm := (pmGet s act (s.fld (Reg.HL_PM_ADDR act) 13 0)).getD s.fresh
      if a = Reg.HL_PM_DATA_LO act then w32 pm else if a = Reg.HL_PM_DATA_HI act then w32 (pm / 2 ^ 32) else s.reg a
    | (.lane g, _) =>
      if a = Reg.LN_FAIL_LO g then (failFront s g).1 else if a = Reg.LN_FAIL_HI g then (failFront s g).2 else s.reg a
    | (.thm, _) => match (List.range 30).find? (fun i => a == Reg.THM_SENSE i) with
        | some i => (s.reg a).setBit 30 (sensCounted s i)
        | none => s.reg a
    | (.dbg, _) => if a = Reg.DBG_CORE then viewDbgCore s else s.reg a
    | _ => s.reg a

/-- The bits a read shows. -/
def readMask (a : Nat) : Word :=
  match regDef a with
  | some r => r.defMask &&& ~~~(r.tyMask .wo)
  | none => 0

/-- A read of the front-end spaces through a generic access: what the front end answers is free. [DESIGN CHOICE, log 16, safe] -/
def freeAnswer (s : State) : Option (BitVec 16 × Bool) :=
  if s.fresh % 2 = 0 then none else some (BitVec.ofNat 16 (s.fresh / 4), s.fresh / 2 % 2 == 0)

/-- The word a read returns: a _HI register shows its initiator's shadow where the tag matches (R47). -/
def busWord (s : State) (init : Initiator) (a : Nat) : Word :=
  if a = Reg.SYS_IND_DATA then indReadVal s (freeAnswer s)
  else match pairOf a, s.dyn.sys.shadow.getD init.id none with
    | .hi, some (t, w) => if t = a then w else liveWord s a &&& readMask a
    | _, _ => liveWord s a &&& readMask a

/-- What a read does to the register: a _LO register latches its high word (R47), LN_FAIL pops, HL_PM_ADDR and the indirect
offset advance. -/
def readAct (init : Initiator) (a : Nat) : Act := fun s =>
  let pop : Option Nat := match blkOf a with
    | (.lane g, _) => if a = Reg.LN_FAIL_LO g then some g else none
    | _ => none
  match pop with
  | some g => failPop init g s
  | none =>
    (if a = Reg.SYS_IND_DATA then indReadAct (freeAnswer s) s else []) ++
    (match pairOf a with
      | .lo => [.upd (fun x => { x with sys := { x.sys with
          shadow := setAt x.sys.shadow init.id (some (a + 4, liveWord s (a + 4) &&& readMask (a + 4))) } })]
      | _ => []) ++
    (match blkOf a with
      | (.hl act, _) => if a = Reg.HL_PM_DATA_HI act then [.fld (Reg.HL_PM_ADDR act) 13 0 (s.fld (Reg.HL_PM_ADDR act) 13 0 + 1)] else []
      | _ => []) ++
    [.draw]

/-- A register of the indirect window. -/
def isInd (a : Nat) : Bool := a = Reg.SYS_IND_ADDR || a = Reg.SYS_IND_DATA || a = Reg.SYS_IND_STAT

/-- The register whose word an address reads: an alias word's register, or its own (R51). -/
def regAt (addr : Nat) : Nat :=
  match aliasOf addr with
  | some (a, _) => a
  | none => addr / 4 * 4

/-- The bytes an address reads of its word: an alias word is the bit (R51); a narrow read the addressed bytes (R25). -/
def pickBytes (addr size : Nat) (w : Word) : Nat :=
  let v := match aliasOf addr with
    | some (_, b) => if w.bit b then 1 else 0
    | none => w.toNat
  v / 2 ^ (8 * (addr % 4)) % 2 ^ (8 * size)

/-- The value a read of at most 32 bits returns; zero with an access error. -/
def rdWordVal (s : State) (init : Initiator) (addr size : Nat) : Nat :=
  if (busError s addr size false).isSome then 0 else pickBytes addr size (busWord s init (regAt addr))

/-- What it does. An access to the indirect window waits for a posted write first. -/
def rdWordAct (init : Initiator) (addr size : Nat) : Act := fun s =>
  match busError s addr size false with
  | some e => accErr e init addr s
  | none => readAct init (regAt addr) s

/-- The wait of R44 before a read of the window. -/
def rdWait (addr size : Nat) : Act := fun s =>
  if (busError s addr size false).isNone && isInd (regAt addr) then indSettle s else []

/-- A read of any size, and what becomes of its value. -/
def busReadWith (init : Initiator) (addr size : Nat) (k : Nat → Act) : Act := fun s =>
  if !initiatorOk s init then []
  else if size = 8 then
    (if addr % 8 = 0 then
      seqs [rdWait addr 4, fun s =>
        let lo := rdWordVal s init addr 4
        seqs [rdWordAct init addr 4, rdWait (addr + 4) 4, fun s =>
          seqs [k (lo + 2 ^ 32 * rdWordVal s init (addr + 4) 4), rdWordAct init (addr + 4) 4] s] s] s
    else seqs [accErr .unmapped init addr, k 0] s)
  else seqs [rdWait addr size, fun s => seqs [k (rdWordVal s init addr size), rdWordAct init addr size] s] s

/-- A read whose value goes back to its initiator. [DEDUCED, log 11, safe] -/
def busRead (init : Initiator) (addr size : Nat) : Act :=
  busReadWith init addr size (fun v => fun _ => [.emit (.readData init addr v)])

/-! The commands. -/

/-- REGISTER_WRITE (R24-R30, R529). -/
def execRegisterWrite (init : Initiator) (addr : BitVec 24) (size : Size) (data : BitVec 64) (s : State) : Res :=
  runP (busWrite init addr.toNat size.bytes data.toNat) s

/-- SQ_STATUS_WRITE (R35): a 32-bit write of an SQ register. -/
def execSqStatusWrite (init : Initiator) (addr : BitVec 24) (data : Word) (s : State) : Res :=
  runP (busWrite init addr.toNat 4 data.toNat) s

/-- LO_REGISTER_READ (R47): a read of a _LO register; every other register's read is the same access. [DEDUCED, log 11, safe] -/
def execLoRegisterRead (init : Initiator) (addr : BitVec 24) (size : Size) (s : State) : Res :=
  run (busRead init addr.toNat size.bytes) s

/-- LO_REGISTER_WRITE (R48). -/
def execLoRegisterWrite (init : Initiator) (addr : BitVec 24) (data : Word) (s : State) : Res :=
  runP (busWrite init addr.toNat 4 data.toNat) s

/-- HI_REGISTER_WRITE (R48). -/
def execHiRegisterWrite (init : Initiator) (addr : BitVec 24) (data : Word) (s : State) : Res :=
  runP (busWrite init addr.toNat 4 data.toNat) s

/-- ALIAS_WRITE (R52). -/
def execAliasWrite (init : Initiator) (addr : BitVec 24) (data : Word) (s : State) : Res :=
  runP (busWrite init addr.toNat 4 data.toNat) s

/-- GUARD_INV_WRITE (R36-R41). -/
def execGuardInvWrite (init : Initiator) (data : Word) (s : State) : Res :=
  runP (wrAccessP init Reg.SYS_GUARD_INV (hGuardInv (guardAfter init) init data)) s

/-! The debug access port (R478). -/

/-- What Capture-DR returns of the previous access: DATA and STATUS; the other bits are free. -/
def dbgCapture (s : State) : List Bool :=
  bitsLE 58 (s.dyn.tap.stat % 4 + s.dyn.tap.data.toNat * 4 + s.fresh * 2 ^ 34)

/-- DBG_ACCESS (R478): the previous access's result leaves; then Update-DR issues a read (1) or a write (2) as initiator 6. [DEDUCED, log 23, unsafe] [DEDUCED, log 80, unsafe] -/
def execDbgAccess (op : BitVec 2) (addr : BitVec 22) (data : Word) (s : State) : Res :=
  let a := addr.toNat * 4
  runP (fun s =>
    if !tapUp s then []
    else seqsP [
      lift (tapSelect Tap.dbg), fun s => [.eff (.emit (.tdo (dbgCapture s))), .eff .draw],
      fun s =>
        if op.toNat ≠ 1 && op.toNat ≠ 2 then []
        else if !s.up 7 then [.eff (updTap (fun t => { t with stat := 1 }))]
        else if !initiatorOk s .jtag then [.eff (updTap (fun t => { t with stat := 2 }))]
        else if op.toNat = 1 then
          lift (busReadWith .jtag a 4 (fun v => fun _ => [updTap (fun t => { t with data := w32 v, stat := 0 })])) s
        else seqsP [busWrite .jtag a 4 data.toNat, fun _ => [.eff (updTap (fun t => { t with data := data, stat := 0 }))]] s] s) s

end Sys2Proof.Machine
end

