-- ==== Sys2Proof/Machine/Deep.lean ====
section
/-! DEFINITION. The deep decoders (R106-R114, R116). -/

namespace Sys2Proof.Machine

/-- Change the deep decoders' state. -/
def updDec (g : DecD → DecD) : Eff := .upd (fun d => { d with dec := g d.dec })

/-- A decoder's job, and its change. -/
def State.ddJob (s : State) (d : Nat) : Option DdJob := s.dyn.dec.jobs.getD d none
/-- Change a decoder's job. -/
def updJob (d : Nat) (g : DdJob → DdJob) : Eff := updDec (fun c => { c with jobs := modAt c.jobs d (fun j => j.map g) })

/-- Ring entries in force: a power of two from 16 to 1,024, else 16 (Table 4.17). -/
def decEntries (w : Word) : Nat :=
  let n := w.fld 10 0
  if [16, 32, 64, 128, 256, 512, 1024].contains n then n else 16

/-- The deep decoders' rings run. -/
def decUp (s : State) (d : Nat) : Bool := s.up 63 && s.up (59 + d)

/-- The decoder that takes the next job: the lowest-numbered idle one that is enabled (R106). -/
def ddIdle (s : State) : Option Nat :=
  (List.range 4).find? (fun d => s.bit Reg.DEC_CTL d && decUp s d && (s.ddJob d).isNone)

/-- A descriptor that R108 rejects before any record is read. -/
def ddBadDesc (b : List Byte) : Bool :=
  let mi := leAt b 48 1
  mi == 0 || 64 < mi || leAt b 49 1 % 128 == 0 || 32 < leAt b 52 2 || leAt b 32 8 % 64 != 0

/-- Records to average. -/
def ddCaps (j : DdJob) : Nat := leAt j.desc 50 1 % 4 + 1

/-- DD_JOB_TAKE (R106, R108): the next job of the ring goes to the lowest-numbered idle enabled decoder. -/
def execDdJobTake (s : State) : Res :=
  run (fun s =>
    let n := decEntries (s.reg Reg.DEC_JQ_SIZE)
    let h := s.fld Reg.DEC_JQ_HEAD 9 0 % n
    match ddIdle s with
    | none => []
    | some d =>
      if h = s.fld Reg.DEC_JQ_TAIL 9 0 % n || !reqReady s then []
      else
        let a := s.pair Reg.DEC_JQ_BASE_LO + 64 * h
        let desc := reqRead s a 64
        let res := match desc with
          | none => some { status := 3 : DdResult }
          | some b => if ddBadDesc b then some { status := 2 : DdResult } else none
        let j : DdJob := { index := h, desc := desc.getD (leBytes 64 s.fresh), result := res }
        seqs [reqReadEv true a 64 2, fun _ => [.draw,
          .reg Reg.DEC_JQ_HEAD (w32 ((h + 1) % n)),
          .reg (Reg.DEC_DD_STAT d) (w32 (2 ^ 31 + h)),
          updDec (fun c => { c with jobs := setAt c.jobs d (some j) })]] s) s

/-! Starts (R110, R111). -/

/-- The reference start, alternative start and the start mark A gives, from a record's or a search's marks. REF is 3 after
a search that found a mark, 2 with servo timing alone. -/
structure DdRefs where
  cas   : Nat
  main  : DdStart
  alt   : Option DdStart
  base  : Int
deriving DecidableEq, Repr

/-- The references of resolved marks (R94, R110, Table 4.7). -/
def ddRefs (pa pb : Option Int) (distA distB : Nat) (soft : Bool) : DdRefs :=
  let cas := syncCase pa pb
  let a := pa.map (fun p => { start := p + 128, ref := if soft then 3 else 0 : DdStart })
  let b := pb.map (fun p => { start := p + 32, ref := if soft then 3 else 1 : DdStart })
  let base : Int := match pa, pb with
    | some p, _ => p + 128
    | none, some q => q - 96 + 128
    | none, none => 368
  let none2 : DdStart := { start := 368, ref := 2 }
  if refIsB cas distA distB then { cas := cas, main := b.getD none2, alt := a, base := base }
  else { cas := cas, main := (a.or b).getD none2, alt := b, base := base }

/-- The offsets HYP_MASK enables, in sequence order (Table 4.6). -/
def hypOffsets (mask : Nat) : List Int :=
  ((List.range 7).zip [0, -1, 1, -2, 2, -3, 3]).filterMap (fun p => if mask.testBit p.1 then some p.2 else none)

/-- Keep the first of starts that agree (R111). -/
def distinct : List DdStart → List DdStart
  | [] => []
  | x :: xs => x :: (distinct xs).filter (fun y => y.start != x.start)

/-- The starts tried, in order (R111). [DESIGN CHOICE, log 108, unsafe] -/
def ddStarts (r : DdRefs) (mask : Nat) : List DdStart :=
  let offs := hypOffsets mask
  let around := fun (b : DdStart) (os : List Int) => os.map (fun o => { b with start := b.start + o })
  let alts := fun (c : Nat) => if r.cas = c then r.alt.toList else []
  distinct (around r.main (offs.filter (fun o => o == 0)) ++ alts 3 ++ around r.main (offs.filter (fun o => o != 0)) ++
    (alts 4).flatMap (fun b => around b offs))

/-- An accepted mark position of a capture record (Table 4.5). -/
def recMark (h : List Byte) (o : Nat) : Option Int := if leAt h o 2 = 0x7FFF then none else some (sgn 16 (leAt h o 2))

/-- The codeword start a record's own reference gives (R94, R109). -/
def recStart (h : List Byte) : Int :=
  let pa := recMark h 16
  let pb := recMark h 18
  codeStart pa pb (refIsB (syncCase pa pb) (leAt h 14 1) (leAt h 15 1))

/-- The asperity spans of a record (Table 4.5). -/
def recSpans (h : List Byte) : List (Nat × Nat) :=
  (List.range (min 4 (leAt h 31 1))).map (fun i => (leAt h (52 + 4 * i) 2, leAt h (54 + 4 * i) 2))

/-- The codeword bits whose soft input is zero when a job decodes with its records at these starts (R109): those of the erasure list,
and for each record those of its asperity spans. -/
def ddErased (j : DdJob) (starts : List Int) : List (List (Nat × Nat)) :=
  j.eras :: (j.heads.zip starts).map (fun p => spanBits p.2 (recSpans p.1))

/-- A hypothesis moves every record by the same offset: the records stay aligned by their own references (R109). -/
def ddShifted (j : DdJob) (start : Int) : List Int := j.refs.map (fun r => r + (start - j.refs.headD start))

/-- The job with a hypothesis in progress. -/
def ddRun (cur : Option DdStart) (j : DdJob) : DdJob :=
  match cur with
  | some st => { j with cur := some st, zeroed := ddErased j (ddShifted j st.start) }
  | none => { j with cur := none }

/-- A job's starts are set up from resolved marks and the first hypothesis begins. -/
def ddBegin (d : Nat) (r : DdRefs) : Act := fun s =>
  match s.ddJob d with
  | none => []
  | some j =>
    let st := ddStarts r (leAt j.desc 49 1 % 128)
    let refs := r.main.start :: (j.heads.drop 1).map recStart
    [updJob d (fun j => ddRun st.head? { j with base := r.base, refs := refs, search := false, todo := st.drop 1, no := 0 }),
     .fld (Reg.DEC_DD_STAT d) 30 20 0]

/-- A job ends with a status before any decoding. -/
def ddFail (d st : Nat) : Eff := updJob d (fun j => { j with result := some { status := st } })

/-- All records are loaded: R108's last check, then the search where R110 asks for one, else the hypotheses. [DESIGN CHOICE, log 107, unsafe] -/
def ddLoaded (d : Nat) : Act := fun s =>
  match s.ddJob d with
  | none => []
  | some j =>
    let id := fun (h : List Byte) => (leAt h 1 1, leAt h 2 2, leAt h 4 4)
    let h0 := j.heads.headD []
    if j.heads.any (fun h => id h != id h0) then [ddFail d 2]
    else if leAt h0 12 1 = 5 || (leAt j.desc 50 1).testBit 3 then [updJob d (fun j => { j with search := true })]
    else ddBegin d (ddRefs (recMark h0 16) (recMark h0 18) (leAt h0 14 1) (leAt h0 15 1) false) s

/-- The entries of an erasure list: first erased codeword bit and number of bits, 8 bytes each (Table 4.6). -/
def eraList (b : List Byte) : List (Nat × Nat) := (List.range (b.length / 8)).map (fun i => (leAt b (8 * i) 4, leAt b (8 * i + 4) 4))

/-- DD_RECORD_LOAD (R108, R109): the next capture record of a job is loaded, with the erasure list after the last one; a DRAM
error ends the job with STATUS 3. -/
def execDdRecordLoad (dd : Fin 4) (s : State) : Res :=
  let d := dd.val
  run (fun s =>
    match s.ddJob d with
    | none => []
    | some j =>
      if !decUp s d || !reqReady s || j.result.isSome || ddCaps j ≤ j.heads.length then []
      else
        let a := leAt j.desc (8 * j.heads.length) 8
        let last := ddCaps j = j.heads.length + 1
        let eras := leAt j.desc 40 8
        let en := if last && eras ≠ 0 then 8 * leAt j.desc 52 2 else 0
        match reqRead s a 128 with
        | none => seqs [reqReadEv false a 128 2, fun _ => [ddFail d 3]] s
        | some h =>
          let n := 2 * min 40960 (leAt h 28 2)
          if (reqRead s (a + 128) n).isNone || (reqRead s eras en).isNone then
            seqs [reqReadEv false (a + 128) n 2, reqReadEv false eras en 2, fun _ => [ddFail d 3]] s
          else seqs [reqReadEv false a (128 + n) 2, reqReadEv false eras en 2,
            fun s => [updJob d (fun j => { j with heads := j.heads ++ [h], eras := j.eras ++ eraList ((reqRead s eras en).getD []) })],
            (if last then ddLoaded d else skip)] s) s

/-- The references a search in the samples gives for a window (R110), TOL raised to 8. -/
def ddSearch (early : BitVec 224) (win : Nat) : DdRefs :=
  let m := searchBoth early win 8
  ddRefs m.1 m.2.1 m.2.2.1 m.2.2.2 true

/-- The window half-width of the deep decoders' search (R110): a job names none, and depends on no lane register (R475). [DESIGN CHOICE, log 119, safe] -/
def ddWin : Nat := max 8 (min 47 Config.ddWin)

/-- DD_SYNC_SEARCH (R110): the marks searched for in the samples, whose early decisions the operand gives; neither found takes 368 as
the start. -/
def execDdSyncSearch (dd : Fin 4) (early : BitVec 224) (s : State) : Res :=
  run (fun s =>
    match s.ddJob dd.val with
    | none => []
    | some j =>
      if !decUp s dd.val || !j.search || j.result.isSome then []
      else ddBegin dd.val (ddSearch early ddWin) s) s

/-- The checks of R97 a job's decoded bytes fail, with what its first record expects. -/
def ddChecks (j : DdJob) (code : List Byte) : Nat :=
  let h := j.heads.headD []
  frameChecks (leAt h 1 1) (leAt h 2 2) (leAt h 4 4) (leAt h 10 1) (leAt h 8 2) code

/-- The output of a job: user bytes, metadata, zeros (R113). -/
def ddOut (code : List Byte) : List Byte := fit 4112 code ++ zeros 48

/-- The hypothesis that ended with the fewest unsatisfied checks, the earliest on a tie (R112). -/
def ddBest (l : List (DdStart × Nat)) : Option DdStart :=
  (l.foldl (fun (b : Option (DdStart × Nat)) x =>
    match b with
    | none => some x
    | some y => if x.2 < y.2 then some x else some y) none).map (fun x => x.1)

/-- DD_HYPOTHESIS_END (R112, R113): the hypothesis in progress, or the final pass, has run as given. A hypothesis is
abandoned after ABANDON_ITER iterations where its unsatisfied checks have not then fallen below a quarter; else it runs to its success
or to MAX_ITER iterations. An abandoned one never succeeds. -/
def execDdHypothesisEnd (dd : Fin 4) (r : HypRun) (s : State) : Res :=
  let d := dd.val
  run (fun s =>
    match s.ddJob d with
    | none => []
    | some j =>
      match j.cur with
      | none => []
      | some st =>
        if !decUp s d || j.result.isSome then []
        else
          let code := fit 4608 r.hard
          let mx := leAt j.desc 48 1
          let ab := if leAt j.desc 51 1 = 0 then 8 else leAt j.desc 51 1
          let dropped := !j.final && ab < mx && !(1 ≤ r.iters && r.iters ≤ ab && unsatisfied code = 0) && r.unsat1 ≤ 4 * r.unsatAb
          let un := if dropped then max 1 r.unsatAb else unsatisfied code
          let chk := if un = 0 then ddChecks j code else 0
          let ok := un = 0 && chk = 0
          let it := if dropped then ab else if un = 0 then max 1 (min mx r.iters) else mx
          let res : DdResult := {
            status := if ok then 0 else 1, hyp := st.start - j.base, ref := st.ref, iters := it,
            corr := r.corrected, unsat := un, check := chk,
            out := if ok || (leAt j.desc 50 1).testBit 4 then some (ddOut code) else none }
          let ended := j.ended ++ [(st, un)]
          [.cnt Reg.DEC_ITER_CNT 31 0 it, .fld (Reg.DEC_DD_STAT d) 30 24 it] ++
          (if ok || j.final then [updJob d (fun j => { j with cur := none, result := some res })]
          else match j.todo with
            | n :: rest => [updJob d (fun j => ddRun (some n) { j with todo := rest, no := j.no + 1, ended := ended }),
                .fld (Reg.DEC_DD_STAT d) 23 20 (j.no + 1)]
            | [] => [updJob d (fun j => ddRun (ddBest ended) { j with final := true, ended := ended })])) s

/-- The completion ring is full (R114). -/
def cqFull (s : State) : Bool :=
  let n := decEntries (s.reg Reg.DEC_CQ_SIZE)
  (s.fld Reg.DEC_CQ_TAIL 9 0 + 1) % n == s.fld Reg.DEC_CQ_HEAD 9 0 % n

/-- A job's completion record (Table 4.7); PHASE is 1 on the first pass through the ring. -/
def ddRecord (s : State) (d : Nat) (j : DdJob) (r : DdResult) : List Byte :=
  slice j.desc 56 4 ++ [b8 (d * 16 + r.status * 2 + (if s.dyn.dec.pass % 2 = 0 then 1 else 0)), b8 (enc 8 r.hyp), b8 r.ref,
    b8 r.iters] ++ leBytes 4 r.corr ++ leBytes 2 r.unsat ++ [b8 r.check, 0]

/-- The output and completion record are written and the decoder falls idle (R113, R114). -/
def ddFinish (d : Nat) (j : DdJob) (r : DdResult) : Act := fun s =>
  let n := decEntries (s.reg Reg.DEC_CQ_SIZE)
  let t := s.fld Reg.DEC_CQ_TAIL 9 0 % n
  seqs [
    (match r.out with
      | some bs => reqWrite .dd false (leAt j.desc 32 8) bs
      | none => skip),
    reqWrite .dd true (s.pair Reg.DEC_CQ_BASE_LO + 16 * t) (ddRecord s d j r),
    fun _ => [.reg Reg.DEC_CQ_TAIL (w32 ((t + 1) % n)), .sq Reg.DEC_STAT (if r.status = 3 then 5 else 1),
      .cnt Reg.DEC_JOB_CNT 31 0 1, .cnt (if r.status = 0 then Reg.DEC_OK_CNT else Reg.DEC_FAIL_CNT) 31 0 1,
      .fld (Reg.DEC_DD_STAT d) 31 31 0,
      updDec (fun c => { c with jobs := setAt c.jobs d none, pass := if t + 1 = n then c.pass + 1 else c.pass })]] s

/-- DD_JOB_COMPLETE (R114): a decoder writes its result, or holds it where the completion ring is full. -/
def execDdJobComplete (dd : Fin 4) (s : State) : Res :=
  run (fun s =>
    match s.ddJob dd.val with
    | none => []
    | some j =>
      match j.result with
      | none => []
      | some r =>
        if !decUp s dd.val || !reqReady s || j.stuck then []
        else if cqFull s then [.sq Reg.DEC_STAT 2, updJob dd.val (fun j => { j with stuck := true })]
        else ddFinish dd.val j r s) s

/-- DD_RESULT_RELEASE (R114): a decoder that holds a result writes it once a slot has freed. -/
def execDdResultRelease (dd : Fin 4) (s : State) : Res :=
  run (fun s =>
    match s.ddJob dd.val with
    | none => []
    | some j =>
      match j.result with
      | none => []
      | some r =>
        if !decUp s dd.val || !reqReady s || !j.stuck || cqFull s then []
        else ddFinish dd.val j r s) s

end Sys2Proof.Machine
end

