-- ==== Sys2Proof/Machine/Ebb.lean ====
section
/-! DEFINITION. Ebb mode (R76-R83, R312). -/

namespace Sys2Proof.Machine

/-- Change the ebb state of a group. -/
def updEbb (a q : Nat) (g : EbbG → EbbG) : Eff := updHl a (fun h => { h with ebb := modAt h.ebb q g })

/-- Ebb state of a group. -/
def ebbOf (s : State) (a q : Nat) : EbbG := (s.hl a).ebb.getD q {}

/-- The requirement r_j of a head in 1/256 track: tide offset and drift (03, Ebb mode). -/
def ebbNeed (s : State) (a q j : Nat) : Int := tide256 s a q j (posP s a) + 4 * sgn 16 (s.fld (Reg.HL_DRIFT a (4 * q + j)) 15 0)

/-- Twice the differential offset of a set, in 1/256 track. -/
def spread (f : Nat → Int) (l : List Nat) : Int := maxI (l.map f) - minI (l.map f)

/-- ENTER_PCT; above 95 it acts as 95. -/
def enterPct (s : State) (a : Nat) : Nat := min 95 (s.fld (Reg.EBB_CFG a) 6 0)

/-- RELEASE_PCT; a value not below ENTER_PCT acts as ENTER_PCT - 1. -/
def releasePct (s : State) (a : Nat) : Nat := min (s.fld (Reg.EBB_CFG a) 14 8) (enterPct s a - 1)

/-- A spread exceeds a percentage of the stroke. [DEDUCED, log 56, unsafe] -/
def exceeds (s : State) (a pct : Nat) (x : Int) : Bool := (pct * s.fld (Reg.EBB_STROKE a) 15 0 * 8 : Nat) < x * 100

/-- Heads of the group firmware has excluded (R196), by position. -/
def outHeads (s : State) (a q : Nat) : List Nat := (List.range 4).filter (fun j => s.dyn.excluded.contains (16 * a + 4 * q + j))

/-- The highest-priority reason of Table 3.7 that holds. [DEDUCED, log 56, unsafe] -/
def ebbReason (s : State) (a q : Nat) : Nat :=
  if !(outHeads s a q).isEmpty then 6
  else if (s.fld (Reg.GEO_POP a) 19 16).testBit q then 5
  else if s.bit Reg.THM_STAT 11 then 4
  else if (List.range 4).any (fun j => (s.hl a).satAge.getD (4 * q + j) 64 < 64) then 3
  else if exceeds s a (enterPct s a) (spread (fun j => tide256 s a q j (posP s a)) [0, 1, 2, 3]) then 2
  else if exceeds s a (enterPct s a) (spread (ebbNeed s a q) [0, 1, 2, 3]) then 1
  else 0

/-- The pairs of the split that pairs position 0 with k. -/
def splitPairs (k : Nat) : List (List Nat) := [[0, k], [1, 2, 3].filter (fun j => j != k)]

/-- The larger spread of a split's pairs. -/
def splitCost (s : State) (a q k : Nat) : Int := maxI ((splitPairs k).map (spread (ebbNeed s a q)))

/-- The split R77 chooses, where one is permitted: the least larger pair offset, ties to the lowest position. -/
def bestSplit (s : State) (a q : Nat) : Option Nat :=
  let b := [2, 3].foldl (fun m k => if splitCost s a q k < splitCost s a q m then k else m) 1
  if exceeds s a (enterPct s a) (splitCost s a q b) then none else some b

/-- The split that costs least, permitted or not. [DESIGN CHOICE, log 101, unsafe] -/
def leastSplit (s : State) (a q : Nat) : Nat :=
  [2, 3].foldl (fun m k => if splitCost s a q k < splitCost s a q m then k else m) 1

/-- The depth a reason asks for (Table 3.7). -/
def ebbDepth (s : State) (a q reason : Nat) : Nat :=
  if reason = 6 then 1
  else if reason = 5 then (if s.fld (Reg.GEO_POP a) 21 20 = 1 then 1 else 2)
  else if (bestSplit s a q).isSome then 2 else 1

/-- The sets of a depth, in position order. -/
def ebbSets (s : State) (a q depth split : Nat) : List (List Nat) :=
  if depth = 2 then splitPairs split
  else ([0, 1, 2, 3].filter (fun j => !(outHeads s a q).contains j)).map (fun j => [j])

/-- The mask of a set. -/
def setMask (l : List Nat) : Nat := l.foldl (fun m j => m + 2 ^ j) 0

/-- The band in transfer at a position of a group: of its lane's read, or of its write path. -/
def bandInTransfer (s : State) (a q j : Nat) : Option Nat :=
  match (s.lane (4 * a + j)).xfer with
  | some x => if x.group.val = q then some x.band else none
  | none => if (s.path a j).on && (s.waD a).group == q then some (pathBand s a j) else none

/-- The zone in transfer in a group, with its namespace and first LBA (R83, R312). -/
def zoneInTransfer (s : State) (a q : Nat) : Option (Nat × Nat) :=
  ((List.range 4).findSome? (fun j => (bandInTransfer s a q j).map (fun b => zoneOf s (16 * a + 4 * q + j) b))).bind (fun z => (zoneNs s z).map (fun p => (p.1.nsid, p.2)))

/-- An Alignment log entry (R312, Table 10.10), the oldest of 127 overwritten first; ENTER raises the event on every link. -/
def alignLog (a q ev depth reason revs : Nat) : Act := fun s =>
  let z := (zoneInTransfer s a q).getD (0, 2 ^ 64 - 1)
  seqs [upd (fun d => { d with
      align := (⟨d.us, z.1, ev, depth, reason, 4 * a + q, z.2, revs⟩ :: d.align).take 127, alignTotal := d.alignTotal + 1 }),
    if ev = 1 then seqs [raiseAll (fun _ => true) (eventDw 7 0xC3 0xC3) true, trigger 3 a] else skip] s

/-- A write path whose head ebb mode removes stops after the last sector `w` gives, its gate falls, and it waits for the head's next
round (R78, R134). -/
def pathLeave (a j : Nat) (w : WriteRun) : Act := fun s =>
  if pathState s a j ≠ 2 then []
  else seqs [writeUpTo a j w (s.path a j).left, fun s =>
    if nextEnd s a j = .metaBad then pathMeta a j w s
    else if (s.path a j).left = 0 then pathEnd a j 0 s
    else seqs [gateSet a j false (wgLag s a j), fun _ => [.fld (Reg.WP_CTL a j) 4 3 1]] s] s

/-- A head leaves the active set: its read transfer is cut, its write path stops, at the next sector boundary (R78). -/
def headLeave (a q j : Nat) (w : WriteRun) : Act := fun s =>
  match (s.lane (4 * a + j)).xfer with
  | some x => if x.group.val = q then [cutXfer (4 * a + j)] else []
  | none => if (s.waD a).group = q then pathLeave a j w s else []

/-- The group transfers with a set: heads that leave it end their transfers at the next sector boundary (R78). [DEDUCED, log 56, unsafe] -/
def setActive (a q : Nat) (l : List Nat) (w : WriteRun) : Act := fun s =>
  seqs [each ((activeSet s a q).filter (fun j => !l.contains j)) (fun j => headLeave a q j w),
    fun _ => [.fld (Reg.EBB_STAT a q) 15 12 (setMask l)]] s

/-- The group takes a depth, a reason and a set; `bits` are the events of EBB_STAT (R83). [DEDUCED, log 56, unsafe] -/
def ebbTake (a q depth reason : Nat) (l : List Nat) (bits : Word) (w : WriteRun) : Act :=
  seqs [setActive a q l w, fun _ => [.fld (Reg.EBB_STAT a q) 11 8 reason, .fld (Reg.EBB_STAT a q) 5 4 (if depth = 4 then 0 else depth),
    .sq (Reg.EBB_STAT a q) bits]]

/-- Where the heads of a set that transfer stand: the next sector in band, writing paths past the last sector `w` gives. -/
def setReached (s : State) (a q : Nat) (l : List Nat) (w : WriteRun) : List Nat :=
  l.filterMap (fun j =>
    match (s.lane (4 * a + j)).xfer with
    | some x => if x.group.val = q then some (s.lane (4 * a + j)).next else none
    | none => if (s.path a j).on && (s.waD a).group == q then
        some (if pathState s a j = 2 then max (s.path a j).next (w.done.getD j 0 + 1) else (s.path a j).next) else none)

/-- A round begins at the present logical track and at a wedge (R79). [DEDUCED, log 57, unsafe] -/
def roundBegin (a q wedge : Nat) : Act := fun s =>
  [updEbb a q (fun e => { e with start := some ((posP s a / 256).toNat, wedge), span := 0 })]

/-- EBB_WEDGE_EVAL (R76-R78, R83): the differential offset, entry and deepening. [DEDUCED, log 57, unsafe] [DESIGN CHOICE, log 102, unsafe] -/
def execEbbWedgeEval (act : Fin 4) (turn : EbbTurn) (s : State) : Res :=
  let a := act.val
  let q := turn.group.val
  run (fun s =>
    if !hlRuns s a || hlState s a ≠ 2 || groupOf s a ≠ q then []
    else
      let x := spread (ebbNeed s a q) [0, 1, 2, 3]
      let r := ebbReason s a q
      let d := s.fld (Reg.EBB_STAT a q) 5 4
      let k := (bestSplit s a q).getD (leastSplit s a q)
      seqs [fun _ => [.fld (Reg.EBB_DIFF a q) 15 0 (x / 8).toNat],
        (if d = 0 then
          (if r = 0 then skip
          else
            let d' := ebbDepth s a q r
            seqs [fun _ => [updEbb a q (fun e => { e with split := k, dwell := 0, revs := 0 }), .cnt (Reg.EBB_ENTRIES a q) 31 0 1],
              alignLog a q 1 d' r 0, roundBegin a q turn.wedge.toNat, ebbTake a q d' r ((ebbSets s a q d' k).headD []) 1 turn.run])
        else seqs [
          fun _ => [updEbb a q (fun e => { e with
            dwell := if exceeds s a (releasePct s a) x then 0 else e.dwell + 1 })],
          if r = 0 then skip
          else if d = 2 && ebbDepth s a q r = 1 then
            let l := (ebbSets s a q 1 k).filter (fun l => (activeSet s a q).contains (l.headD 0))
            seqs [alignLog a q 3 1 r 0, ebbTake a q 1 r (l.headD ((ebbSets s a q 1 k).headD [])) 4 turn.run]
          else fun _ => [.fld (Reg.EBB_STAT a q) 11 8 r]])] s) s

/-- The set whose round follows. -/
def nextSet (sets : List (List Nat)) (cur : List Nat) : List Nat :=
  (sets.find? (fun l => cur.headD 0 < l.headD 0)).getD (sets.headD [])

/-- The round of the present set can end: the set has finished the span the first set of the cycle covered, and a set that follows it
begins at the track and angle its round began at (R79). [DEDUCED, log 57, unsafe] -/
def roundDone (s : State) (a q wedge : Nat) (sets : List (List Nat)) (w : WriteRun) : Bool :=
  let e := ebbOf s a q
  let cur := activeSet s a q
  let last := setMask (nextSet sets cur) == setMask (sets.headD [])
  let first := setMask cur == setMask (sets.headD [])
  (first || (setReached s a q cur w).all (fun n => e.span ≤ n)) &&
  (last || (match e.start with
    | some (t, g) => (posP s a / 256).toNat == t && wedge == g
    | none => true))

/-- EBB_ROUND_BOUNDARY (R79-R81): release, or the next set's round. [DEDUCED, log 57, unsafe] -/
def execEbbRoundBoundary (act : Fin 4) (turn : EbbTurn) (s : State) : Res :=
  let a := act.val
  let q := turn.group.val
  run (fun s =>
    let d := s.fld (Reg.EBB_STAT a q) 5 4
    let e := ebbOf s a q
    if !hlRuns s a || d = 0 || !roundDone s a q turn.wedge.toNat (ebbSets s a q d e.split) turn.run then []
    else
      let rr := max 1 (s.fld (Reg.EBB_CFG a) 31 24)
      let spent := if e.revs = 0 then rr else rr + 1
      let r := ebbReason s a q
      seqs [fun _ => [.cnt (Reg.EBB_REVS a q) 31 0 spent, updEbb a q (fun e => { e with revs := e.revs + spent })],
        if r = 0 && 16 * max 1 (s.fld (Reg.EBB_CFG a) 23 16) ≤ e.dwell then
          seqs [alignLog a q 2 4 0 (e.revs + spent), ebbTake a q 4 0 [0, 1, 2, 3] 2 turn.run]
        else
          let r' := if r = 0 then s.fld (Reg.EBB_STAT a q) 11 8 else r
          let d' := ebbDepth s a q r'
          let k := if d' = d && !exceeds s a (enterPct s a) (splitCost s a q e.split) then e.split else (bestSplit s a q).getD (leastSplit s a q)
          let sets := ebbSets s a q d' k
          let cur := activeSet s a q
          let l := if d' = d then nextSet sets cur else sets.headD []
          let reached := (setReached s a q cur turn.run).foldl max 0
          seqs [(if d' ≠ d || setMask l = setMask (sets.headD []) then roundBegin a q turn.wedge.toNat
              else if setMask cur = setMask (sets.headD []) then fun _ => [updEbb a q (fun e => { e with span := reached })] else skip),
            fun _ => [updEbb a q (fun e => { e with split := k })],
            if d' = d && setMask l = setMask cur then fun _ => [.fld (Reg.EBB_STAT a q) 11 8 r']
            else seqs [alignLog a q 3 d' r' 0, ebbTake a q d' r' l 4 turn.run]]] s) s

end Sys2Proof.Machine
end

