-- ==== Sys2Proof/Machine/Dispatch.lean ====
section
/-! DEFINITION. What each command does to everything but the queue: one arm per row of spec/opcode_table.json. -/

namespace Sys2Proof.Machine

/-- The effect of a command on everything but the queue. [DESIGN CHOICE, log 1, unsafe] -/
def exec (i : Instr) (s : State) : Host.Outcome State Fault Refusal :=
  match i with
  | .registerWrite init addr size data => Sys2Proof.Machine.execRegisterWrite init addr size data s
  | .sqStatusWrite init addr data => Sys2Proof.Machine.execSqStatusWrite init addr data s
  | .loRegisterRead init addr size => Sys2Proof.Machine.execLoRegisterRead init addr size s
  | .loRegisterWrite init addr data => Sys2Proof.Machine.execLoRegisterWrite init addr data s
  | .hiRegisterWrite init addr data => Sys2Proof.Machine.execHiRegisterWrite init addr data s
  | .aliasWrite init addr data => Sys2Proof.Machine.execAliasWrite init addr data s
  | .guardTgtWrite init data => Sys2Proof.Machine.execGuardTgtWrite init data s
  | .guardValWrite init data => Sys2Proof.Machine.execGuardValWrite init data s
  | .guardInvWrite init data => Sys2Proof.Machine.execGuardInvWrite init data s
  | .guardWindowExpiry => Sys2Proof.Machine.execGuardWindowExpiry s
  | .sysLockWrite init data => Sys2Proof.Machine.execSysLockWrite init data s
  | .indDataRead init answer => Sys2Proof.Machine.execIndDataRead init answer s
  | .indDataWrite init data => Sys2Proof.Machine.execIndDataWrite init data s
  | .indWriteDone answered => Sys2Proof.Machine.execIndWriteDone answered s
  | .laneDramStallCut lane => Sys2Proof.Machine.execLaneDramStallCut lane s
  | .sectorReread lane => Sys2Proof.Machine.execSectorReread lane s
  | .lateGrantRetry act path => Sys2Proof.Machine.execLateGrantRetry act path s
  | .ebbWedgeEval act turn => Sys2Proof.Machine.execEbbWedgeEval act turn s
  | .ebbRoundBoundary act turn => Sys2Proof.Machine.execEbbRoundBoundary act turn s
  | .tideHiCommit init act group seg data => Sys2Proof.Machine.execTideHiCommit init act group seg data s
  | .tideInhibitExpiry act group => Sys2Proof.Machine.execTideInhibitExpiry act group s
  | .lnRateWrite init lane data => Sys2Proof.Machine.execLnRateWrite init lane data s
  | .lnRateApply lane => Sys2Proof.Machine.execLnRateApply lane s
  | .synthLock write idx => Sys2Proof.Machine.execSynthLock write idx s
  | .laneDataPwrSet init lane => Sys2Proof.Machine.execLaneDataPwrSet init lane s
  | .lanePowerUpReady lane => Sys2Proof.Machine.execLanePowerUpReady lane s
  | .laneTransferStart lane xfer => Sys2Proof.Machine.execLaneTransferStart lane xfer s
  | .frameArrival lane arr => Sys2Proof.Machine.execFrameArrival lane arr s
  | .globalIteration lane hard => Sys2Proof.Machine.execGlobalIteration lane hard s
  | .captureWriteStart => Sys2Proof.Machine.execCaptureWriteStart s
  | .captureRecordDone samples => Sys2Proof.Machine.execCaptureRecordDone samples s
  | .lnCapFreeWrite init lane data => Sys2Proof.Machine.execLnCapFreeWrite init lane data s
  | .lnFailRead init lane => Sys2Proof.Machine.execLnFailRead init lane s
  | .ddJobTake => Sys2Proof.Machine.execDdJobTake s
  | .ddRecordLoad dd => Sys2Proof.Machine.execDdRecordLoad dd s
  | .ddSyncSearch dd sync => Sys2Proof.Machine.execDdSyncSearch dd sync s
  | .ddHypothesisEnd dd run => Sys2Proof.Machine.execDdHypothesisEnd dd run s
  | .ddJobComplete dd => Sys2Proof.Machine.execDdJobComplete dd s
  | .ddResultRelease dd => Sys2Proof.Machine.execDdResultRelease dd s
  | .waGo init act data => Sys2Proof.Machine.execWaGo init act data s
  | .writePathStart act path => Sys2Proof.Machine.execWritePathStart act path s
  | .wdrvIdleDisable act path => Sys2Proof.Machine.execWdrvIdleDisable act path s
  | .assistBiasSend act slot => Sys2Proof.Machine.execAssistBiasSend act slot s
  | .assistWarmDone act slot => Sys2Proof.Machine.execAssistWarmDone act slot s
  | .assistArmSend act => Sys2Proof.Machine.execAssistArmSend act s
  | .assistBiasHoldExpiry act slot => Sys2Proof.Machine.execAssistBiasHoldExpiry act slot s
  | .asPwrWrite init act slot zone data => Sys2Proof.Machine.execAsPwrWrite init act slot zone data s
  | .armIdleExpiry act slot => Sys2Proof.Machine.execArmIdleExpiry act slot s
  | .feHeartbeat act id crcOk => Sys2Proof.Machine.execFeHeartbeat act id crcOk s
  | .feLinkEnable init act data id => Sys2Proof.Machine.execFeLinkEnable init act data id s
  | .writeTransferEnd act path => Sys2Proof.Machine.execWriteTransferEnd act path s
  | .writeUnderrun act path last => Sys2Proof.Machine.execWriteUnderrun act path last s
  | .underrunRestart act path => Sys2Proof.Machine.execUnderrunRestart act path s
  | .writeInhibitBegin act reason wedge head done => Sys2Proof.Machine.execWriteInhibitBegin act reason wedge head done s
  | .feFaultAssert act => Sys2Proof.Machine.execFeFaultAssert act s
  | .waKillWrite init act data => Sys2Proof.Machine.execWaKillWrite init act data s
  | .inhibitVerifyRead act frames => Sys2Proof.Machine.execInhibitVerifyRead act frames s
  | .inhibitRewrite act => Sys2Proof.Machine.execInhibitRewrite act s
  | .coefMemoryWrite init act offset data => Sys2Proof.Machine.execCoefMemoryWrite init act offset data s
  | .coefHoldRelease init act => Sys2Proof.Machine.execCoefHoldRelease init act s
  | .pmDataWrite init act data => Sys2Proof.Machine.execPmDataWrite init act data s
  | .cfgTokenRun act rec => Sys2Proof.Machine.execCfgTokenRun act rec s
  | .curTokenRun act tick micro rec => Sys2Proof.Machine.execCurTokenRun act tick micro rec s
  | .srvTokenRun act tok micro => Sys2Proof.Machine.execSrvTokenRun act tok micro s
  | .prfTokenRun act wedge micro => Sys2Proof.Machine.execPrfTokenRun act wedge micro s
  | .hlLoad init act => Sys2Proof.Machine.execHlLoad init act s
  | .hlUnload init act => Sys2Proof.Machine.execHlUnload init act s
  | .vcCurrentFrame act value crcOk => Sys2Proof.Machine.execVcCurrentFrame act value crcOk s
  | .vcStatusFrame act value crcOk => Sys2Proof.Machine.execVcStatusFrame act value crcOk s
  | .parkTimeout act => Sys2Proof.Machine.execParkTimeout act s
  | .msSenseFrame act slot value crcOk => Sys2Proof.Machine.execMsSenseFrame act slot value crcOk s
  | .msTempFrame act value crcOk => Sys2Proof.Machine.execMsTempFrame act value crcOk s
  | .hlFlagsWrite init act data => Sys2Proof.Machine.execHlFlagsWrite init act data s
  | .rampGo init act data => Sys2Proof.Machine.execRampGo init act data s
  | .calibrate cmd => Sys2Proof.Machine.execCalibrate cmd s
  | .calMeasureUnit act unit => Sys2Proof.Machine.execCalMeasureUnit act unit s
  | .calUnitAbandon act => Sys2Proof.Machine.execCalUnitAbandon act s
  | .calCommit checkOk => Sys2Proof.Machine.execCalCommit checkOk s
  | .ladderDeep head band sector ok => Sys2Proof.Machine.execLadderDeep head band sector ok s
  | .ladderReread head band sector passes => Sys2Proof.Machine.execLadderReread head band sector passes s
  | .ladderShift head band sector ok => Sys2Proof.Machine.execLadderShift head band sector ok s
  | .ladderParity head band sector lost crcOk => Sys2Proof.Machine.execLadderParity head band sector lost crcOk s
  | .ladderTwin head band sector twin => Sys2Proof.Machine.execLadderTwin head band sector twin s
  | .relocateConventional head band sector readBack => Sys2Proof.Machine.execRelocateConventional head band sector readBack s
  | .pendingSpareWrite head band readBack => Sys2Proof.Machine.execPendingSpareWrite head band readBack s
  | .patrolRevolution act sectors => Sys2Proof.Machine.execPatrolRevolution act sectors s
  | .zoneStateSave zone => Sys2Proof.Machine.execZoneStateSave zone s
  | .cutWriteScan zone ends => Sys2Proof.Machine.execCutWriteScan zone ends s
  | .trackBeforeEndRead zone failed => Sys2Proof.Machine.execTrackBeforeEndRead zone failed s
  | .parityReadBack zone pos run failed => Sys2Proof.Machine.execParityReadBack zone pos run failed s
  | .ccEnWrite init fn data => Sys2Proof.Machine.execCcEnWrite init fn data s
  | .controllerReset link => Sys2Proof.Machine.execControllerReset link s
  | .ccShnWrite init fn data => Sys2Proof.Machine.execCcShnWrite init fn data s
  | .sqTailDoorbell link qid value => Sys2Proof.Machine.execSqTailDoorbell link qid value s
  | .cqHeadDoorbell link qid value => Sys2Proof.Machine.execCqHeadDoorbell link qid value s
  | .sqFetch entries => Sys2Proof.Machine.execSqFetch entries s
  | .completionPost cmd => Sys2Proof.Machine.execCompletionPost cmd s
  | .coalesceTimerExpiry link cqid => Sys2Proof.Machine.execCoalesceTimerExpiry link cqid s
  | .pcieHotReset port => Sys2Proof.Machine.execPcieHotReset port s
  | .pcieLinkDown port => Sys2Proof.Machine.execPcieLinkDown port s
  | .perstAssert port => Sys2Proof.Machine.execPerstAssert port s
  | .connect msg => Sys2Proof.Machine.execConnect msg s
  | .ready link nonce => Sys2Proof.Machine.execReady link nonce s
  | .readyTimeout link => Sys2Proof.Machine.execReadyTimeout link s
  | .reset link nonce => Sys2Proof.Machine.execReset link nonce s
  | .disconnect link msg nonce => Sys2Proof.Machine.execDisconnect link msg nonce s
  | .discAck link nonce => Sys2Proof.Machine.execDiscAck link nonce s
  | .disconnectTimeout link => Sys2Proof.Machine.execDisconnectTimeout link s
  | .keepalive link => Sys2Proof.Machine.execKeepalive link s
  | .rcRetryExhausted link => Sys2Proof.Machine.execRcRetryExhausted link s
  | .writeDataPull cmd data => Sys2Proof.Machine.execWriteDataPull cmd data s
  | .readDataPlace cmd go task => Sys2Proof.Machine.execReadDataPlace cmd go task s
  | .cePacketReceive link => Sys2Proof.Machine.execCePacketReceive link s
  | .cnpReceive link => Sys2Proof.Machine.execCnpReceive link s
  | .rateRecoveryTimer link => Sys2Proof.Machine.execRateRecoveryTimer link s
  | .pfcPauseSend port => Sys2Proof.Machine.execPfcPauseSend port s
  | .pfcPauseRelease port => Sys2Proof.Machine.execPfcPauseRelease port s
  | .pfcFrameReceive port prios pause => Sys2Proof.Machine.execPfcFrameReceive port prios pause s
  | .neighbourAnswer port kind addr request => Sys2Proof.Machine.execNeighbourAnswer port kind addr request s
  | .frameDrop port frame => Sys2Proof.Machine.execFrameDrop port frame s
  | .createIoCq cmd => Sys2Proof.Machine.execCreateIoCq cmd s
  | .createIoSq cmd => Sys2Proof.Machine.execCreateIoSq cmd s
  | .deleteIoCq cmd => Sys2Proof.Machine.execDeleteIoCq cmd s
  | .deleteIoSq cmd => Sys2Proof.Machine.execDeleteIoSq cmd s
  | .abort cmd => Sys2Proof.Machine.execAbort cmd s
  | .getLogPage cmd => Sys2Proof.Machine.execGetLogPage cmd s
  | .identify cmd => Sys2Proof.Machine.execIdentify cmd s
  | .setArbitration cmd => Sys2Proof.Machine.execSetArbitration cmd s
  | .setPowerManagement cmd => Sys2Proof.Machine.execSetPowerManagement cmd s
  | .setTemperatureThreshold cmd => Sys2Proof.Machine.execSetTemperatureThreshold cmd s
  | .setVolatileWriteCache cmd => Sys2Proof.Machine.execSetVolatileWriteCache cmd s
  | .setNumberOfQueues cmd => Sys2Proof.Machine.execSetNumberOfQueues cmd s
  | .setInterruptCoalescing cmd => Sys2Proof.Machine.execSetInterruptCoalescing cmd s
  | .setInterruptVectorConfig cmd => Sys2Proof.Machine.execSetInterruptVectorConfig cmd s
  | .setAsyncEventConfig cmd => Sys2Proof.Machine.execSetAsyncEventConfig cmd s
  | .setApst cmd data => Sys2Proof.Machine.execSetApst cmd data s
  | .setTimestamp cmd data => Sys2Proof.Machine.execSetTimestamp cmd data s
  | .getFeatures cmd => Sys2Proof.Machine.execGetFeatures cmd s
  | .asyncEventRequest cmd => Sys2Proof.Machine.execAsyncEventRequest cmd s
  | .namespaceCreate cmd data => Sys2Proof.Machine.execNamespaceCreate cmd data s
  | .namespaceFormatDone nsid => Sys2Proof.Machine.execNamespaceFormatDone nsid s
  | .namespaceDelete cmd => Sys2Proof.Machine.execNamespaceDelete cmd s
  | .firmwareCommit cmd => Sys2Proof.Machine.execFirmwareCommit cmd s
  | .firmwareActivate cmd => Sys2Proof.Machine.execFirmwareActivate cmd s
  | .firmwareImageDownload cmd data => Sys2Proof.Machine.execFirmwareImageDownload cmd data s
  | .recorderStatus cmd => Sys2Proof.Machine.execRecorderStatus cmd s
  | .recorderArm cmd => Sys2Proof.Machine.execRecorderArm cmd s
  | .recorderTrigger src act cmd => Sys2Proof.Machine.execRecorderTrigger src act cmd s
  | .recorderStop cmd => Sys2Proof.Machine.execRecorderStop cmd s
  | .recorderRelease cmd => Sys2Proof.Machine.execRecorderRelease cmd s
  | .recorderHeld => Sys2Proof.Machine.execRecorderHeld s
  | .keyLoad cmd data => Sys2Proof.Machine.execKeyLoad cmd data s
  | .keyClear cmd => Sys2Proof.Machine.execKeyClear cmd s
  | .unsupportedOpcode cmd => Sys2Proof.Machine.execUnsupportedOpcode cmd s
  | .flush cmd => Sys2Proof.Machine.execFlush cmd s
  | .write cmd list => Sys2Proof.Machine.execWrite cmd list s
  | .read cmd list => Sys2Proof.Machine.execRead cmd list s
  | .zoneAppend cmd list => Sys2Proof.Machine.execZoneAppend cmd list s
  | .deriveRead cmd list recipe => Sys2Proof.Machine.execDeriveRead cmd list recipe s
  | .writeCommit cmd => Sys2Proof.Machine.execWriteCommit cmd s
  | .bufferRunToMedia zone pos run => Sys2Proof.Machine.execBufferRunToMedia zone pos run s
  | .writeBufferAgeExpiry zone => Sys2Proof.Machine.execWriteBufferAgeExpiry zone s
  | .writeFaultRetry fault => Sys2Proof.Machine.execWriteFaultRetry fault s
  | .zoneClose cmd => Sys2Proof.Machine.execZoneClose cmd s
  | .zoneFinish cmd => Sys2Proof.Machine.execZoneFinish cmd s
  | .zoneOpen cmd => Sys2Proof.Machine.execZoneOpen cmd s
  | .zoneReset cmd => Sys2Proof.Machine.execZoneReset cmd s
  | .zoneOffline cmd => Sys2Proof.Machine.execZoneOffline cmd s
  | .zoneActionEffect cmd => Sys2Proof.Machine.execZoneActionEffect cmd s
  | .zoneMgmtReceive cmd list => Sys2Proof.Machine.execZoneMgmtReceive cmd list s
  | .shoalSubmit init pool data => Sys2Proof.Machine.execShoalSubmit init pool data s
  | .engineTakeTask eng => Sys2Proof.Machine.execEngineTakeTask eng s
  | .stealAttempt eng => Sys2Proof.Machine.execStealAttempt eng s
  | .sectDec eng => Sys2Proof.Machine.execSectDec eng s
  | .sectEnc eng => Sys2Proof.Machine.execSectEnc eng s
  | .parGen eng => Sys2Proof.Machine.execParGen eng s
  | .parRebuild eng => Sys2Proof.Machine.execParRebuild eng s
  | .derive eng => Sys2Proof.Machine.execDerive eng s
  | .deriveCheckOnly eng => Sys2Proof.Machine.execDeriveCheckOnly eng s
  | .segment eng => Sys2Proof.Machine.execSegment eng s
  | .digest eng => Sys2Proof.Machine.execDigest eng s
  | .crc eng => Sys2Proof.Machine.execCrc eng s
  | .taskComplete eng => Sys2Proof.Machine.execTaskComplete eng s
  | .taskDeadlineExpiry eng => Sys2Proof.Machine.execTaskDeadlineExpiry eng s
  | .reissueBufferDrain pool => Sys2Proof.Machine.execReissueBufferDrain pool s
  | .engineReset init data => Sys2Proof.Machine.execEngineReset init data s
  | .engineResetDone eng => Sys2Proof.Machine.execEngineResetDone eng s
  | .fenceClear init data => Sys2Proof.Machine.execFenceClear init data s
  | .keySelWrite init data => Sys2Proof.Machine.execKeySelWrite init data s
  | .keyDataWrite init data => Sys2Proof.Machine.execKeyDataWrite init data s
  | .deriveHoldExpiry idx => Sys2Proof.Machine.execDeriveHoldExpiry idx s
  | .memTrainGo init data => Sys2Proof.Machine.execMemTrainGo init data s
  | .memTrainDone pass => Sys2Proof.Machine.execMemTrainDone pass s
  | .dqsRetrack sub => Sys2Proof.Machine.execDqsRetrack sub s
  | .memoryRead cls addr flip => Sys2Proof.Machine.execMemoryRead cls addr flip s
  | .memoryWrite addr data => Sys2Proof.Machine.execMemoryWrite addr data s
  | .partialWrite addr data flip => Sys2Proof.Machine.execPartialWrite addr data flip s
  | .memCeFreeWrite init data => Sys2Proof.Machine.execMemCeFreeWrite init data s
  | .memFillGo init data => Sys2Proof.Machine.execMemFillGo init data s
  | .memFillDone => Sys2Proof.Machine.execMemFillDone s
  | .memScrubGo init data => Sys2Proof.Machine.execMemScrubGo init data s
  | .scrubStep flip => Sys2Proof.Machine.execScrubStep flip s
  | .cacheRequest req addr alloc wr err => Sys2Proof.Machine.execCacheRequest req addr alloc wr err s
  | .cacheFillComplete addr => Sys2Proof.Machine.execCacheFillComplete addr s
  | .cacheWritebackAccept => Sys2Proof.Machine.execCacheWritebackAccept s
  | .cacheClean init data => Sys2Proof.Machine.execCacheClean init data s
  | .cacheInvalidate init data => Sys2Proof.Machine.execCacheInvalidate init data s
  | .cacheCleanInvalidate init data => Sys2Proof.Machine.execCacheCleanInvalidate init data s
  | .cacheCleanAll init data => Sys2Proof.Machine.execCacheCleanAll init data s
  | .cacheCleanInvalidateAll init data => Sys2Proof.Machine.execCacheCleanInvalidateAll init data s
  | .cacheMaintInvalidOp init data => Sys2Proof.Machine.execCacheMaintInvalidOp init data s
  | .maintDone => Sys2Proof.Machine.execMaintDone s
  | .cacheWayDisable way => Sys2Proof.Machine.execCacheWayDisable way s
  | .cacheInitDone => Sys2Proof.Machine.execCacheInitDone s
  | .porstNAssert short => Sys2Proof.Machine.execPorstNAssert short s
  | .porstNRelease slotId refsel bootMode => Sys2Proof.Machine.execPorstNRelease slotId refsel bootMode s
  | .resetNAssert short => Sys2Proof.Machine.execResetNAssert short s
  | .resetNRelease => Sys2Proof.Machine.execResetNRelease s
  | .supplyMonitorFall rail => Sys2Proof.Machine.execSupplyMonitorFall rail s
  | .supplyMonitorRise rail => Sys2Proof.Machine.execSupplyMonitorRise rail s
  | .refGood => Sys2Proof.Machine.execRefGood s
  | .refLost => Sys2Proof.Machine.execRefLost s
  | .pllLock => Sys2Proof.Machine.execPllLock s
  | .pllFail => Sys2Proof.Machine.execPllFail s
  | .clockGoodAssert fam => Sys2Proof.Machine.execClockGoodAssert fam s
  | .clockGoodFall fam => Sys2Proof.Machine.execClockGoodFall fam s
  | .levelRelease => Sys2Proof.Machine.execLevelRelease s
  | .warmAssert => Sys2Proof.Machine.execWarmAssert s
  | .warmSourceRelease => Sys2Proof.Machine.execWarmSourceRelease s
  | .hostAssert => Sys2Proof.Machine.execHostAssert s
  | .hostRelease => Sys2Proof.Machine.execHostRelease s
  | .domainOffWrite init idx data => Sys2Proof.Machine.execDomainOffWrite init idx data s
  | .domainRelease dom => Sys2Proof.Machine.execDomainRelease dom s
  | .optionLoadDone sfdp => Sys2Proof.Machine.execOptionLoadDone sfdp s
  | .rstSwWrite init data => Sys2Proof.Machine.execRstSwWrite init data s
  | .watchdogKick init data => Sys2Proof.Machine.execWatchdogKick init data s
  | .watchdogExpiry => Sys2Proof.Machine.execWatchdogExpiry s
  | .padRelease init data => Sys2Proof.Machine.execPadRelease init data s
  | .bootRomRun trained => Sys2Proof.Machine.execBootRomRun trained s
  | .bootUartImage image => Sys2Proof.Machine.execBootUartImage image s
  | .coreGo init data => Sys2Proof.Machine.execCoreGo init data s
  | .thermalConversion convs => Sys2Proof.Machine.execThermalConversion convs s
  | .tripRecordWrite wait readBackOk suspended => Sys2Proof.Machine.execTripRecordWrite wait readBackOk suspended s
  | .graceExpiry => Sys2Proof.Machine.execGraceExpiry s
  | .headSensorTimeout act => Sys2Proof.Machine.execHeadSensorTimeout act s
  | .apstIdleExpiry => Sys2Proof.Machine.execApstIdleExpiry s
  | .bwRequest cls idx => Sys2Proof.Machine.execBwRequest cls idx s
  | .bwHoldEnd rail => Sys2Proof.Machine.execBwHoldEnd rail s
  | .bwSwreqWrite init data => Sys2Proof.Machine.execBwSwreqWrite init data s
  | .spinStaggerExpiry => Sys2Proof.Machine.execSpinStaggerExpiry s
  | .bwMaxwaitWrite init data => Sys2Proof.Machine.execBwMaxwaitWrite init data s
  | .entdaa addr => Sys2Proof.Machine.execEntdaa addr s
  | .rstdaa => Sys2Proof.Machine.execRstdaa s
  | .enec events => Sys2Proof.Machine.execEnec events s
  | .disec events => Sys2Proof.Machine.execDisec events s
  | .getpid => Sys2Proof.Machine.execGetpid s
  | .getbcr => Sys2Proof.Machine.execGetbcr s
  | .getdcr => Sys2Proof.Machine.execGetdcr s
  | .getstatus => Sys2Proof.Machine.execGetstatus s
  | .setmwl len => Sys2Proof.Machine.execSetmwl len s
  | .setmrl len => Sys2Proof.Machine.execSetmrl len s
  | .getmwl => Sys2Proof.Machine.execGetmwl s
  | .getmrl => Sys2Proof.Machine.execGetmrl s
  | .unsupportedCcc code => Sys2Proof.Machine.execUnsupportedCcc code s
  | .privateWrite addr bytes => Sys2Proof.Machine.execPrivateWrite addr bytes s
  | .privateRead addr => Sys2Proof.Machine.execPrivateRead addr s
  | .leaseLapse => Sys2Proof.Machine.execLeaseLapse s
  | .hotJoinRequest => Sys2Proof.Machine.execHotJoinRequest s
  | .nvsRead init data => Sys2Proof.Machine.execNvsRead init data s
  | .nvsProgram init data => Sys2Proof.Machine.execNvsProgram init data s
  | .nvsErase4k init data => Sys2Proof.Machine.execNvsErase4k init data s
  | .nvsErase64k init data => Sys2Proof.Machine.execNvsErase64k init data s
  | .nvsBadOp init data => Sys2Proof.Machine.execNvsBadOp init data s
  | .nvsCommandDone ready => Sys2Proof.Machine.execNvsCommandDone ready s
  | .timHostCommit init data => Sys2Proof.Machine.execTimHostCommit init data s
  | .replayGo init data => Sys2Proof.Machine.execReplayGo init data s
  | .replayTick cur srv prf => Sys2Proof.Machine.execReplayTick cur srv prf s
  | .extest => Sys2Proof.Machine.execExtest s
  | .samplePreload shift => Sys2Proof.Machine.execSamplePreload shift s
  | .idcode => Sys2Proof.Machine.execIdcode s
  | .bypass code => Sys2Proof.Machine.execBypass code s
  | .dbgAccess op addr data => Sys2Proof.Machine.execDbgAccess op addr data s
  | .dbgCoreHaltWrite init data => Sys2Proof.Machine.execDbgCoreHaltWrite init data s
  | .mpdCmdWrite init data => Sys2Proof.Machine.execMpdCmdWrite init data s
  | .mpdDone rdata crcOk => Sys2Proof.Machine.execMpdDone rdata crcOk s
  | .mpdFault => Sys2Proof.Machine.execMpdFault s
  | .padFeWrite init data => Sys2Proof.Machine.execPadFeWrite init data s
  | .feFaultDeassert act => Sys2Proof.Machine.execFeFaultDeassert act s
  | .ethLinkUp port => Sys2Proof.Machine.execEthLinkUp port s
  | .ethLinkDown port => Sys2Proof.Machine.execEthLinkDown port s
  | .trstNAssert => Sys2Proof.Machine.execTrstNAssert s

end Sys2Proof.Machine
end

