-- ==== Sys2Proof/Machine/Tick.lean ====
section
/-! DEFINITION. What one microsecond brings when no command waits: the power-on counter (R458), armed times (R133), the watchdog
(R404), the lease (R443), the SMART counts (R5), and buffered data something waits for going to the media (R289, R304). Every other timed event is a command of its own. -/

namespace Sys2Proof.Machine

/-- The armed time of a slot grows by 1 µs; the 64-bit count saturates (R133). -/
def onTime (act k : Nat) : Act := fun s =>
  let v := min (s.pair (Reg.AS_ONTIME_LO act k) + 1) (2 ^ 64 - 1)
  [.reg (Reg.AS_ONTIME_LO act k) (w32 v), .reg (Reg.AS_ONTIME_HI act k) (w32 (v / 2 ^ 32))]

/-- The watchdog's timeout, µs (Table 13.12). -/
def wdTimeout (s : State) : Nat := max 1 (s.fld Reg.RST_WDOG 15 0) * 1000

/-- The watchdog's microsecond: its count stands still while the debug port holds MC0 (R404). -/
def wdTick : Act := fun s =>
  if wdCounts s then (if wdTimeout s ≤ s.dyn.us - s.dyn.rst.wdStart then wdExpire s else [])
  else if dbgHolds s 0 then [updRst (fun r => { r with wdStart := r.wdStart + 1 })]
  else []

/-- The lease's microsecond (R443). -/
def leaseTick : Act := fun s =>
  if i3cUp s && hasDa s && leaseS s ≠ 0 && leaseS s * 1000000 ≤ s.dyn.us - s.dyn.mgt.renew then
    seqs [dropDa 4, fun _ => [updMgt (fun m => { m with hjDue := true })]] s
  else []

/-- The SMART page's microsecond (R5): I/O commands at hand, the composite temperature at the WARN or at the CRITICAL limit. [DEDUCED, log 113, unsafe] -/
def smartTick : Act := fun s =>
  let t := kelvin (sensTemp s (tmpSens s 0))
  let ok := s.up 2 && sensCounted s (tmpSens s 0)
  let w := ok && ((thmThr s 0 0 + 273).toNat ≤ t && t < (thmThr s 0 2 + 273).toNat)
  let c := ok && (thmThr s 0 2 + 273).toNat ≤ t
  if ioBusy s || w || c then [updLog (fun g => { g with smart := { g.smart with
    busy := g.smart.busy + (if ioBusy s then 1 else 0), warm := g.smart.warm + (if w then 1 else 0),
    crit := g.smart.crit + (if c then 1 else 0) } })] else []

/-- One microsecond. [DESIGN CHOICE, log 2, unsafe] -/
def tick : Act := seqs [
  fun _ => [.upd (fun d => { d with us := d.us + 1 })],
  each (List.range 4) (fun a => fun s =>
    if feUp s a then seqs ((slotsIn s a 3).map (fun k => onTime a k)) s else []),
  wdTick, leaseTick, smartTick, whenA (fun s => !(wanted s).isEmpty || shutting s) settle]

end Sys2Proof.Machine
end

