-- ==== Sys2Proof/Machine/Step.lean ====
section
/-! DEFINITION. One step: the command at the front of the queue is taken and run; on an empty queue a microsecond passes. -/

namespace Sys2Proof.Machine

/-- One step. [DESIGN CHOICE, log 1, unsafe] [DESIGN CHOICE, log 2, unsafe] -/
def step (s : State) : Host.Outcome State Fault Refusal :=
  match s.pending with
  | [] => .next (applyAll s (tick s))
  | i :: rest => exec i { s with pending := rest }

/-- A command put at the front of the queue. -/
def State.push (s : State) (i : Instr) : State := { s with pending := i :: s.pending }

/-- The state with the command a table word spells at the front of the queue; unchanged where it spells none. [DESIGN CHOICE, log 2, unsafe] -/
def State.withFetchWord (s : State) (nbits w : Nat) : State :=
  match Sys2Proof.decodeTableWord nbits w with
  | some i => s.push i
  | none => s

end Sys2Proof.Machine
end

