-- ==== Sys2Proof/Safety.lean ====
section
/-! DEFINITION. The terms in which claims speak of the machine: the canonical forms, the reserved and guarded bits, and what a
command leaves alone. -/

namespace Sys2Proof.Machine

/-- The keys of a list rise strictly. -/
def rising : List Nat → Bool
  | a :: b :: l => a < b && rising (b :: l)
  | _ => true

/-- A memory in its one form: addresses rise, and no byte listed is what an unlisted address reads as. -/
def Memory.wf (bg : Nat → Option Byte) (l : List Host.Cell) : Bool :=
  rising (l.map Prod.fst) && l.all (fun c => bg c.1 != some c.2)

/-- The bits of a register that some field covers; the others are RZ (R30). -/
def fieldMask (a : Nat) : Word := liveMask a ||| guardMask a

/-- A register word whose RZ bits are as at reset (R9, R30). -/
def rzOk (a : Nat) (w : Word) : Bool := (w &&& ~~~(fieldMask a)) == (resetWord a &&& ~~~(fieldMask a))

/-- The register words in their one form: offsets rise, no word listed is its reset word, RZ bits are as at reset. -/
def Regs.wf (l : List (Nat × Word)) : Bool :=
  rising (l.map Prod.fst) && l.all (fun p => p.2 != resetWord p.1 && rzOk p.1 p.2)

/-- The invariant of the machine's stores. -/
def State.wf (s : State) : Bool :=
  Regs.wf s.regs && Memory.wf (fillByte s.fills) s.dram && Memory.wf norBg s.nor

/-- The guarded bits of every register are the same in two states. -/
def sameGuarded (s t : State) : Prop := ∀ a, t.reg a &&& guardMask a = s.reg a &&& guardMask a

/-- Commands that may change a GD field: a write that can complete a guarded sequence or gate a domain, whatever asserts or
releases a reset, and option loading (R30, R32, R36, R401). -/
def mayGuard : Instr → Bool
  | .registerWrite .. => true
  | .sqStatusWrite .. => true
  | .loRegisterWrite .. => true
  | .hiRegisterWrite .. => true
  | .aliasWrite .. => true
  | .guardInvWrite .. => true
  | .dbgAccess .. => true
  | .porstNAssert _ => true
  | .resetNAssert _ => true
  | .supplyMonitorFall _ => true
  | .refLost => true
  | .pllFail => true
  | .clockGoodFall _ => true
  | .levelRelease => true
  | .warmAssert => true
  | .hostAssert => true
  | .domainOffWrite .. => true
  | .domainRelease _ => true
  | .optionLoadDone _ => true
  | .firmwareActivate _ => true
  | _ => false

/-- What has left the device in `t` is what had left it in `s`, and more. -/
def outGrows (s t : State) : Prop := ∃ l, t.out = l ++ s.out

/-- Every register but those a predicate picks holds the same word. -/
def sameRegsBut (p : Nat → Prop) (s t : State) : Prop := ∀ a, ¬ p a → t.reg a = s.reg a

/-- Buffer memory and NOR read the same at every address. -/
def sameMem (s t : State) : Prop := (∀ a, t.dramByte a = s.dramByte a) ∧ ∀ a, t.norByte a = s.norByte a

/-- A 32-bit write by an initiator reaches the register: it is an initiator, and no access rule stops it (R24-R29, R529). -/
def accReady (s : State) (init : Initiator) (a : Nat) : Bool := initiatorOk s init && (accessError s a 4 true).isNone

/-- A command of the table's host rows that may be worked on: it waits on a live link, of this queue and opcode (R236). -/
def cmdReady (s : State) (r : CmdRef) (admin : Bool) (op : Nat) (c : HCmd) : Bool :=
  (s.cmdBy r (fun c => c.done.isNone && c.work == .idle && !c.orphan)) == some c &&
    hqUp s && c.admin == admin && c.op == op && linkLive s c.link && !s.dyn.hq.hold

/-- SQ registers whose write does what R35 says and no more. -/
def sqPlain : List Nat := [
  Reg.SYS_ERR_STAT, Reg.CLK_STAT, Reg.RST_STAT, Reg.PAD_STAT, Reg.THM_STAT, Reg.BW_STAT, Reg.MEM_STAT, Reg.CCH_STAT,
  Reg.SHL_STAT, Reg.HQE_STAT, Reg.DEC_STAT, Reg.WRK_STAT, Reg.MGT_STAT, Reg.NVS_STAT]

/-- The status bits of an SQ register: its SQ bits below SEQ. -/
def statusMask (a : Nat) : Word :=
  match regDef a with
  | some d => d.tyMask .sq &&& 0x00FFFFFF
  | none => 0

/-- 64-bit pairs of RW words whose commit does what R48 says and no more, by the offset of the _LO word. -/
def plainPairs : List Nat := [
  Reg.MEM_SCRUB_BASE_LO, Reg.MEM_SCRUB_LEN_LO, Reg.CCH_MAINT_ADDR_LO, Reg.NVS_DRAM_LO, Reg.DEC_JQ_BASE_LO, Reg.DEC_CQ_BASE_LO,
  Reg.WRK_RP_SRC_LO, Reg.WRK_RP_CFG_LO]

/-- Registers of RW fields in the bit-alias range whose write does no more than store the bits. -/
def plainAlias : List Nat := [
  Reg.SYS_SCRATCH 0, Reg.SYS_SCRATCH 1, Reg.SYS_SCRATCH 2, Reg.SYS_SCRATCH 3, Reg.GPIO_DIR, Reg.GPIO_OUT, Reg.GPIO_PDEN,
  Reg.PAD_SLEW, Reg.MPD_CTL]

/-- The offset of the alias word of a register's bit (R50). -/
def aliasAddr (a b : Nat) : Nat := 0x800000 + (a / 4 * 32 + b) * 4

/-- Blocks whose stand-alone registers act as their fields' types say and no more. -/
def plainBlk (a : Nat) : Bool :=
  match (blkOf a).1 with
  | .thm => true | .hqe => true | .mgt => true
  | _ => false

end Sys2Proof.Machine
end

