-- ==== Sys2Proof/Certificates/Slice0/Obligations.lean ====
section
/-! DEFINITION. What is stated of the machine, for the provers. Where a meaning is a sequence of shared operations the statement names
the operations and what they are applied to, so that it also says everything the command leaves alone. -/

set_option linter.unusedVariables false

open Sys2Proof Sys2Proof.Machine

/-! The whole machine. -/

/-- One step runs the command at the front of the queue with the queue's rest (the block's rule of this model); R458: on an empty
queue a microsecond passes, which is the model's choice (log 2). -/
def Obligations.StepRunsTheFrontCommand : Prop :=
  ∀ (c : Instr) (rest : List Instr) (s : State),
    step { s with pending := c :: rest } = exec c { s with pending := rest } ∧
    (s.pending = [] → step s = .next (applyAll s (tick s)))

/-- After reset every level is held with PORST_N asserted, every register has its reset word, RST_CAUSE shows POR with sub-code 1,
nothing is stored, nothing waits and nothing has left the device, and the stores are in their one form. That memory and NOR
list nothing is the model's choice where the spec gives no content (log 3). -/
def Obligations.ResetLeaves : Prop :=
  (∀ a, State.reset.reg a = resetWord a) ∧ State.reset.reg Reg.SYS_ID = 0x5A3E6440 ∧ State.reset.reg Reg.SYS_REV = 0x00000200 ∧
  State.reset.dyn.rst.held = 0x1FF ∧ State.reset.dyn.rst.asserted = [⟨.por, 1, 0⟩] ∧ State.reset.dyn.aon.cause = 0x10100000 ∧
  State.reset.dyn.aon.count = 0 ∧ State.reset.dyn.us = 0 ∧ State.reset.dram = [] ∧ State.reset.nor = [] ∧
  State.reset.pending = [] ∧ State.reset.out = [] ∧ State.reset.wf = true

/-- The invariant of the stores: from every state whose registers, buffer memory and NOR are in their one form, with every RZ bit
as at reset (R9, R30), every step, with a command or without, leaves them so. -/
def Obligations.StepKeepsStores : Prop :=
  ∀ s : State, s.wf = true → ∃ t, step s = .next t ∧ t.wf = true

/-- R30, R36, R401: GD bits change only through a guarded write, a reset or option loading: every other command, in every state,
leaves every GD bit of every register as it is. -/
def Obligations.GuardedBitsKept : Prop :=
  ∀ (i : Instr) (s : State), mayGuard i = false → ∃ t, exec i s = .next t ∧ sameGuarded s t

/-- R28: every command completes; none touches the queue, and what has left the device stays so. -/
def Obligations.EveryCommandCompletes : Prop :=
  ∀ (i : Instr) (s : State), ∃ t, exec i s = .next t ∧ t.pending = s.pending ∧ outGrows s t

/-! Registers, guard, lock, indirect window (02). -/

/-- R30, Table 2.3, for the stand-alone registers of THM, HQE and MGT: a 32-bit write that reaches a register without GD fields
gives its RW and CT bits the value written, clears the SQ status bits written as 1 where SEQ matches, leaves every other bit
and every other register, memory and all other state. -/
def Obligations.RegisterWriteByType : Prop :=
  ∀ (init : Initiator) (a : BitVec 24) (data : Word) (d : RegDef) (s : State),
    a.toNat < 0x800000 → a.toNat % 4 = 0 → plainBlk a.toNat = true → regDef a.toNat = some d → d.guarded = false → d.pair = .one →
    initiatorOk s init = true → s.up (domOf a.toNat) = true →
    ∃ t, exec (.registerWrite init a .b4 (data.setWidth 64)) s = .next t ∧
      t.reg a.toNat &&& (d.tyMask .rw ||| d.tyMask .ct) = data &&& (d.tyMask .rw ||| d.tyMask .ct) ∧
      t.reg a.toNat &&& ~~~(d.tyMask .rw ||| d.tyMask .ct ||| d.tyMask .sq) =
        s.reg a.toNat &&& ~~~(d.tyMask .rw ||| d.tyMask .ct ||| d.tyMask .sq) ∧
      sameRegsBut (fun b => b = a.toNat) s t ∧ sameMem s t ∧ t.dyn = s.dyn ∧ t.out = s.out

/-- R35: an SQ write clears the status bits written as 1 only if the SEQ written is the current one; SEQ itself stays. -/
def Obligations.SqWriteClears : Prop :=
  ∀ (init : Initiator) (data : Word) (s : State), ∀ a ∈ sqPlain, accReady s init a = true →
    ∃ t, exec (.sqStatusWrite init (BitVec.ofNat 24 a) data) s = .next t ∧
      t.reg a = (if data.fld 31 24 = s.fld a 31 24 then s.reg a &&& ~~~(data &&& statusMask a) else s.reg a) ∧
      sameRegsBut (fun b => b = a) s t ∧ sameMem s t ∧ t.dyn = s.dyn ∧ t.out = s.out

/-- R34: every event that an SQ register records steps its SEQ modulo 256, also where the event's bit is set already, and sets the
bit; the register's other status bits and every other register stay. Events are the effect `Eff.sq`. -/
def Obligations.EventStepsSeq : Prop :=
  ∀ (a : Nat) (d : RegDef) (bits : Word) (s : State), regDef a = some d → d.tyMask .sq &&& 0xFF000000 = 0xFF000000 →
    (applyEff s (.sq a bits)).fld a 31 24 = (s.fld a 31 24 + 1) % 256 ∧
    (∀ i, i < 24 → (statusMask a).getLsbD i = true →
      (applyEff s (.sq a bits)).bit a i = (s.bit a i || bits.getLsbD i)) ∧
    sameRegsBut (fun b => b = a) s (applyEff s (.sq a bits))

/-- R26, R27: while the register fabric answers, an access to an address of no register, or to a register whose domain is held in
reset, changes nothing but the error registers: a read returns zero, a write is discarded, and UNMAPPED, or IN_RESET, is set.
An access of 8 bytes is two of 4 (R24), and both are looked at. -/
def Obligations.StoppedAccesses : Prop :=
  ∀ (init : Initiator) (a : BitVec 24) (size : Size) (data : BitVec 64) (words : List Nat) (s : State),
    initiatorOk s init = true → s.up 0 = true → a.toNat % size.bytes = 0 →
    words = (if size = .b8 then [a.toNat, a.toNat + 4] else [a.toNat]) →
    ∀ k, ((∀ w ∈ words, mapped (regAt w) = false) ∧ k = 0) ∨
        ((∀ w ∈ words, mapped (regAt w) = true ∧ s.up (domOf (regAt w)) = false) ∧ k = 2) →
      (∃ t, exec (.loRegisterRead init a size) s = .next t ∧ t.out = .readData init a.toNat 0 :: s.out ∧
        t.bit Reg.SYS_ERR_STAT k = true ∧
        sameRegsBut (fun b => b = Reg.SYS_ERR_STAT ∨ b = Reg.SYS_ERR_ADDR) s t ∧ sameMem s t ∧ t.dyn = s.dyn) ∧
      (∃ t, exec (.registerWrite init a size data) s = .next t ∧ t.out = s.out ∧ t.bit Reg.SYS_ERR_STAT k = true ∧
        sameRegsBut (fun b => b = Reg.SYS_ERR_STAT ∨ b = Reg.SYS_ERR_ADDR) s t ∧ sameMem s t ∧ t.dyn = s.dyn)

/-- R25, R26, R27, R529: a write that an access rule stops changes no register but SYS_ERR_STAT and SYS_ERR_ADDR: one event with
the bit of its cause, and the initiator and offset where the register was wholly clear. R25-R27, R529: which rule a write of
at most 32 bits breaks: alignment first, then the map, the reset, the width. -/
def Obligations.WriteErrors : Prop :=
  (∀ (init : Initiator) (a : BitVec 24) (size : Size) (data : BitVec 64) (e : AccErr) (s : State),
      size ≠ .b8 → initiatorOk s init = true → busError s a.toNat size.bytes true = some e → s.up 0 = true →
      ∃ t, exec (.registerWrite init a size data) s = .next t ∧
        t.bit Reg.SYS_ERR_STAT (match e with | .unmapped => 0 | .narrow => 1 | .inReset => 2) = true ∧
        t.fld Reg.SYS_ERR_STAT 31 24 = (s.fld Reg.SYS_ERR_STAT 31 24 + 1) % 256 ∧
        (s.fld Reg.SYS_ERR_STAT 23 0 = 0 →
          t.fld Reg.SYS_ERR_ADDR 27 24 = init.id ∧ t.fld Reg.SYS_ERR_ADDR 23 0 = a.toNat) ∧
        (s.fld Reg.SYS_ERR_STAT 23 0 ≠ 0 → t.reg Reg.SYS_ERR_ADDR = s.reg Reg.SYS_ERR_ADDR) ∧
        sameRegsBut (fun b => b = Reg.SYS_ERR_STAT ∨ b = Reg.SYS_ERR_ADDR) s t ∧ sameMem s t ∧ t.dyn = s.dyn) ∧
  (∀ (s : State) (a size : Nat), a < 0x800000 → (size = 1 ∨ size = 2 ∨ size = 4) →
      (a % size ≠ 0 → busError s a size true = some .unmapped) ∧
      (a % size = 0 → mapped (a / 4 * 4) = false → busError s a size true = some .unmapped) ∧
      (a % size = 0 → mapped (a / 4 * 4) = true → s.up (domOf (a / 4 * 4)) = false → busError s a size true = some .inReset) ∧
      (a % size = 0 → mapped (a / 4 * 4) = true → s.up (domOf (a / 4 * 4)) = true → size ≠ 4 →
        busError s a size true = some .narrow) ∧
      (a % 4 = 0 → mapped a = true → s.up (domOf a) = true → busError s a 4 true = none))

/-- R47: a read of a _LO register returns the low word and latches the high word of the same instant into the reader's shadow,
tagged with the high register; bits no field covers read as zero; no register and no other initiator's shadow changes. R47: a
read of the _HI register returns the shadow whose tag matches, which stays as it is. R48: a write of a _LO register only
stages the value for its writer; a write of the _HI register whose tag matches commits both halves and empties the stage; one
whose tag does not match writes the high half alone. -/
def Obligations.RegisterPairs : Prop :=
  (∀ (init : Initiator) (s : State), ∀ a ∈ plainPairs, accReady s init a = true →
      ∃ t, exec (.loRegisterRead init (BitVec.ofNat 24 a) .b4) s = .next t ∧
        t.out = .readData init a (s.reg a &&& fieldMask a).toNat :: s.out ∧
        t.dyn.sys.shadow = setAt s.dyn.sys.shadow init.id (some (a + 4, s.reg (a + 4) &&& fieldMask (a + 4))) ∧
        t.dyn.sys.stage = s.dyn.sys.stage ∧ sameRegsBut (fun _ => False) s t ∧ sameMem s t) ∧
  (∀ (init : Initiator) (w : Word) (s : State), ∀ a ∈ plainPairs, accReady s init a = true →
      s.dyn.sys.shadow.getD init.id none = some (a + 4, w) →
      ∃ t, exec (.loRegisterRead init (BitVec.ofNat 24 (a + 4)) .b4) s = .next t ∧
        t.out = .readData init (a + 4) w.toNat :: s.out ∧ t.dyn.sys = s.dyn.sys ∧ sameRegsBut (fun _ => False) s t) ∧
  (∀ (init : Initiator) (data : Word) (s : State), ∀ a ∈ plainPairs, accReady s init a = true →
      (∃ t, exec (.loRegisterWrite init (BitVec.ofNat 24 a) data) s = .next t ∧
        t.dyn.sys.stage = setAt s.dyn.sys.stage init.id (some (a, data)) ∧
        sameRegsBut (fun _ => False) s t ∧ sameMem s t ∧ t.out = s.out) ∧
      (∀ w, staged s init a = some w →
        ∃ t, exec (.hiRegisterWrite init (BitVec.ofNat 24 (a + 4)) data) s = .next t ∧
          t.reg a = (s.reg a).merge (liveMask a) w ∧ t.reg (a + 4) = (s.reg (a + 4)).merge (liveMask (a + 4)) data ∧
          t.dyn.sys.stage = setAt s.dyn.sys.stage init.id none ∧
          sameRegsBut (fun b => b = a ∨ b = a + 4) s t ∧ sameMem s t ∧ t.out = s.out) ∧
      (staged s init a = none →
        ∃ t, exec (.hiRegisterWrite init (BitVec.ofNat 24 (a + 4)) data) s = .next t ∧
          t.reg (a + 4) = (s.reg (a + 4)).merge (liveMask (a + 4)) data ∧ t.dyn = s.dyn ∧
          sameRegsBut (fun b => b = a + 4) s t ∧ sameMem s t ∧ t.out = s.out))

/-- R50, R52: a write to an alias word writes bit 0 of the data into the aliased RW bit alone; it neither stages nor commits. A
bit no field covers stays. -/
def Obligations.AliasWriteOneBit : Prop :=
  ∀ (init : Initiator) (data : Word) (b : Fin 32) (s : State), ∀ a ∈ plainAlias, accReady s init a = true →
    ∃ t, exec (.aliasWrite init (BitVec.ofNat 24 (aliasAddr a b.val)) data) s = .next t ∧
      (∀ i : Fin 32, t.bit a i.val =
        if i = b ∧ (liveMask a).getLsbD b.val = true then data.getLsbD 0 else s.bit a i.val) ∧
      sameRegsBut (fun c => c = a) s t ∧ sameMem s t ∧ t.dyn = s.dyn ∧ t.out = s.out

/-- R36, R37: a write of SYS_GUARD_TGT opens a sequence that its writer owns; the owner's SYS_GUARD_VAL is recorded; its
complement, written by the owner to SYS_GUARD_INV, makes the GD bits of the target take the value, and no GD bit of another
register changes. Where the block is neither PWR nor RST / CLK, whose guarded fields act at once (R403, R404, R433), nothing
else of the registers changes but SYS_GUARD_STAT, which shows the sequence closed and no new error. R403: a guarded write of 1
to WARM in RST_SELF, by any initiator, raises WARM with sub-code 5; R404: one of RST_WDOG restarts the watchdog's count. -/
def Obligations.GuardedWrite : Prop :=
  (∀ (init : Initiator) (data : Word) (s : State), initiatorOk s init = true → s.up 0 = true →
      (guardOpen s = false →
        ∃ t, exec (.guardTgtWrite init data) s = .next t ∧ guardOpen t = true ∧ guardOwner t = init.id ∧
          guardTarget t = data.toNat % 2 ^ 24 / 4 * 4 ∧ t.dyn.sys.guard.val = none ∧
          sameRegsBut (fun a => a = Reg.SYS_GUARD_TGT ∨ a = Reg.SYS_GUARD_STAT) s t ∧ sameMem s t) ∧
      (guardOpen s = true → guardOwner s = init.id →
        ∃ t, exec (.guardValWrite init data) s = .next t ∧ t.dyn.sys.guard.val = some data ∧
          sameRegsBut (fun _ => False) s t ∧ sameMem s t) ∧
      (∀ v, guardOpen s = true → guardOwner s = init.id → s.dyn.sys.guard.val = some v → data = ~~~v →
        isGuarded (guardTarget s) = true → s.bit Reg.SYS_LOCK (lockBit (blkOf (guardTarget s)).1) = false →
        s.up (domOf (guardTarget s)) = true →
        ∃ t, exec (.guardInvWrite init data) s = .next t ∧
          t.reg (guardTarget s) &&& guardMask (guardTarget s) = v &&& guardMask (guardTarget s) ∧
          (∀ a, a ≠ guardTarget s → t.reg a &&& guardMask a = s.reg a &&& guardMask a) ∧
          ((blkOf (guardTarget s)).1 ≠ .pwr → (blkOf (guardTarget s)).1 ≠ .rst →
            guardOpen t = false ∧ t.bit Reg.SYS_GUARD_STAT 0 = s.bit Reg.SYS_GUARD_STAT 0 ∧
            sameRegsBut (fun a => a = guardTarget s ∨ a = Reg.SYS_GUARD_STAT) s t ∧ sameMem s t))) ∧
  (∀ (init : Initiator) (v : Word) (s : State), initiatorOk s init = true → s.up 0 = true → guardOpen s = true →
      guardOwner s = init.id → s.dyn.sys.guard.val = some v → s.bit Reg.SYS_LOCK 1 = false →
      (guardTarget s = Reg.RST_SELF → v.getLsbD 0 = true →
        ∃ t, exec (.guardInvWrite init (~~~v)) s = .next t ∧ t.bit Reg.RST_SELF 0 = true ∧
          t.dyn.rst.raised = s.dyn.rst.raised ++ [⟨.warm, 5, init.id⟩]) ∧
      (guardTarget s = Reg.RST_WDOG →
        ∃ t, exec (.guardInvWrite init (~~~v)) s = .next t ∧ t.fld Reg.RST_WDOG 15 0 = v.fld 15 0 ∧
          t.bit Reg.RST_WDOG 31 = v.getLsbD 31 ∧ t.dyn.rst.wdStart = s.dyn.us ∧ t.dyn.rst.raised = s.dyn.rst.raised))

/-- R38: a sequence whose complement is wrong fails with cause 2, one whose target holds no GD field with cause 4, one whose block
is locked with cause 5 (R41), one that has no value yet with cause 6, and one whose window ends with cause 1: nothing but
SYS_GUARD_STAT changes, which shows GUARD_ERR, the cause and a closed sequence. R41: while a block's SYS_LOCK bit is set,
every well-spelt sequence that targets the block fails with cause 5. R40: a write of SYS_LOCK sets the bits written as 1 and
clears none. -/
def Obligations.GuardFailures : Prop :=
  (∀ (init : Initiator) (data : Word) (s : State), initiatorOk s init = true → s.up 0 = true → guardOpen s = true →
      (guardOwner s = init.id → ∀ c, guardCause s data = some c →
        ∃ t, exec (.guardInvWrite init data) s = .next t ∧ guardOpen t = false ∧ t.bit Reg.SYS_GUARD_STAT 0 = true ∧
          t.fld Reg.SYS_GUARD_STAT 10 8 = c % 8 ∧ sameRegsBut (fun a => a = Reg.SYS_GUARD_STAT) s t ∧ sameMem s t) ∧
      (∃ t, exec .guardWindowExpiry s = .next t ∧ guardOpen t = false ∧ t.bit Reg.SYS_GUARD_STAT 0 = true ∧
        t.fld Reg.SYS_GUARD_STAT 10 8 = 1 ∧ sameRegsBut (fun a => a = Reg.SYS_GUARD_STAT) s t ∧ sameMem s t) ∧
      (∀ v, s.dyn.sys.guard.val = some v → data ≠ ~~~v → guardCause s data = some 2) ∧
      (s.dyn.sys.guard.val = none → isGuarded (guardTarget s) = true →
        s.bit Reg.SYS_LOCK (lockBit (blkOf (guardTarget s)).1) = false → guardCause s data = some 6)) ∧
  (∀ (init : Initiator) (v : Word) (s : State), initiatorOk s init = true → s.up 0 = true → guardOpen s = true →
      guardOwner s = init.id → s.dyn.sys.guard.val = some v → isGuarded (guardTarget s) = true →
      s.bit Reg.SYS_LOCK (lockBit (blkOf (guardTarget s)).1) = true →
      ∃ t, exec (.guardInvWrite init (~~~v)) s = .next t ∧ t.fld Reg.SYS_GUARD_STAT 10 8 = 5 ∧
        t.bit Reg.SYS_GUARD_STAT 0 = true ∧ sameRegsBut (fun a => a = Reg.SYS_GUARD_STAT) s t) ∧
  (∀ (init : Initiator) (data : Word) (s : State), accReady s init Reg.SYS_LOCK = true →
      ∃ t, exec (.sysLockWrite init data) s = .next t ∧
        (∀ i : Fin 32, t.bit Reg.SYS_LOCK i.val =
          (s.bit Reg.SYS_LOCK i.val || (data.getLsbD i.val && (liveMask Reg.SYS_LOCK).getLsbD i.val))) ∧
        sameRegsBut (fun a => a = Reg.SYS_LOCK) s t ∧ sameMem s t ∧ t.dyn = s.dyn)

/-- R43, R44, R45: with no posted write in progress, a read of SYS_IND_DATA returns what the space answers, or zero with NACK, a
front end's answer with a bad CRC sets CRC_ERR in FE_STAT (R150), and OFFSET advances by 4, wrapping past the end of the
space; a write sets BUSY, posts the word and advances OFFSET; when a posted write to the fuse space is done, WR_RO is set and
BUSY clears. -/
def Obligations.IndirectWindow : Prop :=
  ∀ (init : Initiator) (data : Word) (answer : Option (BitVec 16 × Bool)) (answered : Bool) (s : State),
    accReady s init Reg.SYS_IND_DATA = true →
    (s.dyn.sys.ind = none →
      ∃ t, exec (.indDataRead init answer) s = .next t ∧
        (∃ l, t.out = l ++ (.readData init Reg.SYS_IND_DATA ((indAnswer s (indSpace s) (indOff s) answer).getD 0).toNat :: s.out)) ∧
        indOff t = indNext (indSpace s) (indOff s) ∧ indSpace t = indSpace s ∧
        (indAnswer s (indSpace s) (indOff s) answer = none → t.bit Reg.SYS_IND_STAT 1 = true) ∧
        sameRegsBut (fun a => a = Reg.SYS_IND_ADDR ∨ a = Reg.SYS_IND_STAT ∨ (1 ≤ indSpace s ∧ indSpace s < 5 ∧
          (∃ v, answer = some (v, false)) ∧ (a = Reg.FE_STAT (indSpace s - 1) ∨ a = Reg.FE_CRC_CNT (indSpace s - 1)))) s t ∧
        (∀ v, 1 ≤ indSpace s → indSpace s < 5 → answer = some (v, false) →
          (indAnswer s (indSpace s) (indOff s) answer).isSome = true → t.bit (Reg.FE_STAT (indSpace s - 1)) 2 = true) ∧
        sameMem s t) ∧
    (s.dyn.sys.ind = none →
      ∃ t, exec (.indDataWrite init data) s = .next t ∧ t.bit Reg.SYS_IND_STAT 0 = true ∧
        t.dyn.sys.ind = some (indSpace s, indOff s, data) ∧ indOff t = indNext (indSpace s) (indOff s) ∧
        sameRegsBut (fun a => a = Reg.SYS_IND_ADDR ∨ a = Reg.SYS_IND_STAT) s t ∧ sameMem s t) ∧
    (∀ off, s.dyn.sys.ind = some (6, off, data) →
      ∃ t, exec (.indWriteDone answered) s = .next t ∧ t.bit Reg.SYS_IND_STAT 2 = true ∧ t.bit Reg.SYS_IND_STAT 0 = false ∧
        t.dyn.sys.ind = none ∧ sameRegsBut (fun a => a = Reg.SYS_IND_STAT) s t ∧ sameMem s t)

/-- R43: each read and each write of SYS_IND_DATA, also one that waits for a posted write first, adds 4 to OFFSET; past the last
offset of each space of Table 2.6, and past 0xFF_FFFC for a reserved code, it wraps to zero within the space. -/
def Obligations.IndirectOffsetAdvances : Prop :=
  (∀ (init : Initiator) (answer : Option (BitVec 16 × Bool)) (data : Word) (s : State), accReady s init Reg.SYS_IND_DATA = true →
    (∃ t, exec (.indDataRead init answer) s = .next t ∧ indOff t = indNext (indSpace s) (indOff s) ∧ indSpace t = indSpace s) ∧
    (∃ t, exec (.indDataWrite init data) s = .next t ∧ indOff t = indNext (indSpace s) (indOff s) ∧ indSpace t = indSpace s)) ∧
  ∀ (sp : Fin 16) (last off : Nat),
    last = (if sp.val = 0 ∨ sp.val = 5 then 0xFFC else if sp.val < 5 then 0x3FC else if sp.val = 6 then 0x7FC else 0xFFFFFC) →
    (off < last → indNext sp.val off = off + 4) ∧ (last ≤ off → indNext sp.val off = 0)

/-! Lanes and deep decoders (01, 04). -/

/-- R87: a write of LN_RATE reaches an idle lane's rate at once, a change of rate clearing LOCK, and replaces one still held back;
while the lane transfers it is held back, and takes effect when the transfer has ended. R86: LOCK is set once the synthesiser
has locked, at a legal rate only. -/
def Obligations.LaneRates : Prop :=
  ∀ (init : Initiator) (lane : Fin 16) (data : Word) (s : State),
    (accReady s init (Reg.LN_RATE lane.val) = true → (s.lane lane.val).xfer = none →
      ∃ t, exec (.lnRateWrite init lane data) s = .next t ∧ t.fld (Reg.LN_RATE lane.val) 22 0 = data.fld 22 0 ∧
        (data.fld 22 0 ≠ s.fld (Reg.LN_RATE lane.val) 22 0 → t.bit (Reg.LN_RATE lane.val) 31 = false) ∧
        sameRegsBut (fun a => a = Reg.LN_RATE lane.val) s t ∧ sameMem s t ∧
        t.dyn = (applyEff s (updLane lane.val (fun l => { l with rateNew := none }))).dyn) ∧
    (∀ x, accReady s init (Reg.LN_RATE lane.val) = true → (s.lane lane.val).xfer = some x →
      exec (.lnRateWrite init lane data) s = .next (applyAll s [updLane lane.val (fun l => { l with rateNew := some data })])) ∧
    (∀ w, (s.lane lane.val).rateNew = some w → laneUp s lane.val = true → (s.lane lane.val).xfer = none →
      ∃ t, exec (.lnRateApply lane) s = .next t ∧ t.fld (Reg.LN_RATE lane.val) 22 0 = w.fld 22 0 ∧
        sameRegsBut (fun a => a = Reg.LN_RATE lane.val) s t ∧ sameMem s t) ∧
    (s.up (64 + lane.val) = true → laneUp s lane.val = true → rateOk (s.fld (Reg.LN_RATE lane.val) 22 0) = true →
      ∃ t, exec (.synthLock false lane) s = .next t ∧ t.bit (Reg.LN_RATE lane.val) 31 = true ∧
        t.fld (Reg.LN_RATE lane.val) 22 0 = s.fld (Reg.LN_RATE lane.val) 22 0 ∧
        sameRegsBut (fun a => a = Reg.LN_RATE lane.val) s t ∧ sameMem s t ∧ t.dyn = s.dyn) ∧
    (rateOk (s.fld (Reg.LN_RATE lane.val) 22 0) = false → exec (.synthLock false lane) s = .next s) ∧
    (∀ k, rateOk k = true ↔ (2200000 ≤ k ∧ k ≤ 5400000))

/-- R88: setting DATA_PWR raises the lane's start with Breakwater; after the grant the data path is ready. R16, R89: a transfer
that may start takes its seeds and runs; two undelivered sectors cut it at the boundary; the rest is read on the next
revolution. R89, R87: at the start of a transfer on a lane that is locked once a rate held back has taken effect, every
adaptive value is loaded from its seed. -/
def Obligations.LaneTransfers : Prop :=
  (∀ (init : Initiator) (lane : Fin 16) (x : LaneXfer) (s : State),
      (accReady s init (Reg.LN_CTL lane.val) = true → s.bit (Reg.LN_CTL lane.val) 1 = false →
        ∃ t, exec (.laneDataPwrSet init lane) s = .next t ∧ t.bit (Reg.LN_CTL lane.val) 1 = true ∧
          t.dyn.pwr = (applyEff s (bwRaise 2 lane.val)).dyn.pwr ∧
          sameRegsBut (fun a => a = Reg.LN_CTL lane.val) s t ∧ sameMem s t) ∧
      (laneUp s lane.val = true → s.bit (Reg.LN_CTL lane.val) 1 = true → hasGrant s 2 lane.val = true →
        exec (.lanePowerUpReady lane) s =
          .next (applyAll s [useGrant 2 lane.val, updLane lane.val (fun l => { l with ready := true })])) ∧
      (canStart s lane.val x = true →
        exec (.laneTransferStart lane x) s =
          .next (applyAll s (seqs [fun _ => [updLane lane.val (fun l => { l with resume := none })], startXfer lane.val x] s))) ∧
      (reqReady s = false → laneUp s lane.val = true → 2 ≤ (s.lane lane.val).outq.length →
        exec (.laneDramStallCut lane) s = .next (applyAll s [cutXfer lane.val])) ∧
      (reqReady s = false → (s.lane lane.val).resume = some x → canStart s lane.val x = true →
        exec (.sectorReread lane) s =
          .next (applyAll s (seqs [fun _ => [updLane lane.val (fun l => { l with resume := none })], startXfer lane.val x] s)))) ∧
  (∀ (lane : Fin 16) (x : LaneXfer) (s : State), canStart s lane.val x = true →
      (applyAll s (rateTake lane.val s)).bit (Reg.LN_RATE lane.val) 31 = true →
      s.dyn.ch.lanes.length = 16 →
      ∃ t, exec (.laneTransferStart lane x) s = .next t ∧
        t.reg (Reg.LN_CUR1 lane.val) &&& liveMask (Reg.LN_CUR1 lane.val) =
          s.reg (Reg.LN_SEED1 lane.val) &&& liveMask (Reg.LN_CUR1 lane.val) ∧
        (∀ i : Fin 24, t.fld (Reg.LN_EQ_TAP lane.val i.val) 27 16 = s.fld (Reg.LN_EQ_TAP lane.val i.val) 11 0) ∧
        (t.lane lane.val).skew = s.fld (Reg.LN_SKEW lane.val) 10 0 ∧ (t.lane lane.val).xfer = some x ∧ sameMem s t)

/-- R91, R95, R97: the next frame of a transfer is logged and enters the lane; an iteration on the oldest undecided frame decides
it with success where the hard decisions are a codeword that passes every check, leaves it undecided where they are not a
codeword and iterations remain, and fails it with reason 1 at the limit. -/
def Obligations.FramesDecoded : Prop :=
  ∀ (lane : Fin 16) (arr : Arrival) (hard : List Byte) (s : State), (s.lane lane.val).outq = [] → laneUp s lane.val = true →
    (∀ x, (s.lane lane.val).xfer = some x → arr.sector = (s.lane lane.val).next →
      exec (.frameArrival lane arr) s = .next (applyAll s (seqs [adapt lane.val arr, fun s =>
        seqs [fun _ => [.draw, updCh (fun c => { c with frames := c.frames + 1 }), advance lane.val],
          enterFrame lane.val (mkFrame s lane.val x arr)] s] s))) ∧
    (∀ o rest, (s.lane lane.val).frames = o :: rest →
      (isCodeword (fit 4608 hard) = true → frameChecks o.head o.band o.sector o.kind o.epoch (fit 4608 hard) = 0 →
        exec (.globalIteration lane hard) s = .next (applyAll s (seqs [fun _ => [.cnt (Reg.LN_ITER_CNT lane.val) 31 0 1],
          fun _ => [updLane lane.val (fun l => { l with frames := rest })],
          decide_ lane.val { o with iter := o.iter + 1 } 0 (fit 4608 hard)] s))) ∧
      (isCodeword (fit 4608 hard) = false → o.iter + 1 < maxIter s lane.val →
        exec (.globalIteration lane hard) s = .next (applyAll s [.cnt (Reg.LN_ITER_CNT lane.val) 31 0 1,
          updLane lane.val (fun l => { l with frames := { o with iter := o.iter + 1 } :: rest })])) ∧
      (isCodeword (fit 4608 hard) = false → maxIter s lane.val ≤ o.iter + 1 →
        exec (.globalIteration lane hard) s = .next (applyAll s (seqs [fun _ => [.cnt (Reg.LN_ITER_CNT lane.val) 31 0 1],
          fun _ => [updLane lane.val (fun l => { l with frames := rest })],
          decide_ lane.val { o with iter := o.iter + 1 } 1 (fit 4608 hard)] s))))

/-- R101: the capture writer takes the record whose frame ended first; R102: the finished record goes to its slot, which is then
full, and a failed frame's entry is pushed; R103: a write of LN_CAP_FREE empties the slots written as 1 that the recorder does
not hold; R115, Table 4.14: a read of LN_FAIL_LO returns the oldest entry, latches its high word and removes it. -/
def Obligations.CaptureAndFailures : Prop :=
  ∀ (init : Initiator) (lane : Fin 16) (data : Word) (samples : List (BitVec 7 × BitVec 7)) (s : State),
    (∀ g, s.dyn.ch.writing = none → nextCapture s = some g → laneUp s g = true → reqReady s = true →
      exec .captureWriteStart s = .next (applyAll s [updCh (fun c => { c with writing := some g })])) ∧
    (∀ g k f, s.dyn.ch.writing = some g → (s.lane g).cap = some (k, f) → laneUp s g = true → reqReady s = true → f.reason = 0 →
      exec (.captureRecordDone samples) s = .next (applyAll s (seqs [
        reqWrite .media false (s.pair (Reg.LN_CAP_BASE_LO g) + k * 86016)
          (captureRecord s g f samples ++ leBytes ((64 - (captureRecord s g f samples).length % 64) % 64) s.fresh),
        fun _ => [.draw, .fld (Reg.LN_CAP_SLOTS g) k k 1, updLane g (fun l => { l with cap := none }),
          updCh (fun c => { c with writing := none })]] s))) ∧
    (accReady s init (Reg.LN_CAP_FREE lane.val) = true →
      ∃ t, exec (.lnCapFreeWrite init lane data) s = .next t ∧
        (∀ i : Fin 8, t.bit (Reg.LN_CAP_SLOTS lane.val) i.val = (s.bit (Reg.LN_CAP_SLOTS lane.val) i.val &&
          !(data.getLsbD i.val && !(w32 (s.dyn.wrk.held.getD lane.val 0)).getLsbD i.val))) ∧
        sameRegsBut (fun a => a = Reg.LN_CAP_SLOTS lane.val) s t ∧ sameMem s t ∧ t.dyn = s.dyn) ∧
    (∀ e rest, accReady s init (Reg.LN_FAIL_LO lane.val) = true → (s.lane lane.val).fails = e :: rest →
      exec (.lnFailRead init lane) s = .next (applyAll s [
        .emit (.readData init (Reg.LN_FAIL_LO lane.val) e.1.toNat),
        .upd (fun d => { d with sys := { d.sys with
          shadow := setAt d.sys.shadow init.id (some (Reg.LN_FAIL_HI lane.val, e.2)) } }), .draw,
        updLane lane.val (fun l => { l with fails := l.fails.drop 1 })]))

/-- R106, R108: the next job goes to the lowest idle decoder; R109, R110: its records are loaded, with the erasure list after the
last, and its marks searched for (the search's window is the model's choice, log 119); R112, R113: a hypothesis ends with
success unless it was abandoned before; R114: the result is written, or held while the completion ring is full, and written
once a slot frees. -/
def Obligations.DeepDecoderJobs : Prop :=
  ∀ (dd : Fin 4) (early : BitVec 224) (r : HypRun) (s : State), reqReady s = true →
    (∀ d b n h, n = decEntries (s.reg Reg.DEC_JQ_SIZE) → h = s.fld Reg.DEC_JQ_HEAD 9 0 % n → ddIdle s = some d →
      h ≠ s.fld Reg.DEC_JQ_TAIL 9 0 % n → reqRead s (s.pair Reg.DEC_JQ_BASE_LO + 64 * h) 64 = some b → ddBadDesc b = false →
      exec .ddJobTake s = .next (applyAll s (seqs [reqReadEv true (s.pair Reg.DEC_JQ_BASE_LO + 64 * h) 64 2, fun _ => [.draw,
        .reg Reg.DEC_JQ_HEAD (w32 ((h + 1) % n)), .reg (Reg.DEC_DD_STAT d) (w32 (2 ^ 31 + h)),
        updDec (fun c => { c with jobs := setAt c.jobs d (some { index := h, desc := b }) })]] s))) ∧
    (∀ j h l, s.ddJob dd.val = some j → decUp s dd.val = true → j.result = none → j.heads.length < ddCaps j →
      reqRead s (leAt j.desc (8 * j.heads.length) 8) 128 = some h →
      (reqRead s (leAt j.desc (8 * j.heads.length) 8 + 128) (2 * min 40960 (leAt h 28 2))).isSome = true →
      reqRead s (leAt j.desc 40 8) (if ddCaps j = j.heads.length + 1 ∧ leAt j.desc 40 8 ≠ 0 then 8 * leAt j.desc 52 2 else 0) =
        some l →
      exec (.ddRecordLoad dd) s = .next (applyAll s (seqs [
        reqReadEv false (leAt j.desc (8 * j.heads.length) 8) (128 + 2 * min 40960 (leAt h 28 2)) 2,
        reqReadEv false (leAt j.desc 40 8) (if ddCaps j = j.heads.length + 1 ∧
            leAt j.desc 40 8 ≠ 0 then 8 * leAt j.desc 52 2 else 0) 2,
        fun s => [updJob dd.val (fun j' => { j' with
          heads := j'.heads ++ [h]
          eras := j'.eras ++ eraList ((reqRead s (leAt j.desc 40 8)
            (if ddCaps j = j.heads.length + 1 ∧ leAt j.desc 40 8 ≠ 0 then 8 * leAt j.desc 52 2 else 0)).getD []) })],
        if ddCaps j = j.heads.length + 1 then ddLoaded dd.val else skip] s))) ∧
    (∀ j, s.ddJob dd.val = some j → decUp s dd.val = true → j.search = true → j.result = none →
      exec (.ddSyncSearch dd early) s = .next (applyAll s (ddBegin dd.val (ddSearch early ddWin) s))) ∧
    (∀ j st, s.ddJob dd.val = some j → j.cur = some st → decUp s dd.val = true → j.result = none →
      unsatisfied (fit 4608 r.hard) = 0 → ddChecks j (fit 4608 r.hard) = 0 →
      (j.final = true ∨ 4 * r.unsatAb < r.unsat1 ∨
        ((1 ≤ r.iters ∧ r.iters ≤ if leAt j.desc 51 1 = 0 then 8 else leAt j.desc 51 1) ∨
          leAt j.desc 48 1 ≤ if leAt j.desc 51 1 = 0 then 8 else leAt j.desc 51 1)) →
      exec (.ddHypothesisEnd dd r) s = .next (applyAll s [
        .cnt Reg.DEC_ITER_CNT 31 0 (max 1 (min (leAt j.desc 48 1) r.iters)),
        .fld (Reg.DEC_DD_STAT dd.val) 30 24 (max 1 (min (leAt j.desc 48 1) r.iters)),
        updJob dd.val (fun j' => { j' with cur := none, result := some {
          status := 0, hyp := st.start - j.base, ref := st.ref, iters := max 1 (min (leAt j.desc 48 1) r.iters),
          corr := r.corrected, unsat := 0, check := 0, out := some (ddOut (fit 4608 r.hard)) } })])) ∧
    (∀ j res, s.ddJob dd.val = some j → j.result = some res → decUp s dd.val = true → j.stuck = false → cqFull s = false →
      exec (.ddJobComplete dd) s = .next (applyAll s (ddFinish dd.val j res s))) ∧
    (∀ j res, s.ddJob dd.val = some j → j.result = some res → decUp s dd.val = true → j.stuck = false → cqFull s = true →
      exec (.ddJobComplete dd) s =
        .next (applyAll s [.sq Reg.DEC_STAT 2, updJob dd.val (fun j => { j with stuck := true })])) ∧
    (∀ j res, s.ddJob dd.val = some j → j.result = some res → decUp s dd.val = true → j.stuck = true → cqFull s = false →
      exec (.ddResultRelease dd) s = .next (applyAll s (ddFinish dd.val j res s)))

/-! Write paths and assist (01, 05). -/

/-- R118, R125: a write of WA_GO that names an enabled path while no transfer is in progress starts one: each named enabled path
waits, with its sectors, source and first sector from its registers, and raises the starts its driver and head need; R85: the
group's heads are selected. While a transfer is in progress WA_GO changes nothing (the model's choice: log 82). R126: a
waiting path whose conditions hold starts to write where its first slot is at hand and agrees, and its gate rises WG_LEAD bits
before (R123); where the slot's metadata disagrees the transfer ends with META (R121); R19: one whose grants came late starts
at its first sector; R144: one that waits for its restart goes on. R127: one revolution after its transfer the path's driver
is disabled. R141: a path whose sectors are all written ends. R144: a path whose next slot has not come lowers its gate,
clears INTR and waits for its restart with UNDERRUN set while retries are left, of which it takes one, and else ends. -/
def Obligations.WriteTransfers : Prop :=
  (∀ (init : Initiator) (act : Fin 4) (data : Word) (j : Nat) (s : State),
      accReady s init (Reg.WA_GO act.val) = true →
      ((s.waD act.val).paths.any (fun p => p.on) = true → exec (.waGo init act data) s = .next s) ∧
      ((s.waD act.val).paths.any (fun p => p.on) = false →
        (bitsOf 4 (data.fld 3 0)).filter (fun j => s.bit (Reg.WP_CTL act.val j) 0) = [j] →
        s.fld (Reg.WP_CNT act.val j) 15 0 ≠ 0 → s.bit (Reg.WP_RATE act.val j) 31 = true → s.bit (Reg.WP_CTL act.val j) 2 = true →
        asState s act.val (4 * groupOf s act.val + j) ≠ 0 → j < 4 → ownBand act.val (pathBand s act.val j) = true →
        (s.waD act.val).drv.testBit (4 * groupOf s act.val + j) = true →
        exec (.waGo init act data) s = .next (applyAll s (seqs [
          fun _ => [updWa act.val (fun w => { w with group := groupOf s act.val, retry := 0, cut := false, verify := false })],
          selHeads act.val (groupOf s act.val), fun _ => [.fld (Reg.WP_DONE act.val j) 31 31 0, .fld (Reg.WP_DONE act.val j) 17 17 1, .fld (Reg.WP_CTL act.val j) 4 3 1,
          updPath act.val j (fun p => { p with
            next := s.fld (Reg.WP_LOC act.val j) 16 0, left := s.fld (Reg.WP_CNT act.val j) 15 0,
            src := s.pair (Reg.WP_SRC_LO act.val j), restart := false, idleDrv := false, on := true })]] s)))) ∧
  (∀ (act path : Fin 4) (w : WriteRun) (s : State), enableDrv act.val s = [] → pathReady s act.val path.val = true →
      pathState s act.val path.val = 1 →
      ((s.path act.val path.val).restart = false → nextEnd s act.val path.val = .all →
        exec (.writePathStart act ⟨path, w⟩) s = .next (applyAll s (seqs [fun _ => [.fld (Reg.WP_CTL act.val path.val) 4 3 2,
          updPath act.val path.val (fun p => { p with restart := false })], gateSet act.val path.val true (wgLead s act.val path.val)] s))) ∧
      ((s.path act.val path.val).restart = false → nextEnd s act.val path.val = .metaBad →
        exec (.writePathStart act ⟨path, w⟩) s = .next (applyAll s (seqs [slotEv act.val path.val, metaEnd act.val w] s))) ∧
      ((s.path act.val path.val).restart = false → (s.path act.val path.val).next = s.fld (Reg.WP_LOC act.val path.val) 16 0 →
        nextEnd s act.val path.val = .all →
        exec (.lateGrantRetry act ⟨path, w⟩) s = .next (applyAll s (seqs [fun _ => [.fld (Reg.WP_CTL act.val path.val) 4 3 2,
          updPath act.val path.val (fun p => { p with restart := false })], gateSet act.val path.val true (wgLead s act.val path.val)] s))) ∧
      ((s.path act.val path.val).restart = true → nextEnd s act.val path.val = .all →
        exec (.underrunRestart act ⟨path, w⟩) s = .next (applyAll s (seqs [fun _ => [.fld (Reg.WP_CTL act.val path.val) 4 3 2,
          updPath act.val path.val (fun p => { p with restart := false })], gateSet act.val path.val true (wgLead s act.val path.val)] s)))) ∧
  (∀ (act path : Fin 4) (last : Nat) (w : WriteRun) (s : State), feUp s act.val = true →
      ((s.path act.val path.val).idleDrv = true → (s.path act.val path.val).on = false →
        exec (.wdrvIdleDisable act path) s = .next (applyAll s (seqs [
          sendDrv act.val (maskOf ((bitsOf 16 (s.waD act.val).drv).filter (fun k => k % 4 ≠ path.val))),
          fun _ => [.fld (Reg.WP_CTL act.val path.val) 2 2 0, updPath act.val path.val (fun p => { p with idleDrv := false })]] s))) ∧
      (pathState s act.val path.val = 2 → inhibited s act.val = false → (s.path act.val path.val).left = 0 →
        exec (.writeTransferEnd act ⟨path, w⟩) s = .next (applyAll s (pathEnd act.val path.val 0 s))) ∧
      (pathState s act.val path.val = 2 → inhibited s act.val = false → last + 1 = (s.path act.val path.val).next →
        0 < (s.path act.val path.val).left →
        (s.waD act.val).retry < s.fld (Reg.WA_CFG act.val) 10 8 →
        exec (.writeUnderrun act ⟨path, w⟩ last) s = .next (applyAll s (seqs [
          fun s => gateSet act.val path.val false (wgLag s act.val path.val) s,
          fun s => [.reg (Reg.WP_DONE act.val path.val) ((s.reg (Reg.WP_DONE act.val path.val)).setBit 31 false)],
          fun _ => [.fld (Reg.WP_CTL act.val path.val) 4 3 1, .sq (Reg.WA_STAT act.val) 0x20,
          updPath act.val path.val (fun p => { p with restart := true }), updWa act.val (fun w => { w with retry := w.retry + 1 })]] s))))

/-- R129: after its warm-up grant a head in OFF is sent BIAS and warms; WARM_US later it is in BIAS, and a warm-up is counted;
R131: a head that stays in BIAS for BIAS_HOLD is sent OFF, unless BIAS_HOLD is 0; R134: an ARMED head whose gate has stayed
low for ARM_IDLE is taken as back in BIAS. R130: one ARM frame names the started heads that are in BIAS, once every waiting
head has left warm-up and no inhibit holds. R132: a write of AS_PWR takes its value, and the head's code is computed again and
sent where it changed. -/
def Obligations.AssistHeads : Prop :=
  (∀ (act : Fin 4) (slot : Fin 16) (s : State),
      (feOn s act.val = true → asState s act.val slot.val = 0 → hasGrant s 1 (16 * act.val + slot.val) = true →
        exec (.assistBiasSend act slot) s = .next (applyAll s (seqs [enableDrv act.val,
          fun _ => [useGrant 1 (16 * act.val + slot.val)], feAssist act.val 1 (2 ^ slot.val),
          fun _ => [.fld (Reg.AS_STATE act.val slot.val) 1 0 1]] s))) ∧
      (feUp s act.val = true → asState s act.val slot.val = 1 →
        ∃ t, exec (.assistWarmDone act slot) s = .next t ∧ asState t act.val slot.val = 2 ∧
          t.fld (Reg.AS_WARM_CNT act.val slot.val) 31 0 = min (s.fld (Reg.AS_WARM_CNT act.val slot.val) 31 0 + 1) 0xFFFFFFFF ∧
          sameRegsBut (fun a => a = Reg.AS_STATE act.val slot.val ∨ a = Reg.AS_WARM_CNT act.val slot.val) s t ∧
          sameMem s t ∧ t.dyn = s.dyn) ∧
      (feOn s act.val = true → asState s act.val slot.val = 2 → s.fld (Reg.WA_ASSIST2 act.val) 15 8 ≠ 0 →
        ∃ t, exec (.assistBiasHoldExpiry act slot) s = .next t ∧ asState t act.val slot.val = 0 ∧
          (∃ f, t.out = .feFrame act.val f :: s.out ∧ f.take 2 = [0x10, 4]) ∧
          sameRegsBut (fun a => a = Reg.AS_STATE act.val slot.val) s t ∧ sameMem s t ∧ t.dyn = s.dyn) ∧
      (feOn s act.val = true → asState s act.val slot.val = 2 → s.fld (Reg.WA_ASSIST2 act.val) 15 8 = 0 →
        exec (.assistBiasHoldExpiry act slot) s = .next s) ∧
      (feUp s act.val = true → asState s act.val slot.val = 3 →
          ((s.path act.val (slot.val % 4)).wg = false ∨ slot.val / 4 ≠ (s.waD act.val).group) →
        ∃ t, exec (.armIdleExpiry act slot) s = .next t ∧ asState t act.val slot.val = 2 ∧
          sameRegsBut (fun a => a = Reg.AS_STATE act.val slot.val) s t ∧ sameMem s t ∧ t.dyn = s.dyn ∧ t.out = s.out)) ∧
  (∀ (init : Initiator) (act : Fin 4) (slot : Fin 16) (zone : Fin 32) (data : Word) (slots : List Nat) (s : State),
      (enableDrv act.val s = [] → feOn s act.val = true → inhibited s act.val = false →
        slots = ((List.range 4).filter (fun j => (s.path act.val j).on)).map (fun j => 4 * (s.waD act.val).group + j) →
        slots.any (fun k => asState s act.val k < 2) = false → (slots.filter (fun k => asState s act.val k == 2)) ≠ [] →
        exec (.assistArmSend act) s = .next (applyAll s (seqs [
          feAssist act.val 2 (maskOf (slots.filter (fun k => asState s act.val k == 2))),
          fun _ => (slots.filter (fun k => asState s act.val k == 2)).map (fun k => .fld (Reg.AS_STATE act.val k) 1 0 3)] s))) ∧
      (accReady s init (Reg.AS_PWR act.val slot.val zone.val) = true →
        exec (.asPwrWrite init act slot zone data) s = .next (applyAll s (seqs [
          plainWrite (Reg.AS_PWR act.val slot.val zone.val) data, sendCode act.val slot.val] s))))

/-- R136: a heartbeat reads register 0x00; a good answer ends a run of bad ones, the third bad one in a row sets DOWN and silences
the head's assist. R149: setting EN reads the front end's ID, writes ARM_IDLE to it and selects the group's heads; an ID with
a bad CRC sets CRC_ERR and is not taken (the model's choice, log 64). R145: the fault ball sets FE_FAULT on its fall, and
rises without an event; a write of WA_KILL takes its value. -/
def Obligations.FrontEndLink : Prop :=
  ∀ (init : Initiator) (act : Fin 4) (data : Word) (id : BitVec 16) (crcOk : Bool) (s : State),
    (feOn s act.val = true → id.toNat = (s.waD act.val).feId →
      exec (.feHeartbeat act id true) s = .next (applyAll s [.emit (.feFrame act.val [0x80, 0]),
        updWa act.val (fun w => { w with bad := 0 })])) ∧
    (feOn s act.val = true → (s.waD act.val).bad = 2 →
      ∃ t, exec (.feHeartbeat act id false) s = .next t ∧ t.bit (Reg.FE_STAT act.val) 0 = true ∧
        t.bit (Reg.FE_STAT act.val) 2 = true ∧ (∀ k : Fin 16, asState t act.val k.val = 0)) ∧
    (accReady s init (Reg.FE_CTL act.val) = true → s.bit (Reg.FE_CTL act.val) 0 = false →
      exec (.feLinkEnable init act data ⟨id, crcOk⟩) s = .next (applyAll s (seqs [plainWrite (Reg.FE_CTL act.val) (data ||| 1),
        seqs [feReadFrame act.val 0,
          fun _ => [updWa act.val (fun w => { w with feId := if crcOk then id.toNat else 0, bad := 0, headSel := none })],
          if crcOk then skip else feCrcErr act.val,
          feWrite act.val 0 4 (s.fld (Reg.WA_ASSIST2 act.val) 7 0), fun s => selHeads act.val (groupOf s act.val) s]] s))) ∧
    (feUp s act.val = true → (s.waD act.val).faultN = false →
      exec (.feFaultAssert act) s =
        .next (applyAll s [updWa act.val (fun w => { w with faultN := true }), .sq (Reg.FE_STAT act.val) 2])) ∧
    (exec (.feFaultDeassert act) s = .next (applyAll s [updWa act.val (fun w => { w with faultN := false })])) ∧
    (accReady s init (Reg.WA_KILL act.val) = true →
      ∃ t, exec (.waKillWrite init act data) s = .next t ∧ t.bit (Reg.WA_KILL act.val) 0 = data.getLsbD 0 ∧
        sameRegsBut (fun a => a = Reg.WA_KILL act.val) s t ∧ sameMem s t ∧ t.dyn = s.dyn)

/-- R145: which condition of Table 5.3 each inhibit reason stands for, as far as registers and balls show it: PLAUS_FAIL,
FE_FAULT_N, DOWN and WA_KILL hold an inhibit, and so does a transferring head that is off its track or missed its wedge; no
other head does. R146: an inhibit cuts off every path that writes, lowers the gates, disarms the heads, and leaves its reason,
wedge and head in WA_INH_LAST; with a clean verify the transfer goes on from LAST + 1 once no source holds, and ends with
RETRY_EXH where the retries are spent. -/
def Obligations.WriteInhibits : Prop :=
  (∀ (act : Fin 4) (s : State),
      (s.bit (Reg.HL_FLAGS act.val) 5 = true → inhibited s act.val = true) ∧
      ((s.waD act.val).faultN = true → inhibited s act.val = true) ∧
      (s.bit (Reg.FE_STAT act.val) 0 = true → inhibited s act.val = true) ∧
      (s.bit (Reg.WA_KILL act.val) 0 = true → inhibited s act.val = true) ∧
      (∀ j, j ∈ writing s act.val → ((s.hl act.val).missed.getD j false = true ∨
        (s.hl act.val).onTrk.getD j 0 < max 1 (s.fld (Reg.WA_CFG act.val) 15 12)) → inhibited s act.val = true) ∧
      (writing s act.val = [] → inhibitOf s act.val .offtrack = false ∧ inhibitOf s act.val .servoMiss = false)) ∧
  (∀ (act : Fin 4) (reason : Inhibit) (wedge : BitVec 10) (head : Fin 64) (w : WriteRun) (s : State), feUp s act.val = true →
      (∀ js, inhibitOf s act.val reason = true → js = (List.range 4).filter (fun j => pathState s act.val j == 2) → js ≠ [] →
        exec (.writeInhibitBegin act reason wedge head w) s = .next (applyAll s (seqs [each js (cutPath act.val w),
          gatesLow act.val, disarm act.val, fun _ => [
            .reg (Reg.WA_INH_LAST act.val) (w32 (reason.code * 2 ^ 28 + wedge.toNat * 2 ^ 18 + head.val * 4096)),
            .cnt (Reg.WA_INH_CNT act.val) 31 0 1, .sq (Reg.WA_STAT act.val) 1,
            updWa act.val (fun w => { w with
              cut := true, verify := (reason == .plaus || reason == .offtrack) && s.bit (Reg.WA_CFG act.val) 11 })] ++
            (List.range 4).flatMap (fun j => if (s.path act.val j).on then [.fld (Reg.WP_CTL act.val j) 4 3 3] else []),
          fun s => if js.any (fun j => nextEnd s act.val j == .metaBad) then endAll act.val 16 s else [],
          trigger 2 act.val] s))) ∧
      ((s.waD act.val).cut = true → (s.waD act.val).verify = true →
        exec (.inhibitVerifyRead act []) s = .next (applyAll s [updWa act.val (fun w => { w with verify := false })])) ∧
      ((s.waD act.val).cut = true → (s.waD act.val).verify = false → inhibited s act.val = false →
        (s.waD act.val).retry < s.fld (Reg.WA_CFG act.val) 10 8 →
        exec (.inhibitRewrite act) s = .next (applyAll s ([updWa act.val (fun w => { w with cut := false, retry := w.retry + 1 })] ++
          (List.range 4).flatMap (fun j => if (s.path act.val j).on then [.fld (Reg.WP_CTL act.val j) 4 3 1] else [])))) ∧
      ((s.waD act.val).cut = true → (s.waD act.val).verify = false → s.fld (Reg.WA_CFG act.val) 10 8 ≤ (s.waD act.val).retry →
        exec (.inhibitRewrite act) s = .next (applyAll s (endAll act.val 4 s))))

/-! Headland, tide, ebb and calibration (03, 06, 07). -/

/-- R155: a write of the engine memories with COEF_HOLD 0 makes a CFG token, unless the queue is full; with COEF_HOLD 1 it is
buffered while fewer than 64 writes are, and else HOLD_OVF is set and the write is dropped; R472: while the engine replays it
lands at once. R204: no entry of a running ramp targets the word here. R158: the sequencer runs the token at the front of the
queue. R155: the write of HL_CTL that returns COEF_HOLD to 0 applies the buffered writes, the earliest first, and empties the
buffer. R153: a write of HL_PM_DATA_HI with a staged low word stores the instruction at HL_PM_ADDR, which advances; with EN at
1 it is ignored. R75: a committed write of TIDE_HI makes a CFG token of the whole entry; 64 wedges after a change in the
segment in use writing on the group is free again. -/
def Obligations.EngineMemoryWrites : Prop :=
  (∀ (init : Initiator) (act : Fin 4) (offset : BitVec 16) (data : Word) (rec : Bool) (off : Nat) (s : State),
      off = offset.toNat / 4 * 4 → isEngMem off = true → accReady s init (actAddr act.val off) = true → (s.hl act.val).ramp = [] →
      (directWrites s act.val = false → s.bit (Reg.HL_CTL act.val) 16 = false → (s.hl act.val).queue.length < 32 →
        exec (.coefMemoryWrite init act offset data) s = .next (applyAll s [
          updHl act.val (fun h => { h with queue := h.queue ++ [(off, data.toNat)] })])) ∧
      (directWrites s act.val = false → s.bit (Reg.HL_CTL act.val) 16 = true → (s.hl act.val).hold.length < 64 →
        exec (.coefMemoryWrite init act offset data) s = .next (applyAll s [
          updHl act.val (fun h => { h with hold := h.hold ++ [(off, data.toNat)] })])) ∧
      (directWrites s act.val = false → s.bit (Reg.HL_CTL act.val) 16 = true → 64 ≤ (s.hl act.val).hold.length →
        ∃ t, exec (.coefMemoryWrite init act offset data) s = .next t ∧ t.bit (Reg.HL_FLAGS act.val) 8 = true ∧
          sameRegsBut (fun a => a = Reg.HL_FLAGS act.val) s t ∧ sameMem s t ∧ t.dyn = s.dyn) ∧
      (directWrites s act.val = true →
        ∃ t, exec (.coefMemoryWrite init act offset data) s = .next t ∧ t.reg (actAddr act.val off) = data ∧
          sameRegsBut (fun a => a = actAddr act.val off) s t ∧ sameMem s t ∧ t.dyn = s.dyn) ∧
      (∀ rest, hlUp s act.val = true → (s.hl act.val).queue = (off, data.toNat) :: rest → armedAct s act.val = false →
        ∃ t, exec (.cfgTokenRun act rec) s = .next t ∧ t.reg (actAddr act.val off) = data ∧
          sameRegsBut (fun a => a = actAddr act.val off ∨ a = Reg.HL_TOK_CNT act.val) s t ∧ sameMem s t)) ∧
  (∀ (init : Initiator) (act group : Fin 4) (seg : Fin 256) (data lo : Word) (s : State),
      (accReady s init (Reg.HL_CTL act.val) = true → s.bit (Reg.HL_CTL act.val) 16 = true →
        exec (.coefHoldRelease init act) s = .next (applyAll s (seqs [
          plainWrite (Reg.HL_CTL act.val) (hlCtlRw s act.val &&& 0xFFFEFFFF), fun s => selHeads act.val (groupOf s act.val) s,
          fun s => seqs [each (s.hl act.val).hold (fun p => seqs [cfgApply act.val p.1 p.2, recCfg act.val p.1 p.2 true]),
            fun _ => [updHl act.val (fun h => { h with hold := [] })]] s] s))) ∧
      (accReady s init (Reg.HL_PM_DATA_HI act.val) = true → staged s init (Reg.HL_PM_DATA_LO act.val) = some lo →
        (s.bit (Reg.HL_CTL act.val) 0 = false →
          exec (.pmDataWrite init act data) s = .next (applyAll s [
            updHl act.val (fun h => { h with
              pm := pmPut h.pm (s.fld (Reg.HL_PM_ADDR act.val) 13 0) (lo.toNat + 2 ^ 32 * data.toNat) }),
            .fld (Reg.HL_PM_ADDR act.val) 13 0 (s.fld (Reg.HL_PM_ADDR act.val) 13 0 + 1),
            unstage init])) ∧
        (s.bit (Reg.HL_CTL act.val) 0 = true →
          exec (.pmDataWrite init act data) s = .next (applyAll s [unstage init]))) ∧
      (accReady s init (Reg.TIDE_HI act.val (group.val * 256 + seg.val)) = true →
        staged s init (Reg.TIDE_LO act.val (group.val * 256 + seg.val)) = some lo → directWrites s act.val = false →
        (s.hl act.val).ramp = [] → s.bit (Reg.HL_CTL act.val) 16 = false → (s.hl act.val).queue.length < 32 →
        exec (.tideHiCommit init act group seg data) s = .next (applyAll s [
          updHl act.val (fun h => { h with
            queue := h.queue ++ [(0xD000 + (group.val * 256 + seg.val) * 8, lo.toNat + 2 ^ 32 * data.toNat)] }),
          unstage init])) ∧
      (hlUp s act.val = true → exec (.tideInhibitExpiry act group) s = .next (applyAll s [
        updHl act.val (fun h => { h with ebb := modAt h.ebb group.val (fun e => { e with tideInh := false }) })])))

/-- R174: LOAD with the engine PARKED, EN at 1, the microcode running and PLAUS_FAIL clear starts a load; with PLAUS_FAIL set
(R187), or on an actuator calibration keeps parked (R194, R196), it does not. R175: UNLOAD in LOADING or FOLLOWING starts an
unload; R185: the unload ends PARKED with the driver's status or, after the two time-outs, PARKED with PARK_UNCONF. R170,
R173: a frame of the voice-coil or microactuator link whose CRC is right is taken by the next token; a wrong one is counted,
and nothing else changes. R185: RETRACTING or FAULT before any UNLOAD fails the engine with cause MPD. R187: a clear of
PLAUS_FAIL is ignored unless the engine is PARKED. -/
def Obligations.HeadlandStatesAndLinks : Prop :=
  (∀ (init : Initiator) (act : Fin 4) (value : BitVec 16) (s : State),
      (accReady s init (Reg.HL_CTL act.val) = true → hlState s act.val = 0 → s.bit (Reg.HL_CTL act.val) 0 = true →
        (s.hl act.val).stopped = false → s.bit (Reg.HL_FLAGS act.val) 5 = false → (s.hl act.val).hold = [] →
            s.up (34 + act.val) = true →
        s.dyn.keepParked.contains act.val = false →
        ∃ t, exec (.hlLoad init act) s = .next t ∧ hlState t act.val = 1 ∧ sameMem s t) ∧
      (accReady s init (Reg.HL_CTL act.val) = true → hlState s act.val = 0 →
        (s.bit (Reg.HL_FLAGS act.val) 5 = true ∨ s.dyn.keepParked.contains act.val = true) →
        ∃ t, exec (.hlLoad init act) s = .next t ∧ hlState t act.val = 0) ∧
      (accReady s init (Reg.HL_CTL act.val) = true → (hlState s act.val = 1 ∨ hlState s act.val = 2) →
        s.bit (Reg.HL_RAMP_CTL act.val) 1 = false →
        ∃ t, exec (.hlUnload init act) s = .next t ∧ hlState t act.val = 3 ∧ sameMem s t ∧
          sameRegsBut (fun a => a = Reg.HL_CTL act.val) s t) ∧
      (hlUp s act.val = true → s.bit (Reg.HL_CTL act.val) 2 = true → value.getLsbD 0 = true → value.getLsbD 2 = false →
        value.getLsbD 3 = false → hlState s act.val = 3 → (s.hl act.val).park ≠ 0 → s.bit (Reg.HL_RAMP_CTL act.val) 1 = false →
        ∃ t, exec (.vcStatusFrame act value true) s = .next t ∧ hlState t act.val = 0 ∧ t.bit (Reg.HL_FLAGS act.val) 7 = true ∧
          sameRegsBut (fun a => a = Reg.HL_CTL act.val ∨ a = Reg.HL_FLAGS act.val) s t ∧ sameMem s t) ∧
      (hlUp s act.val = true → hlState s act.val = 4 → (s.hl act.val).park = 1 →
        exec (.parkTimeout act) s = .next (applyAll s [updHl act.val (fun h => { h with park := 2 })])) ∧
      (hlUp s act.val = true → hlState s act.val = 4 → (s.hl act.val).park = 2 → s.bit (Reg.HL_RAMP_CTL act.val) 1 = false →
        ∃ t, exec (.parkTimeout act) s = .next t ∧ hlState t act.val = 0 ∧ t.bit (Reg.HL_FLAGS act.val) 7 = true ∧
          t.bit (Reg.HL_FLAGS act.val) 9 = true ∧
          sameRegsBut (fun a => a = Reg.HL_CTL act.val ∨ a = Reg.HL_FLAGS act.val) s t ∧ sameMem s t)) ∧
  (∀ (init : Initiator) (act : Fin 4) (slot : Fin 16) (value : BitVec 16) (data : Word) (s : State),
      (hlUp s act.val = true → s.bit (Reg.HL_CTL act.val) 2 = true →
        exec (.vcCurrentFrame act value true) s = .next (applyAll s [
          updHl act.val (fun h => { h with current := sgn 16 value.toNat, curFresh := true })]) ∧
        (∃ t, exec (.vcCurrentFrame act value false) s = .next t ∧
          t.fld (Reg.HL_CRC_CNT act.val) 31 16 = min (s.fld (Reg.HL_CRC_CNT act.val) 31 16 + 1) 0xFFFF ∧
          t.fld (Reg.HL_CRC_CNT act.val) 15 0 = s.fld (Reg.HL_CRC_CNT act.val) 15 0 ∧
          sameRegsBut (fun a => a = Reg.HL_CRC_CNT act.val) s t ∧ sameMem s t ∧ t.dyn = s.dyn)) ∧
      (hlUp s act.val = true → s.bit (Reg.HL_CTL act.val) 1 = true →
        exec (.msSenseFrame act slot value true) s = .next (applyAll s [
          updHl act.val (fun h => { h with sense := setAt h.sense slot.val (sgn 16 value.toNat) })]) ∧
        (∃ t, exec (.msSenseFrame act slot value false) s = .next t ∧
          t.fld (Reg.HL_CRC_CNT act.val) 15 0 = min (s.fld (Reg.HL_CRC_CNT act.val) 15 0 + 1) 0xFFFF ∧
          sameRegsBut (fun a => a = Reg.HL_CRC_CNT act.val) s t ∧ sameMem s t ∧ t.dyn = s.dyn)) ∧
      (hlUp s act.val = true → s.bit (Reg.HL_CTL act.val) 2 = true → (value.getLsbD 2 = true ∨ value.getLsbD 3 = true) →
        (s.hl act.val).sentUnload = false → hlState s act.val ≠ 4 → s.bit (Reg.HL_RAMP_CTL act.val) 1 = false →
        ∃ t, exec (.vcStatusFrame act value true) s = .next t ∧ hlState t act.val = 4 ∧ t.bit (Reg.HL_FLAGS act.val) 5 = true ∧
          t.fld (Reg.HL_FAIL act.val) 31 28 = 6) ∧
      (accReady s init (Reg.HL_FLAGS act.val) = true →
        ∃ t, exec (.hlFlagsWrite init act data) s = .next t ∧
          (hlState s act.val ≠ 0 → t.bit (Reg.HL_FLAGS act.val) 5 = s.bit (Reg.HL_FLAGS act.val) 5) ∧
          (hlState s act.val = 0 → data.fld 31 24 = s.fld (Reg.HL_FLAGS act.val) 31 24 → data.getLsbD 5 = true →
            t.bit (Reg.HL_FLAGS act.val) 5 = false) ∧
          sameRegsBut (fun a => a = Reg.HL_FLAGS act.val ∨ a = Reg.HL_SAT_SRC act.val) s t ∧ sameMem s t ∧ t.dyn = s.dyn))

/-- R158, R169: a CUR token runs the CFG tokens before it and then its own work with the CURRENT value that came since the last
one. R160-R167, R489: an SRV token of an enabled lane pulses SRV_TRIG and does so too; R172, R178, R202: so does a PRF token.
R157: a token that finds 32 CFG tokens queued is told so. None runs while the engine replays. R203: with COEF_HOLD at 1 a
running ramp takes no step. R202: GO starts a ramp of up to 16 words. -/
def Obligations.TokensRun : Prop :=
  ∀ (init : Initiator) (act : Fin 4) (tick : Fin 8) (tok : SrvToken) (wedge : BitVec 10) (ecc : Option Nat) (rec : Bool)
    (data : Word) (full : Bool) (s : State), full = decide (32 ≤ (s.hl act.val).queue.length) →
    (hlUp s act.val = true → hlReplay s act.val = false →
      exec (.curTokenRun act tick ecc rec) s = .next (applyAll s (seqs [drainCfg act.val, fun _ => [nextTok act.val],
        fun s => seqs [flushLoop act.val rec, beginLoop act.val tick.val (s.hl act.val).curFresh (s.hl act.val).current,
          curBody act.val tick.val (s.hl act.val).curFresh (s.hl act.val).current (theProg ecc) full] s,
        fun _ => [updHl act.val (fun h => { h with unlNew := false })]] s))) ∧
    (hlUp s act.val = true → hlReplay s act.val = false → (enabledPos s act.val).contains tok.pos.val = true →
      exec (.srvTokenRun act tok ecc) s = .next (applyAll s (seqs [srvPulse act.val, drainCfg act.val, fun _ => [nextTok act.val],
        fun s => srvBody act.val tok (srvBytes (s.hl act.val).tokNo tok) (theProg ecc) full s,
        fun _ => [updHl act.val (fun h => { h with unlNew := false })]] s))) ∧
    (hlUp s act.val = true → hlReplay s act.val = false →
      exec (.prfTokenRun act wedge ecc) s = .next (applyAll s (seqs [drainCfg act.val, fun _ => [nextTok act.val],
        prfBody act.val wedge.toNat (theProg ecc) full, fun _ => [updHl act.val (fun h => { h with unlNew := false })]] s))) ∧
    (hlReplay s act.val = true → exec (.curTokenRun act tick ecc rec) s = .next s ∧
      exec (.srvTokenRun act tok ecc) s = .next s ∧ exec (.prfTokenRun act wedge ecc) s = .next s) ∧
    (s.bit (Reg.HL_CTL act.val) 16 = true → rampStep act.val s = []) ∧
    (accReady s init (Reg.HL_RAMP_CTL act.val) = true → s.bit (Reg.HL_RAMP_CTL act.val) 1 = false → hlState s act.val = 2 →
      ((List.range (min 16 ((data ||| 1).fld 20 16))).map (rampEntry s act.val)).any (fun e => !rampOffOk e.off) = false →
      ∃ t, exec (.rampGo init act data) s = .next t ∧ t.bit (Reg.HL_RAMP_CTL act.val) 1 = true ∧
        t.fld (Reg.HL_RAMP_STEP act.val) 11 0 = 0 ∧
        sameRegsBut (fun a => a = Reg.HL_RAMP_CTL act.val ∨ a = Reg.HL_RAMP_STEP act.val) s t ∧ sameMem s t ∧ t.out = s.out)

/-- R76, R78: an evaluation in FOLLOWING of the group followed shows the differential offset; with no reason of Table 3.7 outside
ebb mode, nothing else changes; with one, the group enters ebb mode at the depth the reason asks for. R79: at a round boundary
that the set has finished its span for (the model's reading of a round's end, log 57), with no reason left and the dwell long
enough, all four positions transfer again. -/
def Obligations.EbbMode : Prop :=
  ∀ (act group : Fin 4) (wedge : BitVec 10) (w : WriteRun) (s : State), hlRuns s act.val = true →
    (hlState s act.val = 2 → groupOf s act.val = group.val → s.fld (Reg.EBB_STAT act.val group.val) 5 4 = 0 →
      ebbReason s act.val group.val = 0 →
      ∃ t, exec (.ebbWedgeEval act ⟨group, wedge, w⟩) s = .next t ∧
        t.fld (Reg.EBB_DIFF act.val group.val) 15 0 = (spread (ebbNeed s act.val group.val) [0, 1, 2, 3] / 8).toNat % 65536 ∧
        sameRegsBut (fun a => a = Reg.EBB_DIFF act.val group.val) s t ∧ sameMem s t ∧ t.dyn = s.dyn ∧ t.out = s.out) ∧
    (hlState s act.val = 2 → groupOf s act.val = group.val → s.fld (Reg.EBB_STAT act.val group.val) 5 4 = 0 →
      ebbReason s act.val group.val ≠ 0 → ∀ k, k = (bestSplit s act.val group.val).getD (leastSplit s act.val group.val) →
      exec (.ebbWedgeEval act ⟨group, wedge, w⟩) s = .next (applyAll s (seqs [
        fun _ => [.fld (Reg.EBB_DIFF act.val group.val) 15 0 (spread (ebbNeed s act.val group.val) [0, 1, 2, 3] / 8).toNat],
        seqs [fun _ => [updEbb act.val group.val (fun e => { e with split := k, dwell := 0, revs := 0 }),
            .cnt (Reg.EBB_ENTRIES act.val group.val) 31 0 1],
          alignLog act.val group.val 1 (ebbDepth s act.val group.val (ebbReason s act.val group.val))
            (ebbReason s act.val group.val) 0,
          roundBegin act.val group.val wedge.toNat,
          ebbTake act.val group.val (ebbDepth s act.val group.val (ebbReason s act.val group.val))
            (ebbReason s act.val group.val)
            ((ebbSets s act.val group.val (ebbDepth s act.val group.val (ebbReason s act.val group.val)) k).headD []) 1 w]] s))) ∧
    (s.fld (Reg.EBB_STAT act.val group.val) 5 4 ≠ 0 → ebbReason s act.val group.val = 0 →
      roundDone s act.val group.val wedge.toNat (ebbSets s act.val group.val (s.fld (Reg.EBB_STAT act.val group.val) 5 4)
        (ebbOf s act.val group.val).split) w = true →
      16 * max 1 (s.fld (Reg.EBB_CFG act.val) 23 16) ≤ (ebbOf s act.val group.val).dwell →
      ∀ n, n = (if (ebbOf s act.val group.val).revs = 0 then max 1 (s.fld (Reg.EBB_CFG act.val) 31 24)
        else max 1 (s.fld (Reg.EBB_CFG act.val) 31 24) + 1) →
      exec (.ebbRoundBoundary act ⟨group, wedge, w⟩) s = .next (applyAll s (seqs [
        fun _ => [.cnt (Reg.EBB_REVS act.val group.val) 31 0 n,
          updEbb act.val group.val (fun e => { e with revs := e.revs + n })],
        seqs [alignLog act.val group.val 2 4 0 ((ebbOf s act.val group.val).revs + n),
          ebbTake act.val group.val 4 0 [0, 1, 2, 3] 2 w]] s))) ∧
    (roundDone s act.val group.val wedge.toNat (ebbSets s act.val group.val (s.fld (Reg.EBB_STAT act.val group.val) 5 4)
        (ebbOf s act.val group.val).split) w = false → exec (.ebbRoundBoundary act ⟨group, wedge, w⟩) s = .next s)

/-- R316: CALIBRATE with an item and no run in progress starts a run over its items and actuators, with a current set or (R194)
covering everything in native mode; with no current set in compatibility mode it ends with Command Sequence Error. R199: an
abandoned unit counts for nothing. R195, R201: a unit that ends short of its measurement is counted; R193: a run that is not
done does not commit; at CRITICAL nothing is measured or committed. -/
def Obligations.CalibrationRuns : Prop :=
  ∀ (cmd : CmdRef) (act : Fin 4) (unit : CalUnit) (ok : Bool) (c : HCmd) (s : State),
    (cmdReady s cmd true 0xC0 c = true → s.up 19 = true → calRun s = none → (c.cdw 10).fld 5 0 ≠ 0 →
      ((calCurrent s).isSome = true ∨ ((c.cdw 10).bit 8 = false ∧ (c.cdw 10).fld 5 0 = 0x3F ∧
        ((c.cdw 10).fld 19 16 = 0 ∨ (c.cdw 10).fld 19 16 = 15))) →
      exec (.calibrate cmd) s = .next (applyAll s [updCmd c.no (fun x => { x with work := .cal }),
        .upd (fun y => { y with cal := some {
          no := c.no, items := (c.cdw 10).fld 5 0, compat := (c.cdw 10).bit 8,
          acts := if (c.cdw 10).fld 19 16 = 0 then 15 else (c.cdw 10).fld 19 16 } })])) ∧
    (cmdReady s cmd true 0xC0 c = true → s.up 19 = true → calRun s = none → (c.cdw 10).fld 5 0 ≠ 0 → calCurrent s = none →
      (c.cdw 10).bit 8 = true → exec (.calibrate cmd) s = .next (applyAll s (finish c (status 0 0x0C) s))) ∧
    (exec (.calUnitAbandon act) s = .next s) ∧
    (∀ r i g k m, calRun s = some r → i = unit.item.val → g = (if i = 1 then 4 * act.val else unit.head.val / 4) →
      k = (if calPlaces i = 1 then 0 else unit.unit % calPlaces i) → m = r.at i g k → (bitsOf 6 r.items).contains i = true →
      (r.groups i).contains g = true → g / 4 = act.val → m.done = false → hlUp s act.val = true → actIdle s act.val = true →
      atCritical s = false → m.units + 1 < calUnits i →
      exec (.calMeasureUnit act unit) s = .next (applyAll s [updCal (fun r => { r with
        meas := { m with units := m.units + 1 } :: r.meas.filter (fun x => !(x.item == i && x.group == g && x.idx == k))
        temp := r.temp + unit.temp, temps := r.temps + 1 })])) ∧
    (∀ r, calRun s = some r → r.done = false → exec (.calCommit ok) s = .next s) ∧
    (calRun s ≠ none → atCritical s = true → exec (.calCommit ok) s = .next s ∧ exec (.calMeasureUnit act unit) s = .next s) ∧
    (∀ r b, calRun s = some r → r.done = true → s.up 19 = true → atCritical s = false → calCurrent s = none →
      b = calBuild s r none →
      exec (.calCommit true) s = .next (applyAll s (seqs [calErase 0, fun _ => [.nor (calHalf 0) b],
        seqs [fun _ => [.nor (calHalf 0 + 60) (zeros 4)], calErase 1, calExclude b, calAssist b],
        fun _ => [.upd (fun d => { d with cal := none })],
        fun s => match s.dyn.hq.cmds.find? (fun c => c.no == r.no) with
          | some c => finish c (calCpl r true) s
          | none => []] s)))

/-! Media recovery and zones (08, 10). -/

/-- R211, Table 8.1: the steps run in order, a step that reads only while the actuator has no transfer in hand (R14). A step whose
decode gives the sector's frame ends the ladder with the data recovered at that step; a step that does not goes to the next,
and the ladder fails where no step is left. Step 1 runs the reference start alone, for at most 64 iterations. R215: the
rebuild of step 4 serves up to two lost sectors of the run. R218: step 5 reads on the twin's lane. -/
def Obligations.LadderSteps : Prop :=
  ∀ (head : Fin 64) (band sector : Nat) (passes : List SectorOutcome) (lost : List Nat) (r r2 : DeepRun) (o o2 : SectorOutcome)
    (l : Ladder) (info : List Byte) (s : State),
    ladderOf s head.val band sector = some l → mediaReady s = true →
    (storedInfo s l.head l.band l.sector = some info → infoOk s l.head l.band l.sector info = true → ∀ k,
      stepEnd l k true s = ladderWin l k info s ∧
      stepEnd l k false s = seqs [fun _ => [putLadder { l with step := k }], ladderGo { l with step := k }] s) ∧
    (deepJob.wins r = true ↔ r.ok = true ∧ r.hyp.val = 0 ∧ 1 ≤ r.iters ∧ r.iters ≤ 64 ∧ r.soft = false) ∧
    (nextStep s l = some 1 → exec (.ladderDeep head band sector r) s = .next (applyAll s (stepEnd l 1 (deepJob.wins r) s))) ∧
    (nextStep s l = some 2 → actFree s (head.val / 16) = true →
      exec (.ladderReread head band sector passes) s = .next (applyAll s (seqs [armedReads head.val sector (optRereads s - 1),
        stepEnd { l with caps := l.caps + ((passes.take (optRereads s)).filter (fun p => p.captured)).length } 2
          ((passes.take (optRereads s)).any (fun p => p.reason == 0))] s))) ∧
    (nextStep s l = some 3 →
      exec (.ladderShift head band sector r) s = .next (applyAll s (stepEnd l 3 ((shiftJob l.caps).wins r) s))) ∧
    (nextStep s l = some 5 → actFree s (twin head.val / 16) = true → laneUp s (headLane (twin head.val)) = true → o.reason = 0 →
      exec (.ladderTwin head band sector ⟨o, r, o2, r2⟩) s = .next (applyAll s (seqs [armedReads (twin head.val) sector 0,
        stepEnd l 5 true] s))) ∧
    (nextStep s l = some 5 → actFree s (twin head.val / 16) = false →
      exec (.ladderTwin head band sector ⟨o, r, o2, r2⟩) s = .next s) ∧
    (∀ gone b, nextStep s l = some 4 → actFree s (head.val / 16) = true →
      gone = runGone s head.val band (sector - sector % 66) (sector % 66) lost → gone.length ≤ 2 →
      b = rebuiltInfo (fun k => runInfo s head.val band (sector - sector % 66 + k)) gone (sector % 66) head.val band
        (sector - sector % 66) (sectKind s (zoneOf s head.val band) sector) (epochOf s (zoneOf s head.val band)) →
      infoOk s head.val band sector b = true →
      exec (.ladderParity head band sector lost true) s = .next (applyAll s (ladderWin l 4 b s))) ∧
    (∀ gone, nextStep s l = some 4 → actFree s (head.val / 16) = true →
      gone = runGone s head.val band (sector - sector % 66) (sector % 66) lost → 2 < gone.length →
      exec (.ladderParity head band sector lost true) s = .next (applyAll s (seqs [fun _ => [putLadder { l with step := 4 }],
        ladderGo { l with step := 4 }] s)))

/-- R223, R227: a conventional sector due for relocation is written to the band's next spare, and the table refers to it once it
reads back; with no spare left, or no entry, NO_SPARE counts and it is given up. R224: a shingled band that has filled writes
its pending sectors to spares. R14: both wait for the actuator. R229, R230: a patrol revolution of an idle actuator takes up
the sectors of the pass in their order, a good one moves the place on, and a pass that has read every written sector counts;
nothing is read on an actuator that is not idle. R232, R233: a scan of a cut-off zone moves its write pointer to what the four
scanned ends give; R235: the track before each end is read; R234: a sector read back for parity that failed goes through the
ladder. R231: a zone whose state is due is saved. R286, R143: a run of a zone whose data is all at hand is written with the
key at hand, and what waits for it is settled; with the key gone the zone fails as R290 has it. R286: at AGE_S the zone's data
goes out. R290: a transfer that could not write a zone's data is tried once more, and then the zone is lost. R14: a transfer
waits for the actuator. -/
def Obligations.MediaUpkeep : Prop :=
  (∀ (head : Fin 64) (band sector : Nat) (m : MSec) (step : Nat) (readBack : List Bool) (s : State), mediaReady s = true →
      (actFree s (head.val / 16) = true →
        s.dyn.rcv.reloc.find? (fun x => x.1.head == head.val && x.1.band == band && x.1.sector == sector) = some (m, step) →
        exec (.relocateConventional head band sector readBack) s = .next (applyAll s (relocate m step readBack (updRcv (fun r => { r with
          reloc := r.reloc.filter (fun x => x.1.head != m.head || x.1.band != m.band || x.1.sector != m.sector) })) s))) ∧
      (∀ e, actFree s (head.val / 16) = true → firstPending s head.val band = some e → isConvBand s band = false →
        67584 ≤ bandPtr s head.val band →
        s.dyn.rcv.pend.find? (fun x => x.head == e.head && x.band == e.band && x.sector == e.sector) = some m →
        exec (.pendingSpareWrite head band readBack) s = .next (applyAll s (relocate m e.step readBack (pendingGone e) s))) ∧
      (∀ gone, 328 ≤ nextSpare s m.head m.band ∨ tableTakes s m.head m.band m.sector = false →
        relocate m step readBack gone s = [recCount 8 1, gone]) ∧
      (actFree s (head.val / 16) = false → exec (.relocateConventional head band sector readBack) s = .next s ∧
        exec (.pendingSpareWrite head band readBack) s = .next s)) ∧
  (∀ (act pos : Fin 4) (zone runNo : Nat) (s : State), mediaReady s = true →
      (optPatrol s ≠ 0 → actIdle s act.val = true →
        ∀ h b k, patrolNext s act.val (s.dyn.media.patrol.getD act.val 0) = some (h, b, k) → ∀ o : SectorOutcome, o.reason = 0 →
          exec (.patrolRevolution act [o]) s = .next (applyAll s (seqs [
            fun _ => [updMedia (fun m => { m with patrol := setAt m.patrol act.val (patrolKey h b k + 1) })], patrolEnd] s))) ∧
      (actIdle s act.val = false → ∀ os, exec (.patrolRevolution act os) s = .next s) ∧
      (∀ (reads : List (List (SectorOutcome × Bool))) (start : Nat → Nat) (place : Nat → Place)
          (scan : Nat → Nat × List (Nat × Nat × Nat × Bool × Bool)) (n found : Nat) (ends : List (Option Nat)),
        s.dyn.zn.scan.contains zone = true → zoneFree s zone = true →
        start = (fun j => blockSector (lowBlock (zoneAt s zone).wp j)) → place = (fun j => placeOf s (zone * zoneBlocks + j * 64)) →
        scan = (fun j => scanBand s zone (place j).head (place j).band (67584 - start j) (start j) (reads.getD j [])) →
        (∀ j : Fin 4, (scan j.val).2 = []) →
        n = min zoneBlocks ((List.range 4).foldl (fun m j => min m (sectorBlock (scan j).1 j)) (2 * zoneBlocks)) →
        ends = (List.range 4).map (fun j => if start j < (scan j).1 then some (scan j).1 else none) →
        found = (ends.filter (fun x => x.isSome)).length →
        exec (.cutWriteScan zone reads) s = .next (applyAll s (seqs [
          fun _ => [putZone { zoneAt s zone with wp := n, st := if n = zoneBlocks then 14 else (zoneAt s zone).st, due := true },
            updMedia (fun m => { m with ptr := (List.range 4).foldl (fun p j =>
                hbPut p (place j).head (place j).band (blockSector (lowBlock n j))) m.ptr }),
            recCount 10 found,
            updZn (fun d => { d with
              scan := d.scan.filter (fun x => x != zone), track := if found = 0 then d.track else d.track ++ [(zone, ends)] })],
          if found = 0 then scanLoss zone false else skip] s))) ∧
      (∀ z ends, s.dyn.zn.track.find? (fun t => t.1 == zone) = some (z, ends) → zoneFree s zone = true →
        exec (.trackBeforeEndRead zone []) s = .next (applyAll s (seqs [
          fun _ => [recCount 11 0], fun _ => [updZn (fun d => { d with track := d.track.filter (fun x => x.1 != zone) })],
          scanLoss zone true] s))) ∧
      ((chunkBlks s zone (4 * runNo + pos.val)).isEmpty = false → zoneFree s zone = true → ∀ i p, i < 64 →
        p = placeOf s (zone * zoneBlocks + (4 * runNo + pos.val) * 64) →
        s.dyn.zn.buf.any (fun b => b.zone == zone && b.blk == (4 * runNo + pos.val) * 64 + i) = false →
        (s.msec p.head p.band (p.sector + i)).isSome = true → relocOf s p.head p.band (p.sector + i) = none →
        exec (.parityReadBack zone pos runNo [i]) s = .next (applyAll s (seqs [fun _ => [.draw],
          startLadder true ⟨p.head, p.band, p.sector + i, 2, false, if capturesOn s p.head then 1 else 0, 0,
            1 + s.fresh % 8, s.fresh / 8 % 6⟩] s)))) ∧
  (∀ (zone : Nat) (pos : Fin 4) (runNo c : Nat) (chunks : List Nat) (s : State), s.up 63 = true →
      ((zoneAt s zone).due = true → exec (.zoneStateSave zone) s = .next (applyAll s (saveZone zone s))) ∧
      ((zoneAt s zone).due = false → exec (.zoneStateSave zone) s = .next s) ∧
      (zoneFree s zone = true → c = 4 * runNo + pos.val → (chunkBlks s zone c).isEmpty = false → runReady s zone c = true →
        chunkReady s zone c = true → zoneKeyOk s zone = true →
        exec (.bufferRunToMedia zone pos runNo) s = .next (applyAll s (seqs [writeChunk zone c, settle] s))) ∧
      (zoneFree s zone = true → c = 4 * runNo + pos.val → (chunkBlks s zone c).isEmpty = false → runReady s zone c = true →
        chunkReady s zone c = true → zoneKeyOk s zone = false →
        exec (.bufferRunToMedia zone pos runNo) s = .next (applyAll s (seqs [faultZone zone [c], waitEnds] s))) ∧
      (zoneFree s zone = false → exec (.bufferRunToMedia zone pos runNo) s = .next s) ∧
      (mediaReady s = true → optAge s ≠ 0 →
        exec (.writeBufferAgeExpiry zone) s = .next (applyAll s (seqs [drainZone zone, waitEnds] s))) ∧
      (exec (.writeFaultRetry ⟨zone, chunks⟩) s = .next (applyAll s (seqs [faultZone zone chunks, waitEnds] s))) ∧
      (s.dyn.zn.buf.any (fun b => b.zone == zone && chunks.contains (b.blk / 64)) = true →
        s.dyn.zn.buf.any (fun b => b.zone == zone && chunks.contains (b.blk / 64) && b.retry) = false →
            slowWrites s zone chunks = [] →
        faultZone zone chunks s = [updZn (fun d => { d with buf := d.buf.map (fun b =>
          if b.zone == zone && chunks.contains (b.blk / 64) then { b with retry := true } else b) })]))

/-! The host interface (09). -/

/-- R246, R255: a write of a queue's doorbell, at its offset of the link's space, with a legal value moves the queue's tail, or
head; one of a queue that does not exist or with a value outside the queue changes no queue and is counted, with its event. A
read returns zero. R263: a turn of arbitration reads as many commands of the chosen queue as R263 gives, and each takes a slot
and moves the head. R244: a completion is posted into a ring that is not full, counted, its slot freed, and the tail and phase
move on; R248: then the coalescer acts. With the ring full CQ_FULL is set and the completion waits. R258: a time-out of the
coalescer signals. -/
def Obligations.DoorbellsAndRings : Prop :=
  (∀ (link : Fin 512) (qid v : Nat) (acc : BarAccess) (l : Link) (s : State),
      dbReaches s link.val = true → s.link? link.val = some l → qid < (if l.pcie then 1024 else 64) →
      ((∃ w : BitVec 64, acc = .write8 w ∧ v = w.toNat % 65536) ∨ (∃ w : BitVec 32, acc = .write4 w ∧ v = w.toNat % 65536)) →
      (∀ q, l.sqs.find? (fun q => q.qid == qid) = some q →
        (v < q.size → exec (.sqTailDoorbell link (doorbellOff qid false) acc) s =
          .next (applyAll s (seqs [linkIn l.pcie l.port, fun _ => [updSq link.val qid (fun x => { x with tail := v })]] s))) ∧
        (q.size ≤ v → exec (.sqTailDoorbell link (doorbellOff qid false) acc) s =
          .next (applyAll s (seqs [linkIn l.pcie l.port, dbError link.val 1] s)))) ∧
      (l.sqs.find? (fun q => q.qid == qid) = none →
        exec (.sqTailDoorbell link (doorbellOff qid false) acc) s =
          .next (applyAll s (seqs [linkIn l.pcie l.port, dbError link.val 0] s))) ∧
      (∀ q, l.cqs.find? (fun q => q.qid == qid) = some q →
        (v < q.size → (v + q.size - q.head) % q.size ≤ (q.tail + q.size - q.head) % q.size →
          exec (.cqHeadDoorbell link (doorbellOff qid true) acc) s =
            .next (applyAll s (seqs [linkIn l.pcie l.port, fun _ => [updCq link.val qid (fun x => { x with head := v })]] s))) ∧
        (q.size ≤ v → exec (.cqHeadDoorbell link (doorbellOff qid true) acc) s =
          .next (applyAll s (seqs [linkIn l.pcie l.port, dbError link.val 1] s)))) ∧
      (l.cqs.find? (fun q => q.qid == qid) = none →
        exec (.cqHeadDoorbell link (doorbellOff qid true) acc) s =
          .next (applyAll s (seqs [linkIn l.pcie l.port, dbError link.val 0] s))) ∧
      (∀ cq, ∃ t, exec (.sqTailDoorbell link (doorbellOff qid cq) .read) s = .next t ∧
        (∃ k, t.out = .barData link.val (doorbellOff qid cq) 0 :: k) ∧ sameMem s t ∧ t.dyn = s.dyn)) ∧
  (∀ (cmd : CmdRef) (link : Fin 512) (entries : Option (List (List Byte))) (l : Link) (s : State),
      (∀ k left q, mayFetch s = true → (waitingSqs s).length = (readySqs s).length → arbitrate s = some (k, left) →
        turnOf s k = some (l, q) →
        exec (.sqFetch entries) s = .next (applyAll s (seqs [fun _ => [updHq (fun h => { h with
            rr := setAt h.rr k (l.id, q.qid), left := left })], ringReads l q (turnLen s l q),
          each ((entries.getD []).take (turnLen s l q)) (fetchOne l q.qid)] s))) ∧
      (∀ c r q h b, s.cmdBy cmd (fun c => c.done.isSome && !c.orphan) = some c → s.link? cmd.link.val = some l → c.done = some r →
        cqOf l c = some q → hqUp s = true → linkServes s l.id = true → mustWait s c = false →
        h = ((l.sqs.find? (fun x => x.qid == c.sqid)).map (fun x => x.head)).getD 0 → b = cqeBytes c r h q.phase s.fresh →
        ((q.tail + 1) % q.size = q.head →
          exec (.completionPost cmd) s = .next (applyAll s [.sq Reg.HQE_STAT 4])) ∧
        ((q.tail + 1) % q.size ≠ q.head → c.work = .idle →
          exec (.completionPost cmd) s = .next (applyAll s (seqs [
            linkOut l (.cqe l.id q.qid (q.base + 16 * q.tail) (ringKey l) b), linkFrames l, fun _ => [.draw, .cnt Reg.HQE_CQE_CNT 31 0 1,
              updCq l.id q.qid (fun x => { x with
                tail := (x.tail + 1) % x.size, phase := if x.tail + 1 = x.size then !x.phase else x.phase }), freeSlotOf c.no],
            journal l.id c.sqid c.cid 1 b [], coalesce l.id q.qid, discEnd l.id] s)))) ∧
      (∀ cqid, s.link? link.val = some l → hqUp s = true → linkServes s l.id = true → l.pcie = false →
        l.coal.any (fun c => c.key == cqid) = true →
        exec (.coalesceTimerExpiry link cqid) s = .next (applyAll s (signal l cqid s))))

/-- R270: CC.EN from 0 to 1 enables the function's controller; from 1 to 0 its reset falls due; R303: the reset drops its commands
and queues and clears CC.EN and CSTS. R304: a change of CC.SHN to 01b or 10b starts a shutdown. R249: a link down or PERST# of
a port, and a hot reset, set the port's status bits and reset as HR_SCOPE says. -/
def Obligations.ControllerControl : Prop :=
  ∀ (init : Initiator) (fn port : Fin 2) (link : Fin 512) (data : Word) (k : Link) (s : State),
    (accReady s init (Reg.CC fn.val) = true → data.bit 0 = true → (s.reg (Reg.CC fn.val)).bit 0 = false → data.fld 15 14 = 0 →
      exec (.ccEnWrite init fn data) s =
        .next (applyAll s (seqs [plainWrite (Reg.CC fn.val) data, ccEnable fn.val data, skip] s))) ∧
    (accReady s init (Reg.CC fn.val) = true → data.bit 0 = false → (s.reg (Reg.CC fn.val)).bit 0 = true → data.fld 15 14 = 0 →
      (s.link? fn.val).isSome = true →
      exec (.ccEnWrite init fn data) s = .next (applyAll s (seqs [plainWrite (Reg.CC fn.val) data,
        fun _ => [updLink fn.val (fun l => { l with resetDue := true })]] s))) ∧
    (accReady s init (Reg.CC fn.val) = true → data.bit 0 = (s.reg (Reg.CC fn.val)).bit 0 →
      (data.fld 15 14 = 1 ∨ data.fld 15 14 = 2) → data.fld 15 14 ≠ (s.reg (Reg.CC fn.val)).fld 15 14 →
      exec (.ccShnWrite init fn data) s = .next (applyAll s (seqs [plainWrite (Reg.CC fn.val) data, shutdown fn.val] s))) ∧
    (hqUp s = true → s.link? link.val = some k → k.resetDue = true → k.pcie = true →
      exec (.controllerReset link) s = .next (applyAll s (seqs [dropCmds false link.val, fun _ => [
        updHq (fun h => { h with links := h.links.filter (fun x => x.id != link.val) }), .fld (Reg.CC link.val) 0 0 0,
        .reg (Reg.CSTS link.val) 0]] s))) ∧
    (pcieFn s port.val = true → hqUp s = true → s.dyn.rst.beached = false →
      exec (.pcieHotReset port) s = .next (applyAll s (seqs [fun _ => [.sq Reg.PCI_STAT 1], portReset port.val 1] s))) ∧
    (pcieFn s port.val = true → hqUp s = true →
      exec (.pcieLinkDown port) s = .next (applyAll s (seqs [fun _ => [.sq Reg.PCI_STAT 2,
        .fld Reg.PCI_STAT (4 + port.val) (4 + port.val) 0] ++ (if port.val = 0 then [.fld Reg.PCI_STAT 11 6 0] else []),
        portReset port.val 3] s))) ∧
    (pcieFn s 0 = true → hqUp s = true →
      exec (.perstAssert 0) s = .next (applyAll s (seqs [fun _ => [.sq Reg.PCI_STAT 2, .fld Reg.PCI_STAT 4 4 0] ++
        [.fld Reg.PCI_STAT 11 6 0], portReset 0 3] s)))

/-- R250: CONNECT of version 1 with legal fields, a free link and a free pair is answered with ACCEPT and allocates the link; the
others are answered with REJECT and the status of the first failing check, and are counted; one that is not to a configured
address, or with another VLAN tag, is dropped (R259, R260). READY with the nonce opens the link. R251: RESET resets the link's
controller and is answered; R252: a DISCONNECT of the host's, or of the device's own, ends the link's use (that its commands
are then aborted is the model's choice, log 111); R253: a keepalive is a SEND; R254: retries spent close the link. -/
def Obligations.MornisLinks : Prop :=
  (∀ (msg : ConnectMsg) (link : Fin 512) (k : Link) (nonce : BitVec 32) (s : State),
      (hqUp s = true → s.bit (Reg.NET_CTL msg.port.val) 0 = true →
        (tagOk s msg.port.val (msg.vlan.map (fun v => v.toNat)) = false ∨ hasAddr s msg.port.val msg.dstAddr.toNat = false) →
        exec (.connect msg) s = .next (applyAll s (frameLost msg.port.val s))) ∧
      (hqUp s = true → s.bit (Reg.NET_CTL msg.port.val) 0 = true → tagOk s msg.port.val (msg.vlan.map (fun v => v.toNat)) = true →
        hasAddr s msg.port.val msg.dstAddr.toNat = true →
        (mornisLinks s).find? (fun l => l.st == 1 && l.src == msg.srcAddr && l.udp == msg.srcPort.toNat && l.nonce == msg.nonce.toNat) = none →
        (msg.version ≠ 1 → exec (.connect msg) s = .next (applyAll s (seqs [frameIn msg.port.val, reject msg 2] s))) ∧
        (msg.version = 1 → connectOk msg = false →
          exec (.connect msg) s = .next (applyAll s (seqs [frameIn msg.port.val, reject msg 3] s))) ∧
        (msg.version = 1 → connectOk msg = true → freeLinkNo s = none →
          exec (.connect msg) s = .next (applyAll s (seqs [frameIn msg.port.val, reject msg 1] s))) ∧
        (∀ l, msg.version = 1 → connectOk msg = true → freeLinkNo s = some l → 4096 ≤ pairsUsed s →
          exec (.connect msg) s = .next (applyAll s (seqs [frameIn msg.port.val, reject msg 4] s))) ∧
        (∀ l, msg.version = 1 → connectOk msg = true → freeLinkNo s = some l → pairsUsed s < 4096 →
          exec (.connect msg) s = .next (applyAll s (seqs [frameIn msg.port.val, accept msg l] s)))) ∧
      (mornisIn s link.val 1 nonce = some k →
        exec (.ready link nonce) s = .next (applyAll s (seqs [frameIn k.port,
          fun _ => [updLink k.id (fun l => { l with st := 2 }), .sq Reg.NET_GSTAT 1], sendMsg k (shortMsg 0x04 k.nonce)] s))) ∧
      (hqUp s = true → s.link? link.val = some k → k.pcie = false → k.st = 1 →
        exec (.readyTimeout link) s = .next (applyAll s (freeLink link.val s)))) ∧
  (∀ (link : Fin 512) (reason : BitVec 8) (nonce : BitVec 32) (k : Link) (s : State),
      hqUp s = true → s.link? link.val = some k → k.pcie = false →
      (discSent k = true →
        (k.nonce = nonce.toNat → exec (.discAck link nonce) s =
          .next (applyAll s (seqs [frameIn k.port, freeLink k.id, fun _ => [.sq Reg.NET_GSTAT 2]] s))) ∧
        exec (.disconnectTimeout link) s = .next (applyAll s (seqs [freeLink link.val, fun _ => [.sq Reg.NET_GSTAT 2]] s))) ∧
      (k.st = 2 →
      (mornisIn s link.val 2 nonce = some k →
        exec (.reset link nonce) s =
          .next (applyAll s (seqs [frameIn k.port, ctrlReset k.id, sendMsg k (shortMsg 0x08 k.nonce)] s)) ∧
        exec (.disconnect link ⟨false, reason⟩ nonce) s = .next (applyAll s (seqs [frameIn k.port, discLink k.id 2] s)) ∧
        exec (.disconnect link ⟨true, reason⟩ nonce) s =
          .next (applyAll s (seqs [sendMsg k ([0x05, b8 reason.toNat, 0, 0] ++ leBytes 4 k.nonce), discLink k.id 1] s))) ∧
      exec (.keepalive link) s = .next (applyAll s (sendMsg k (shortMsg 0x09 k.nonce) s)) ∧
      exec (.rcRetryExhausted link) s = .next (applyAll s (seqs [fun _ => [.sq Reg.NET_GSTAT 4], closeLink link.val] s)) ∧
      (k.cnpAt.all (fun t => t + s.fld Reg.NET_CC 23 16 ≤ s.dyn.us) = true →
        exec (.cePacketReceive link) s = .next (applyAll s (seqs [frameIn k.port, linkOut k (.cnp k.id),
          fun _ => [updLink k.id (fun l => { l with cnpAt := some s.dyn.us })]] s))) ∧
      exec (.cnpReceive link) s = .next (applyAll s (seqs [frameIn k.port, fun _ => [.cnt Reg.NET_CNP_CNT 31 0 1,
        updLink k.id (fun l => { l with rate := max (l.rate / 2) (minRate s) })]] s)) ∧
      exec (.rateRecoveryTimer link) s =
        .next (applyAll s [updLink k.id (fun l => { l with rate := min (100 * 2 ^ 64) (l.rate + 100 * 2 ^ 61) })])))

/-- R259, R261: pause frames sent and received, neighbour requests answered for a configured address, frames dropped and counted;
R269: an Ethernet link that comes up or goes down shows in NET_STAT. -/
def Obligations.NetworkFrames : Prop :=
  ∀ (port : Fin 2) (prios : BitVec 8) (pause : Bool) (kind : Fin 4) (addr : BitVec 128) (frame : List Byte) (s : State),
    portOn s port.val = true →
    (s.bit Reg.NET_QOS 0 = true → s.dyn.hq.pausing.getD port.val false = false →
      exec (.pfcPauseSend port) s = .next (applyAll s [.emit (.pfc port.val (s.fld Reg.NET_QOS 26 24) true), frameOut port.val,
        updHq (fun h => { h with pausing := setAt h.pausing port.val true })])) ∧
    (s.dyn.hq.pausing.getD port.val false = true →
      exec (.pfcPauseRelease port) s = .next (applyAll s [.emit (.pfc port.val (s.fld Reg.NET_QOS 26 24) false), frameOut port.val,
        updHq (fun h => { h with pausing := setAt h.pausing port.val false })])) ∧
    (∀ p, p = Nat.land prios.toNat (s.fld Reg.NET_QOS 15 8) →
      exec (.pfcFrameReceive port prios pause) s = .next (applyAll s (seqs [frameIn port.val, fun _ => [.cnt Reg.NET_PFC_CNT 31 0 1,
        updHq (fun h => { h with paused := modAt h.paused port.val (fun x =>
          if pause then Nat.lor x p else Nat.land x (255 - p)) })], netRelease port.val] s))) ∧
    (hasAddr s port.val addr.toNat = false →
      exec (.neighbourAnswer port kind addr frame) s =
        .next (applyAll s (frameLost port.val s))) ∧
    (hasAddr s port.val addr.toNat = true → kind.val ≥ 2 →
      exec (.neighbourAnswer port kind addr frame) s = .next (applyAll s (seqs [frameIn port.val,
        fun _ => [.emit (.answer port.val kind.val addr.toNat frame), frameOut port.val]] s))) ∧
    (carried s port.val frame = false → ∃ t, exec (.frameDrop port frame) s = .next t ∧
      t.fld (Reg.NET_DROP_CNT port.val) 31 0 = min (s.fld (Reg.NET_DROP_CNT port.val) 31 0 + 1) 0xFFFFFFFF ∧
      sameRegsBut (fun a => a = Reg.NET_RXF_CNT port.val ∨ a = Reg.NET_DROP_CNT port.val ∨ a = Reg.NET_FEC_CNT port.val ∨
        a = Reg.NET_STAT port.val) s t ∧ sameMem s t ∧ t.dyn = s.dyn ∧ t.out = s.out) ∧
    (s.bit (Reg.NET_STAT port.val) 15 = false → (ethLanes s port.val).all (fun i => hasGrant s 3 i) = true →
      ∃ t, exec (.ethLinkUp port) s = .next t ∧ t.bit (Reg.NET_STAT port.val) 15 = true ∧ t.bit (Reg.NET_STAT port.val) 0 = true ∧
        sameRegsBut (fun a => a = Reg.NET_STAT port.val) s t ∧ sameMem s t ∧ t.dyn = s.dyn) ∧
    (s.bit (Reg.NET_STAT port.val) 15 = true →
      ∃ t, exec (.ethLinkDown port) s = .next t ∧ t.bit (Reg.NET_STAT port.val) 15 = false ∧
          t.bit (Reg.NET_STAT port.val) 1 = true ∧
        sameRegsBut (fun a => a = Reg.NET_STAT port.val) s t ∧ sameMem s t ∧ t.dyn = s.dyn)

/-! Admin commands (09, 10). -/

/-- R241, R242: a Create whose checks pass adds the queue and completes; one that fails a check of Table 9.1 completes with its
status and adds none. Table 9.1: a Delete I/O CQ that no queue uses removes it. R245: Delete I/O SQ closes the queue, ends its
commands and completes. R266: Abort of a command that may still be aborted counts, ends it with Command Abort Requested and
completes, and what it has begun is given up; of a command not found it completes with bit 0 of dword 0 set. Table 10.2: an
Asynchronous Event Request waits; the fifth outstanding one is refused. -/
def Obligations.QueueAndAbortCommands : Prop :=
  (∀ (cmd : CmdRef) (c : HCmd) (l : Link) (s : State), s.link? c.link = some l →
      (cmdReady s cmd true 0x05 c = true →
        (cqCheck l c = none →
          exec (.createIoCq cmd) s = .next (applyAll s (updLink l.id (fun k => { k with cqs := k.cqs ++ [({
            qid := (c.cdw 10).fld 15 0, base := leAt c.sqe 24 8, size := (c.cdw 10).fld 31 16 + 1, ien := (c.cdw 11).bit 1,
            iv := (c.cdw 11).fld 31 16 } : CplQ)] }) :: finish c okCpl s))) ∧
        (∀ r, cqCheck l c = some r → exec (.createIoCq cmd) s = .next (applyAll s (finish c r s)))) ∧
      (cmdReady s cmd true 0x01 c = true →
        (sqCheck l c = none →
          exec (.createIoSq cmd) s = .next (applyAll s (updLink l.id (fun k => { k with
            sqs := k.sqs.filter (fun x => x.qid < (c.cdw 10).fld 15 0) ++ [({
              qid := (c.cdw 10).fld 15 0, base := leAt c.sqe 24 8, size := (c.cdw 10).fld 31 16 + 1,
              cqid := (c.cdw 11).fld 31 16, prio := (c.cdw 11).fld 2 1 } : SubQ)] ++
              k.sqs.filter (fun x => (c.cdw 10).fld 15 0 < x.qid) }) :: finish c okCpl s))) ∧
        (∀ r, sqCheck l c = some r → exec (.createIoSq cmd) s = .next (applyAll s (finish c r s)))) ∧
      (cmdReady s cmd true 0x04 c = true → (c.cdw 10).fld 15 0 ≠ 0 → l.cqs.any (fun x => x.qid == (c.cdw 10).fld 15 0) = true →
        l.sqs.any (fun x => x.cqid == (c.cdw 10).fld 15 0 && x.qid != 0) = false →
        exec (.deleteIoCq cmd) s = .next (applyAll s (updLink l.id (fun k => { k with
          cqs := k.cqs.filter (fun x => x.qid != (c.cdw 10).fld 15 0),
          coal := if k.pcie then k.coal else k.coal.filter (fun x => x.key != (c.cdw 10).fld 15 0) }) :: finish c okCpl s))) ∧
      (cmdReady s cmd true 0x00 c = true → (c.cdw 10).fld 15 0 ≠ 0 →
        l.sqs.any (fun x => x.qid == (c.cdw 10).fld 15 0 && !x.closing) = true →
        exec (.deleteIoSq cmd) s = .next (applyAll s (seqs [
          fun _ => [updSq l.id ((c.cdw 10).fld 15 0) (fun x => { x with closing := true })],
          each (s.dyn.hq.cmds.filter (fun x => x.link == l.id && x.sqid == (c.cdw 10).fld 15 0 && x.done.isNone && !x.orphan))
            (fun x => if x.uncommitted then failWrite x (status 0 8) else finish x (status 0 8)),
          fun _ => [updCmd c.no (fun x => { x with work := .delSq ((c.cdw 10).fld 15 0), done := some okCpl })]] s)))) ∧
  (∀ (cmd : CmdRef) (c : HCmd) (s : State),
      (cmdReady s cmd true 0x08 c = true →
        (s.dyn.hq.cmds.filter (fun x => x.link == c.link && x.admin && x.op == 0x08 && x.no < c.no && !x.orphan)).length < 4 →
        (s.dyn.hq.cmds.find? (fun x => x.link == c.link && x.sqid == (c.cdw 10).fld 15 0 && x.cid == (c.cdw 10).fld 31 16 &&
            !x.orphan) = none → exec (.abort cmd) s = .next (applyAll s (finish c { dw0 := 1 } s))) ∧
        (∀ t, s.dyn.hq.cmds.find? (fun x => x.link == c.link && x.sqid == (c.cdw 10).fld 15 0 && x.cid == (c.cdw 10).fld 31 16 &&
            !x.orphan) = some t → pastAbort t = false →
          exec (.abort cmd) s = .next (applyAll s (seqs [fun _ => .cnt Reg.HQE_ABORT_CNT 31 0 1 :: giveUp t,
            if t.uncommitted then failWrite t (status 0 7) else finish t (status 0 7),
            fun _ => [updCmd c.no (fun x => { x with work := .abt t.no, done := some okCpl })]] s)))) ∧
      (cmdReady s cmd true 0x0C c = true →
        ((s.dyn.hq.cmds.filter (fun x => x.link == c.link && x.work == .aer && x.done.isNone && !x.orphan)).length < 4 →
          exec (.asyncEventRequest cmd) s = .next (applyAll s (seqs [fun _ => [updCmd c.no (fun x => { x with work := .aer })],
            takeWaiting c.link, raiseLoss] s))) ∧
        (4 ≤ (s.dyn.hq.cmds.filter (fun x => x.link == c.link && x.work == .aer && x.done.isNone && !x.orphan)).length →
          exec (.asyncEventRequest cmd) s = .next (applyAll s (finish c (status 1 5) s)))))

/-- R313 and the rules it names: Set Features of each feature, with SV at 0, gives the feature its value and completes:
arbitration (R264), power state (R314), temperature threshold (R421), volatile write cache (R288), number of queues (R240),
coalescing and vectors (R248), events, APST, timestamp (R460). R313: Get Features of a feature without data completes with its
value; R311: Get Log Page sends the part asked for and clears the event of the page unless RAE is 1; R278: Identify answers
its structure. R6: an opcode of no command ends with Invalid Command Opcode. -/
def Obligations.FeaturesAndPages : Prop :=
  (∀ (cmd : CmdRef) (list : Option (List Byte)) (data : List Byte) (c : HCmd) (l : Link) (s : State),
      cmdReady s cmd true 0x09 c = true → (c.cdw 10).bit 31 = false → s.link? c.link = some l →
      ((c.cdw 10).fld 7 0 = 0x01 →
        exec (.setArbitration cmd) s = .next (applyAll s (.reg Reg.HQE_ARB (w32 ((c.cdw 11).fld 31 8 * 256 + (c.cdw 11).fld 2 0)) :: finish c okCpl s))) ∧
      ((c.cdw 10).fld 7 0 = 0x02 → (c.cdw 11).fld 4 0 ≤ 5 → (c.cdw 11).fld 7 5 = 0 →
        exec (.setPowerManagement cmd) s = .next (applyAll s (seqs [enterPs ((c.cdw 11).fld 4 0), finish c okCpl] s))) ∧
      ((c.cdw 10).fld 7 0 = 0x04 → (c.cdw 11).fld 19 16 ≤ 6 → (c.cdw 11).fld 21 20 = 0 → s.up 2 = true →
        exec (.setTemperatureThreshold cmd) s = .next (applyAll s (seqs [
          fun _ => [updZn (fun d => { d with tOver := setAt d.tOver ((c.cdw 11).fld 19 16) (some ((c.cdw 11).fld 15 0)) })],
          fun s => if s.up 2 then thmHost s else [], finish c okCpl] s))) ∧
      ((c.cdw 10).fld 7 0 = 0x06 → (c.cdw 11).bit 0 = true →
        exec (.setVolatileWriteCache cmd) s =
          .next (applyAll s (seqs [fun _ => [updZn (fun d => { d with wce := true })], finish c okCpl] s))) ∧
      ((c.cdw 10).fld 7 0 = 0x06 → (c.cdw 11).bit 0 = false →
        exec (.setVolatileWriteCache cmd) s = .next (applyAll s (seqs [fun _ => [updZn (fun d => { d with wce := false })],
          seqs [fun _ => [updCmd c.no (fun x => { x with work := .wce })], settle]] s))) ∧
      (∀ n q, (c.cdw 10).fld 7 0 = 0x07 → l.numq = false → pairsUsed s < 4096 →
        n = min ((c.cdw 11).fld 15 0 + 1) (min ((if l.pcie then 1024 else 64) - 1) (4096 - pairsUsed s)) →
        q = min ((c.cdw 11).fld 31 16 + 1) (min ((if l.pcie then 1024 else 64) - 1) (4096 - pairsUsed s)) →
        exec (.setNumberOfQueues cmd) s = .next (applyAll s (
          updLink l.id (fun k => { k with numq := true, nsqa := n, ncqa := q, grant := max n q }) ::
            finish c { dw0 := (q - 1) * 65536 + (n - 1) } s))) ∧
      ((c.cdw 10).fld 7 0 = 0x08 →
        exec (.setInterruptCoalescing cmd) s = .next (applyAll s (seqs [
          fun _ => [updLink c.link (fun k => { k with thr := (c.cdw 11).fld 7 0, time := (c.cdw 11).fld 15 8 })],
          refire c.link, finish c okCpl] s))) ∧
      ((c.cdw 10).fld 7 0 = 0x09 → (c.cdw 11).fld 15 0 = 0 → (c.cdw 11).bit 16 = true →
        exec (.setInterruptVectorConfig cmd) s = .next (applyAll s (seqs [
          fun _ => [updLink l.id (fun k => { k with cd := 0 :: k.cd.filter (fun x => x != 0) })], refire l.id, finish c okCpl] s))) ∧
      ((c.cdw 10).fld 7 0 = 0x0B →
        exec (.setAsyncEventConfig cmd) s =
          .next (applyAll s (updLink c.link (fun k => { k with aec := ((c.cdw 11) &&& 0x33F).toNat }) :: finish c okCpl s))) ∧
      (∀ ps, (c.cdw 10).fld 7 0 = 0x0C → dptrWalk l c 256 list = .inr ps →
        exec (.setApst ⟨cmd, list⟩ (some data)) s = .next (applyAll s (seqs [getHost l ps, fun s => updZn (fun z => { z with
            apste := (c.cdw 11).bit 0,
            apst := (List.range 32).map (fun i => (leAt (fit 256 data) (8 * i) 1 / 8, leAt (fit 256 data) (8 * i + 1) 3)) }) ::
            finish c okCpl s] s))) ∧
      (∀ ps, (c.cdw 10).fld 7 0 = 0x0E → dptrWalk l c 8 list = .inr ps →
        exec (.setTimestamp ⟨cmd, list⟩ (some data)) s = .next (applyAll s (seqs [getHost l ps,
          fun s => timeCommit (leAt (fit 8 data) 0 6) :: finish c okCpl s] s)))) ∧
  (∀ (cmd : CmdRef) (list : Option (List Byte)) (c : HCmd) (l : Link) (s : State), s.link? c.link = some l →
      (∀ dw, cmdReady s cmd true 0x0A c = true → (c.cdw 10).fld 10 8 ≤ 2 →
        featureValue s l ((c.cdw 10).fld 7 0) (c.cdw 11).toNat ((c.cdw 10).fld 10 8 == 0) = some (dw, []) →
        exec (.getFeatures ⟨cmd, list⟩) s = .next (applyAll s (finish c { dw0 := dw } s))) ∧
      (cmdReady s cmd true 0x0A c = true → 2 < (c.cdw 10).fld 10 8 →
        exec (.getFeatures ⟨cmd, list⟩) s = .next (applyAll s (finish c invField s))) ∧
      (∀ p off, cmdReady s cmd true 0x02 c = true → logPage s l ((c.cdw 10).fld 7 0) = some p → off = leAt c.sqe 48 8 →
        off < p.length → off % 4 = 0 →
        dptrCheck l c (4 * ((c.cdw 10).fld 31 16 + 65536 * (c.cdw 11).fld 15 0 + 1)) list = none →
        exec (.getLogPage ⟨cmd, list⟩) s = .next (applyAll s (seqs [
          reply c list (slice p off (4 * ((c.cdw 10).fld 31 16 + 65536 * (c.cdw 11).fld 15 0 + 1))),
          if (c.cdw 10).bit 15 then skip else pageCleared l ((c.cdw 10).fld 7 0)] s))) ∧
      (∀ d, cmdReady s cmd true 0x06 c = true → idAnswer s c = .inr d →
        exec (.identify ⟨cmd, list⟩) s = .next (applyAll s (reply c list d s))) ∧
      (∀ admin op, cmdReady s cmd admin op c = true → knownOp c = false →
        exec (.unsupportedOpcode cmd) s = .next (applyAll s (finish c (status 0 1) s))))

/-- R273, R274: a Create whose size is a whole number of free zones makes a namespace; a zoned one empties its zones and completes
with its identifier, a conventional one completes once its zones are formatted. R276: a Delete that finds no command in flight
removes its namespaces. R318: Key Load with a legal length gives the slot its key, and binds it to the namespace where MEDIA
is 1; Key Clear empties the slot and its binding. -/
def Obligations.NamespaceAndKeyCommands : Prop :=
  (∀ (cmd : CmdRef) (list : Option (List Byte)) (data : List Byte) (c : HCmd) (l : Link) (i : Nat) (s : State), s.link? c.link = some l →
      (cmdReady s cmd true 0x0D c = true → (c.cdw 10).fld 3 0 = 0 → s.up 63 = true → ∀ ps, dptrWalk l c 4096 list = .inr ps →
          ∀ n d, d = fit 4096 data →
        n = leAt d 0 8 → n = leAt d 8 8 → n ≠ 0 → n % zoneBlocks = 0 → leAt d 26 1 = 0 → (c.cdw 11).fld 31 24 = 2 →
        n / zoneBlocks ≤ (freeZones s 2).length → (List.range 64).find? (fun i => (nsAny s (i + 1)).isNone) = some i →
        exec (.namespaceCreate ⟨cmd, list⟩ (some data)) s = .next (applyAll s (seqs [getHost l ps,
          seqs [fun _ => [updNsp (fun x => { x with ns := x.ns ++
              [⟨i + 1, 2, (c.cdw 11).bit 0, (freeZones s 2).take (n / zoneBlocks), 1⟩] })],
            each ((freeZones s 2).take (n / zoneBlocks)) (fun z => seqs [emptyZone z, saveZone z]), nsChanged (i + 1),
            finish c { dw0 := i + 1 }]] s))) ∧
      (∀ n, s.dyn.hq.cmds.find? (fun c => c.work == .fmt i && c.done.isNone) = some c → nsAny s i = some n → n.st = 0 →
        mediaReady s = true →
        exec (.namespaceFormatDone i) s = .next (applyAll s (seqs [each n.zones zeroZone,
          fun _ => [updNsp (fun x => { x with ns := x.ns.map (fun m => if m.nsid = i then { m with st := 1 } else m) })],
          nsChanged i, finish c { dw0 := i }] s))) ∧
      (∀ k, s.cmdBy cmd (fun c => c.done.isNone && c.work.isNsdel) = some c → c.work = .nsdel k → s.up 63 = true →
        (delTargets s c.nsid).any (fun n => s.dyn.hq.cmds.any (inFlightOn n.nsid)) = false →
        exec (.namespaceDelete cmd) s = .next (applyAll s (seqs [each (delTargets s c.nsid) nsRemove, finish c okCpl] s)))) ∧
  (∀ (cmd : CmdRef) (list : Option (List Byte)) (data : List Byte) (c : HCmd) (l : Link) (s : State),
      cmdReady s cmd true 0xC5 c = true → s.up 100 = true → s.link? c.link = some l →
      (((c.cdw 11).fld 7 0 = 32 ∨ (c.cdw 11).fld 7 0 = 64) → (c.cdw 11).bit 8 = true → (nsOf s c.nsid).any (fun n => n.enc) = true →
        ∀ ps, dptrWalk l c 64 list = .inr ps →
        exec (.keyLoad ⟨cmd, list⟩ (some data)) s = .next (applyAll s (seqs [getHost l ps,
          seqs [fun _ => [keyPut ((c.cdw 10).fld 9 0) ((fit 64 data).take ((c.cdw 11).fld 7 0)), updShl (fun x => { x with
              bound := ((c.cdw 10).fld 9 0, c.nsid) :: x.bound.filter (fun b => b.1 != (c.cdw 10).fld 9 0 && b.2 != c.nsid) })],
            finish c okCpl]] s))) ∧
      ((c.cdw 11).fld 7 0 = 0 →
        exec (.keyClear cmd) s = .next (applyAll s (updShl (fun x => { x with
          keys := x.keys.filter (fun k => k.1 != (c.cdw 10).fld 9 0), bound := x.bound.filter (fun b => b.1 != (c.cdw 10).fld 9 0) }) ::
          finish c okCpl s))))

/-! I/O and zone commands (10). -/

/-- R279, R284: a write whose checks all pass is accepted, and one that fails ends with the status of the first failing check;
R291: so for a read; R296: a Zone Append; R315: a derive read, once its recipe is read. R284: the data of an accepted write is
pulled where the write buffer has room. R285, R287: with the volatile write cache on and FUA 0, the data joins the write
buffer and the command completes; an append answers where it wrote. R291: the data of a read whose blocks are all at hand goes
to the host. -/
def Obligations.IoCommands : Prop :=
  (∀ (cmd : CmdRef) (list : Option (List Byte)) (recipe : List Byte) (c : HCmd) (l : Link) (x : Ns) (s : State),
      s.link? c.link = some l → nsOf s c.nsid = some x → held s c (c.zonesOf s) = false →
      (∀ r, cmdReady s cmd false 0x01 c = true →
        r = firstOf ([refuse ((c.cdw 12).fld 29 26 ≠ 0 || (c.cdw 12).fld 23 20 ≠ 0 || (c.cdw 12).bit 24) invField] ++
          rangeChecks x c ++ [dptrCheck l c ((c.nlb + 1) * 4096) list,
          if x.zoned then zoneCheck s x c.slba (c.nlb + 1) false else convCheck s x c.slba (c.nlb + 1), keyCheck s x]) →
        (r = none → exec (.write cmd list) s = .next (applyAll s (acceptWrite c x false (dptrPieces l c ((c.nlb + 1) * 4096) list) s))) ∧
        (∀ e, r = some e → exec (.write cmd list) s = .next (applyAll s (finish c e s)))) ∧
      (cmdReady s cmd false 0x7D c = true → x.zoned = true →
        firstOf (rangeChecks x c ++ [dptrCheck l c ((c.nlb + 1) * 4096) list, zoneCheck s x c.slba (c.nlb + 1) true,
          keyCheck s x]) = none →
        exec (.zoneAppend cmd list) s = .next (applyAll s (acceptWrite c x true (dptrPieces l c ((c.nlb + 1) * 4096) list) s))) ∧
      (∀ r, cmdReady s cmd false 0x02 c = true →
        r = firstOf ([refuse ((c.cdw 12).fld 29 26 ≠ 0) invField] ++ rangeChecks x c ++
          [dptrCheck l c ((c.nlb + 1) * 4096) list, offlineCheck s x c.slba (c.nlb + 1), keyCheck s x]) →
        (r = none → exec (.read cmd list) s = .next (applyAll s
          [updCmd c.no (fun k => { k with
            dptr := dptrPieces l c ((c.nlb + 1) * 4096) list, work := .rd x.nsid c.slba (c.nlb + 1) ((c.cdw 12).bit 31) })])) ∧
        (∀ e, r = some e → exec (.read cmd list) s = .next (applyAll s (finish c e s)))) ∧
      (cmdReady s cmd false 0x83 c = true →
        firstOf ([refuse (leAt c.sqe 16 8 % 64 ≠ 0 || (c.cdw 13).fld 15 0 = 0 || 1024 < (c.cdw 13).fld 15 0 ||
            (c.cdw 14).toNat = 0 || 8388608 < (c.cdw 14).toNat) invField] ++
          rangeChecks x c ++ [dptrCheck l c (c.cdw 14).toNat list, offlineCheck s x c.slba (c.nlb + 1), keyCheck s x]) = none →
        exec (.deriveRead cmd list (some recipe)) s = .next (applyAll s (seqs [
          getHost l [⟨leAt c.sqe 16 8, ringKey l, 64 * (c.cdw 13).fld 15 0⟩],
          fun _ => [updCmd c.no (fun k => { k with
            dptr := dptrPieces l c (c.cdw 14).toNat list
            work := .drd x.nsid c.slba (c.nlb + 1) (fit (64 * (c.cdw 13).fld 15 0) recipe) (c.cdw 14).toNat })]] s)))) ∧
  (∀ (cmd : CmdRef) (d : List Byte) (hostOk : Bool) (c : HCmd) (l : Link) (x : Ns) (nsid lba n : Nat) (app : Bool) (s : State),
      s.link? c.link = some l → nsAny s nsid = some x →
      (s.cmdBy cmd (fun c => c.uncommitted && !c.orphan) = some c → c.work = .wr nsid lba n app false none → hqUp s = true →
        linkLive s c.link = true → reqReady s = true → bufUsed s + 4096 * n ≤ optWbuf s * 1048576 →
        exec (.writeDataPull cmd (some d)) s = .next (applyAll s (seqs [getHost l c.dptr,
          fun _ => [updCmd c.no (fun k => { k with work := .wr nsid lba n app false (some (fit (4096 * n) d)) })]] s))) ∧
      (∀ a, s.cmdBy cmd (fun c => c.uncommitted && c.work.hasData) = some c → c.work = .wr nsid lba n app false (some d) →
          s.dyn.zn.wce = true → reqReady s = true →
        s.dyn.hq.cmds.any (fun y => y.no < c.no && y.uncommitted && (y.wzones s).any (fun z => (c.wzones s).contains z)) = false →
        a = (if app then lba + (zoneAt s (nsZone x lba)).wp else lba) →
        exec (.writeCommit cmd) s = .next (applyAll s (seqs [
          fun s => [endHolds nsid a n, updZn (fun d' => { d' with buf := bufAdd s x a n d d'.buf, commits := d'.commits + 1 })],
          seqs [if x.zoned then advanceWp (nsZone x lba) n else skip,
            fun _ => [smartIo true d.length],
            finish c (if app then { dw0 := a % 2 ^ 32, dw1 := a / 2 ^ 32 } else {})]] s))) ∧
      (∀ lr, s.cmdBy cmd (fun c => c.done.isNone && c.readSpan.isSome) = some c → c.work = .rd nsid lba n lr → hqUp s = true →
        linkLive s c.link = true → mediaReady s = true → keyOk s x = true →
        (∀ i < n, (fromMedia s x (lba + i) = true → zoneFree s (nsZone x (lba + i)) = true) ∧
            (blockData s x (lba + i)).isSome = true) →
        exec (.readDataPlace cmd ⟨hostOk, []⟩ none) s = .next (applyAll s (placeData c l
          ((List.range n).flatMap (fun i => (blockData s x (lba + i)).getD [])) 0 hostOk s))))

/-- R289: a Flush waits for the committed data its namespace holds in the buffer. R297: a Zone Management Send of each action to a
legal zone waits for its zones; R298, Table 10.7: once nothing else works on them (and a Finish's data can go to the media)
the action takes effect and the command completes; an Open past the limits of R292, R293 ends with their status; a zone that
is in none of the action's From states ends it with Invalid Zone State Transition. R301: Report Zones answers the header and
the descriptors asked for. -/
def Obligations.FlushAndZoneActions : Prop :=
  ∀ (cmd : CmdRef) (list : Option (List Byte)) (c : HCmd) (l : Link) (x : Ns) (s : State), s.link? c.link = some l →
      nsOf s c.nsid = some x →
    (cmdReady s cmd false 0x00 c = true →
      exec (.flush cmd) s = .next (applyAll s (seqs [
        fun _ => [updCmd c.no (fun k => { k with work := .fl c.nsid c.mark })], settle] s))) ∧
    (cmdReady s cmd false 0x79 c = true → x.zoned = true → c.all = false → c.slba % zoneBlocks = 0 → c.slba < nsSize x →
      ∀ t, t = Host.Outcome.next (applyAll s [updCmd c.no (fun k => { k with work := .zact c.zsa [nsZone x c.slba] })]) →
      (c.zsa = 1 → exec (.zoneClose cmd) s = t) ∧ (c.zsa = 2 → exec (.zoneFinish cmd) s = t) ∧
      (c.zsa = 3 → exec (.zoneOpen cmd) s = t) ∧ (c.zsa = 4 → exec (.zoneReset cmd) s = t) ∧
      (c.zsa = 5 → exec (.zoneOffline cmd) s = t)) ∧
    (∀ op z, s.cmdBy cmd (fun c => c.done.isNone && c.work.isZact) = some c → c.work = .zact op [z] → s.up 63 = true →
        earlier s c [z] (fun _ => true) = false →
      zoneLadder s z = false → scanDue s z = false →
      (fromOk op (zoneAt s z).st = true →
        (op = 2 → zoneReady s z = true ∧ (zoneKeyOk s z = true ∨ bufChunks s z = [])) → (op = 3 → openLimit s [z] = none) →
        exec (.zoneActionEffect cmd) s = .next (applyAll s (seqs [zoneAction op z, finish c okCpl, waitEnds] s))) ∧
      (∀ r, op = 3 → fromOk 3 (zoneAt s z).st = true → openLimit s [z] = some r →
        exec (.zoneActionEffect cmd) s = .next (applyAll s (finish c r s))) ∧
      (fromOk op (zoneAt s z).st = false → c.all = false →
        exec (.zoneActionEffect cmd) s = .next (applyAll s (finish c (status 1 0xBF) s)))) ∧
    (∀ is, cmdReady s cmd false 0x7A c = true → x.zoned = true →
      firstOf [refuse ((c.cdw 13).fld 7 0 ≠ 0 || 7 < (c.cdw 13).fld 15 8 || 8388608 < 4 * ((c.cdw 12).toNat + 1)) invField,
        refuse (nsSize x ≤ c.slba) (status 0 0x80), dptrCheck l c (4 * ((c.cdw 12).toNat + 1)) list] = none →
      held s c (x.zones.drop (c.slba / zoneBlocks)) = false → (c.cdw 13).bit 16 = false →
      is = (List.range x.zones.length).filter (fun i => c.slba / zoneBlocks ≤ i &&
        zrasf ((c.cdw 13).fld 15 8) (zoneAt s (x.zones.getD i 0)).st) →
      exec (.zoneMgmtReceive cmd list) s = .next (applyAll s (reply c list (fit (4 * ((c.cdw 12).toNat + 1)) (leBytes 8 is.length ++
        zeros 56 ++ (is.take ((4 * ((c.cdw 12).toNat + 1) - 64) / 64)).flatMap (zoneDesc s x))) s)))

/-! Shoal (11). -/

/-- R323: a committed submission with room in the pool's FIFO and a readable descriptor whose completion address is aligned queues
the task and wakes the engines; R333: with no room OVERFLOW is set and nothing is queued. R327: an engine that may take a task
takes the head of its deque, else the head of its pool's FIFO. R328: with both empty it tries one place of its sweep: the tail
of the deque, or the head of the other pool's FIFO, it finds there is taken, and an empty one moves the sweep on. R325: a task
with a bad descriptor ends at once with STATUS 1. -/
def Obligations.TasksSubmittedAndTaken : Prop :=
  (∀ (init : Initiator) (pool : Fin 8) (data low : Word) (a : Nat) (s : State),
      accReady s init (Reg.SHL_SUBMIT_HI pool.val) = true → staged s init (Reg.SHL_SUBMIT_LO pool.val) = some low →
      a = low.toNat / 64 * 64 + data.fld 3 0 * 2 ^ 32 →
      (∀ d, (s.fifo pool.val).length < 1024 → s.dyn.shl.engs.any (fun e => (e.wait.map (fun t => t.pool)) == some pool.val) = false →
        memReady s = true → reqRead s a 64 = some d →
        (⟨s.dyn.shl.next, pool.val, d, leAt d 2 2, 0, none⟩ : STask).compl % 16 = 0 →
        exec (.shoalSubmit init pool data) s = .next (applyAll s (seqs [seqs [
          fun _ => [.reg (Reg.SHL_SUBMIT_LO pool.val) low, .reg (Reg.SHL_SUBMIT_HI pool.val) data], reqReadEv true a 64 2,
          fun _ => [updShl (fun x => { x with
            fifos := modAt x.fifos pool.val (fun f => f ++ [⟨s.dyn.shl.next, pool.val, d, leAt d 2 2, 0, none⟩]),
            flight := (s.dyn.shl.next, leAt d 2 2) :: x.flight, next := s.dyn.shl.next + 1 }), wakeAll]],
          fun _ => [unstage init]] s))) ∧
      (1024 ≤ (s.fifo pool.val).length →
        ∃ t, exec (.shoalSubmit init pool data) s = .next t ∧ t.bit Reg.SHL_STAT 4 = true ∧ t.dyn.shl = s.dyn.shl ∧
          sameRegsBut (fun a => a = Reg.SHL_SUBMIT_LO pool.val ∨ a = Reg.SHL_SUBMIT_HI pool.val ∨ a = Reg.SHL_STAT) s t ∧
              sameMem s t)) ∧
  (∀ (eng : Fin 64) (t : STask) (s : State), canTake s eng.val = true →
      (∀ rest, (s.eng eng.val).deque = t :: rest →
        exec (.engineTakeTask eng) s = .next (applyAll s (seqs [fun _ => [updEng eng.val (fun x => { x with deque := rest })],
          startTask eng.val (eng.val / 8) t] s))) ∧
      (∀ rest, (s.eng eng.val).deque = [] → s.fifo (eng.val / 8) = t :: rest →
        exec (.engineTakeTask eng) s = .next (applyAll s (seqs [
          fun _ => [updShl (fun x => { x with fifos := setAt x.fifos (eng.val / 8) rest })], startTask eng.val (eng.val / 8) t] s))) ∧
      (∀ v, (s.eng eng.val).asleep = false → (s.eng eng.val).deque = [] → s.fifo (eng.val / 8) = [] →
        ((s.eng eng.val).sweep < 7 ∨ crossOn s = true) → sweepAt s eng.val (s.eng eng.val).sweep = .inl v →
            (s.eng v).deque.getLast? = some t →
        exec (.stealAttempt eng) s = .next (applyAll s (seqs [
          fun _ => [updEng v (fun y => { y with deque := y.deque.dropLast })],
          stolen eng.val (s.eng eng.val).sweep (if (s.eng eng.val).sweep < 7 then v else v / 8) t] s))) ∧
      (∀ p rest, (s.eng eng.val).asleep = false → (s.eng eng.val).deque = [] → s.fifo (eng.val / 8) = [] → crossOn s = true →
        sweepAt s eng.val (s.eng eng.val).sweep = .inr p → s.fifo p = t :: rest →
        exec (.stealAttempt eng) s = .next (applyAll s (seqs [
          fun _ => [updShl (fun y => { y with fifos := setAt y.fifos p rest })], stolen eng.val (s.eng eng.val).sweep p t] s))) ∧
      (∀ v, (s.eng eng.val).asleep = false → (s.eng eng.val).deque = [] → s.fifo (eng.val / 8) = [] → (s.eng eng.val).sweep < 6 →
        sweepAt s eng.val (s.eng eng.val).sweep = .inl v → (s.eng v).deque.getLast? = none →
        exec (.stealAttempt eng) s = .next (applyAll s [updEng eng.val (fun y => { y with sweep := (s.eng eng.val).sweep + 1 })])) ∧
      (∀ e p, t.seg = none → descBad t (s.shlKey t.key).length = true →
        startTask e p t s = [updEng e (fun x => { x with
          run := some { task := { t with pool := p }, key := if t.keyed then s.shlKey t.key else [], res := some (1, 0) },
          asleep := false, sweep := 0, op := t.op, gen := t.gen })]))

/-- R324, R339-R342: what the tasks compute from the bytes at SRC: decryption, encryption with the sector's metadata, parity,
rebuild, SHA-256, CRC; R534: a task whose source cannot be read or whose output does not fit ends with STATUS 7. R330: a
fenced engine's output is dropped. -/
def Obligations.TasksCompute : Prop :=
  ∀ (eng : Fin 64) (r : SRun) (s : State),
    (∀ src n dst m g, reqRead s src n = none →
      ioTask eng.val src n dst m g s = seqs [reqReadEv false src n 2, dramFail eng.val dst m] s) ∧
    (∀ src n dst m g bs, reqRead s src n = some bs → (g bs).2.2 ≠ [] → memFits s dst (g bs).2.2.length = false →
      (s.eng eng.val).fenced = false →
      ioTask eng.val src n dst m g s =
        seqs [reqReadEv false src n 2, memAddrErr (max dst (memEnd s) / 64 * 64), dramFail eng.val dst m] s) ∧
    (∀ src n dst m g bs, reqRead s src n = some bs → (g bs).2.2 ≠ [] → memFits s dst (g bs).2.2.length = true →
      ioTask eng.val src n dst m g s = seqs [reqReadEv false src n 2, engWrite eng.val dst (g bs).2.2,
        fun _ => [endTask eng.val (g bs).1 (g bs).2.1]] s) ∧
    (∀ dst bs, (s.eng eng.val).fenced = true → engWrite eng.val dst bs s = []) ∧
    (running s eng.val 1 = some r →
      exec (.sectDec eng) s = .next (applyAll s (ioTask eng.val r.task.src (4160 * r.task.len) r.task.dst (4096 * r.task.len) (fun bs => (0, 0,
        (indexed (pieces 4160 r.task.len bs)).flatMap (fun p =>
          if r.task.plain then p.2.take 4096 else xts false r.key (r.task.aux + p.1) (p.2.take 4096)))) s))) ∧
    (running s eng.val 2 = some r →
      exec (.sectEnc eng) s = .next (applyAll s (ioTask eng.val r.task.src (4096 * r.task.len) r.task.dst (4160 * r.task.len) (fun bs => (0, 0,
        (indexed (pieces 4096 r.task.len bs)).flatMap (fun p =>
          dataInfo r.task.head r.task.band (r.task.sector + p.1) r.task.kind r.task.epoch
            (if r.task.plain then p.2 else xts true r.key (r.task.aux + p.1) p.2) ++ zeros 48))) s))) ∧
    (running s eng.val 3 = some r →
      exec (.parGen eng) s = .next (applyAll s (ioTask eng.val r.task.src 266240 r.task.dst 8320 (fun bs => (0, 0,
        parityInfo 0 r.task.head r.task.band r.task.sector r.task.epoch ((pieces 4160 64 bs).map (fun d => d.take 4112)) ++ zeros 48 ++
        parityInfo 1 r.task.head r.task.band (r.task.sector + 1) r.task.epoch ((pieces 4160 64 bs).map (fun d => d.take 4112)) ++
        zeros 48)) s))) ∧
    (running s eng.val 4 = some r →
      ∃ g, exec (.parRebuild eng) s = .next (applyAll s (ioTask eng.val r.task.src 274560 r.task.dst (4160 * r.task.lost.length) g s)) ∧
        ∀ bs, (g bs).2.2 = r.task.lost.flatMap (fun i => rebuiltInfo (fun k => ((pieces 4160 66 bs).getD k []).take 4112) r.task.lost i
          r.task.head r.task.band r.task.sector r.task.kind r.task.epoch ++ zeros 48)) ∧
    (running s eng.val 6 = some r →
      exec (.digest eng) s =
        .next (applyAll s (ioTask eng.val r.task.src r.task.len r.task.dst 32 (fun bs => (0, 0, sha256 bs)) s))) ∧
    (running s eng.val 7 = some r → (leAt r.task.desc 34 1).testBit 0 = false →
      exec (.crc eng) s =
        .next (applyAll s (ioTask eng.val r.task.src r.task.len r.task.dst 0 (fun bs => (0, (crc32c bs).toNat, [])) s))) ∧
    (running s eng.val 7 = some r → (leAt r.task.desc 34 1).testBit 0 = true →
      exec (.crc eng) s = .next (applyAll s (ioTask eng.val r.task.src r.task.len r.task.dst 0 (fun bs => (0, crc64 bs, [])) s)))

/-- R344, R348: a derive task whose recipe passes every check is split into its segments; R345: CHECK_ONLY ends with the output
length and writes nothing; R346, R347: a segment makes its window in local memory and writes it at its place of the output. -/
def Obligations.DeriveTasks : Prop :=
  ∀ (eng : Fin 64) (r : SRun) (rec : List Byte) (s : State),
    (running s eng.val 5 = some r → deriveCheck s r.task = .inr rec → (leAt r.task.desc 40 1).testBit 0 = false →
      (s.eng eng.val).fenced = false →
      exec (.derive eng) s = .next (applyAll s (seqs [readRecipeEv r.task.aux (64 * leAt r.task.desc 34 2), seqs [
        fun _ => [updShl (fun x => { x with parents := ⟨r.task, eng.val, rec, ((rcEntries rec).filter (fun x => x.op == 4)).map
            (fun x => (x.key, s.shlKey x.key)), List.replicate (rcSegCount rec) none⟩ :: x.parents }),
          updEng eng.val (fun x => { x with run := some { r with push := List.range (rcSegCount rec) } })],
        pushSegs eng.val (rcSegCount rec + 1)]] s))) ∧
    (running s eng.val 5 = some r → deriveCheck s r.task = .inr rec → (leAt r.task.desc 40 1).testBit 0 = true →
      exec (.deriveCheckOnly eng) s = .next (applyAll s (seqs [readRecipeEv r.task.aux (64 * leAt r.task.desc 34 2),
        fun _ => [endTask eng.val 0 (rcOut rec)]] s))) ∧
    (∀ pid k par seg es, running s eng.val 0x85 = some r → (r.sub.getD r.task).seg = some (pid, k) →
      s.dyn.shl.parents.find? (fun p => p.task.id == pid) = some par → rcSegment k (rcEntries par.recipe) = some (seg, es) →
      segReadable s par.task.src es = true → memFits s (par.task.dst + seg.dst) seg.len = true →
      exec (.segment eng) s = .next (applyAll s (seqs [
        each (es.filter (fun x => x.op == 2)) (fun x => reqReadEv false (par.task.src + x.src) x.len 2),
        localPut eng.val (segWindow par.recipe
          (fun o n => (reqRead s (par.task.src + o) n).getD (zeros n))
          (fun slot => ((par.keys.find? (fun x => x.1 == slot)).map (fun x => x.2)).getD []) seg es),
        fun s => engWrite eng.val (par.task.dst + seg.dst) ((s.eng eng.val).local 0 seg.len) s,
        fun _ => [endTask eng.val 0 0]] s)))

/-- R326: an ended task is completed and its engine is free; R331, R335: the completion of a task that is no longer in flight is
counted as stale and writes nothing. R330, R332: at the deadline the engine is fenced and its task reissued; R333: a reissue
that waited goes to the head of its FIFO once there is room. R334: a reset of a fenced engine clears its memory, and a fence
is then lifted. R337: a write of SHL_KEY_SEL with length 0 empties the slot, with a legal length it begins a load;
SHL_KEY_DATA adds a word, and the last one gives the slot its key. -/
def Obligations.TasksCompletedAndKeys : Prop :=
  (∀ (init : Initiator) (eng : Fin 64) (pool : Fin 8) (data low : Word) (r : SRun) (st v idx : Nat) (t : STask) (s : State),
      ((s.eng eng.val).run = some r → r.res = some (st, v) → r.sub = none → s.up 100 = true → poolUp s (eng.val / 8) = true →
        reqReady s = true →
        exec (.taskComplete eng) s = .next (applyAll s (seqs [fun _ => [updEng eng.val (fun x => { x with run := none })],
          complTask r.task st v eng.val] s))) ∧
      (s.dyn.shl.flight.contains (t.id, t.gen) = false →
        complTask t st v eng.val s = [.cnt Reg.SHL_STALE_CNT 31 0 1, .sq Reg.SHL_STAT 4]) ∧
      ((s.eng eng.val).run = some r → r.push = [] → s.up 100 = true → poolUp s (eng.val / 8) = true →
        (s.eng eng.val).fenced = false →
        exec (.taskDeadlineExpiry eng) s = .next (applyAll s (seqs [fun _ => [
          updEng eng.val (fun x => { x with fenced := true, reset := false, deque := x.deque, run := some { r with push := [] } }),
          updShl (fun x => { x with next := s.dyn.shl.next, flight := x.flight }), .sq Reg.SHL_STAT 2, .cnt Reg.SHL_FENCE_CNT 31 0 1],
          reissue eng.val (r.sub.getD r.task)] s))) ∧
      (∀ e, (List.range 64).find? (fun e => ((s.eng e).wait.map (fun t => t.pool)) == some pool.val) = some e →
        (s.eng e).wait = some t → s.up 100 = true → (s.fifo pool.val).length < 1024 →
        exec (.reissueBufferDrain pool) s = .next (applyAll s [
          updShl (fun x => { x with fifos := modAt x.fifos pool.val (fun f => t :: f) }), updEng e (fun x => { x with wait := none }),
          wakeAll])) ∧
      (accReady s init Reg.SHL_ENG_RST_HI = true → staged s init Reg.SHL_ENG_RST_LO = some low →
        exec (.engineReset init data) s = .next (applyAll s (seqs [each (bitsOf 64 (low.toNat + 2 ^ 32 * data.toNat)) (fun e => fun s =>
          if (s.eng e).fenced && poolUp s (e / 8) then [updEng e (fun x => { x with run := none, mem := none, reset := false })] else []),
          fun _ => [unstage init]] s))) ∧
      (s.up 100 = true → poolUp s (eng.val / 8) = true → (s.eng eng.val).clearing = true →
        exec (.engineResetDone eng) s =
          .next (applyAll s [updEng eng.val (fun x => { x with mem := some [], reset := x.fenced })])) ∧
      (accReady s init Reg.SHL_FENCE_CLR_HI = true → staged s init Reg.SHL_FENCE_CLR_LO = some low →
        exec (.fenceClear init data) s = .next (applyAll s (seqs [each (bitsOf 64 (low.toNat + 2 ^ 32 * data.toNat)) (fun e => fun s =>
          if !(s.eng e).fenced then []
          else if (s.eng e).reset && (s.eng e).wait.isNone then
            [updEng e (fun y => { y with fenced := false, reset := false, asleep := false })]
          else [.sq Reg.SHL_STAT 32]), fun _ => [unstage init]] s))) ∧
      (exec (.deriveHoldExpiry idx) s = .next (applyAll s [updShl (fun x => { x with holds := x.holds.eraseIdx idx })]))) ∧
  (∀ (init : Initiator) (data : Word) (s : State),
      (accReady s init Reg.SHL_KEY_SEL = true →
        (data.fld 23 16 = 0 → exec (.keySelWrite init data) s =
          .next (applyAll s [keyPut (data.fld 9 0) [], updShl (fun x => { x with sel := none })])) ∧
        ((data.fld 23 16 = 16 ∨ data.fld 23 16 = 32 ∨ data.fld 23 16 = 64) → exec (.keySelWrite init data) s =
          .next (applyAll s [updShl (fun x => { x with sel := some (data.fld 9 0, data.fld 23 16, []) })]))) ∧
      (∀ k n bs, accReady s init Reg.SHL_KEY_DATA = true → s.dyn.shl.sel = some (k, n, bs) →
        (n ≤ bs.length + 4 → exec (.keyDataWrite init data) s =
          .next (applyAll s [keyPut k (bs ++ leBytes 4 data.toNat), updShl (fun x => { x with sel := none })])) ∧
        (bs.length + 4 < n → exec (.keyDataWrite init data) s =
          .next (applyAll s [updShl (fun x => { x with sel := some (k, n, bs ++ leBytes 4 data.toNat) })]))))

/-! Memory and cache (12). -/

/-- R365: a write of a whole word stores its 64 bytes with check bits that agree, whatever the word held before: it reads nothing,
so it corrects, counts and reports nothing, and a read afterwards delivers the data with no error. Data of another length is
cut or padded to 64 bytes (log 4). -/
def Obligations.WholeWordWrite : Prop :=
  ∀ (addr : BitVec 36) (data : List Byte) (a : Nat) (s : State), a = addr.toNat / 64 * 64 → s.wf = true →
    memReady s = true → a < memEnd s →
    ∃ t, exec (.memoryWrite addr data) s = .next t ∧ readWord t a [] = .ok (fit 64 data) ∧
      (∀ i, i < 64 → t.dramByte (a + i) = some ((fit 64 data).getD i 0)) ∧
      (∀ b, b < a ∨ a + 64 ≤ b → t.dramByte b = s.dramByte b) ∧ (∀ b, t.norByte b = s.norByte b) ∧
      sameRegsBut (fun _ => False) s t ∧ t.dyn = s.dyn ∧ t.out = s.out

/-- R365: a whole-word write to a served address stores its 64 bytes and changes no other byte, no register and no other state;
R355: one beyond capacity stores nothing and sets ADDR_ERR. R366: a write inside a word whose stored bytes are good replaces
only the bytes it carries. Before training nothing is served (R356). R359-R362: a read delivers the stored word where its
check bits agree, the corrected word, counted, where one symbol is wrong, and nothing where it cannot be corrected; R355:
beyond capacity it delivers nothing. R357: a retrack changes no state. -/
def Obligations.MemoryAccesses : Prop :=
  (∀ (addr : BitVec 36) (data : List Byte) (a : Nat) (s : State), a = addr.toNat / 64 * 64 → s.wf = true →
      (memReady s = true → a < memEnd s →
        ∃ t, exec (.memoryWrite addr data) s = .next t ∧ (∀ i, i < 64 → t.dramByte (a + i) = some ((fit 64 data).getD i 0)) ∧
          (∀ b, b < a ∨ a + 64 ≤ b → t.dramByte b = s.dramByte b) ∧ (∀ b, t.norByte b = s.norByte b) ∧
          sameRegsBut (fun _ => False) s t ∧ t.dyn = s.dyn ∧ t.out = s.out) ∧
      (memReady s = true → memEnd s ≤ a →
        ∃ t, exec (.memoryWrite addr data) s = .next t ∧ t.bit Reg.MEM_STAT 1 = true ∧ sameMem s t ∧
          sameRegsBut (fun b => b = Reg.MEM_STAT ∨ b = Reg.MEM_AERR_LO ∨ b = Reg.MEM_AERR_HI) s t ∧ t.dyn = s.dyn) ∧
      (∀ w n, memReady s = true → addr.toNat < memEnd s → n = min 63 (64 - addr.toNat % 64) → data.length = n → 0 < n →
        readWord s addr.toNat [] = .ok w → w.length = 64 →
        ∃ t, exec (.partialWrite addr data []) s = .next t ∧
          (∀ i, i < 64 → t.dramByte (a + i) = some ((patch w (addr.toNat % 64) data).getD i 0)) ∧
          (∀ b, b < a ∨ a + 64 ≤ b → t.dramByte b = s.dramByte b) ∧ sameRegsBut (fun _ => False) s t ∧ t.dyn = s.dyn) ∧
      (memReady s = false → exec (.memoryWrite addr data) s = .next s ∧ exec (.partialWrite addr data []) s = .next s)) ∧
  (∀ (cls : Fin 4) (sub : Fin 4) (addr : BitVec 36) (flip : List Byte) (a : Nat) (s : State),
      a = addr.toNat / 64 * 64 → memReady s = true →
      (∀ d, a < memEnd s → readWord s a flip = .ok d →
        exec (.memoryRead cls addr flip) s = .next (applyAll s [.emit (.memData a (some d))])) ∧
      (∀ d g q, a < memEnd s → readWord s a flip = .corr d g q →
        exec (.memoryRead cls addr flip) s =
          .next (applyAll s (seqs [memCe a g q cls.val, fun _ => [.emit (.memData a (some d))]] s))) ∧
      (∀ l, a < memEnd s → readWord s a flip = .bad l →
        exec (.memoryRead cls addr flip) s = .next (applyAll s (memUe a l cls.val s))) ∧
      (memEnd s ≤ a →
        exec (.memoryRead cls addr flip) s =
          .next (applyAll s (seqs [memAddrErr a, fun _ => [.emit (.memData a none)]] s))) ∧
      exec (.dqsRetrack sub) s = .next s)

/-- R356: GO trains with a legal MEM_CFG, which releases MEMc_RESET_N (R498), and fails at once with an illegal one; a training
that passes on every subchannel sets MEM_SIZE, any other sets TRAIN_FAIL. R361: a write of MEM_CE_FREE frees the entries
written as 1. R367: GO starts a fill, and its end fills the range, drops the cache's lines in it and sets FILL_DONE. R369: GO
starts a scrub pass and each step reads one word; the last one ends the pass. -/
def Obligations.MemoryEngines : Prop :=
  ∀ (init : Initiator) (data : Word) (pass : BitVec 4) (s : State),
    (accReady s init Reg.MEM_TRAIN = true → s.bit Reg.MEM_TRAIN_STAT 31 = false →
      ∃ t, exec (.memTrainGo init data) s = .next t ∧
        (memGiB (s.reg Reg.MEM_CFG) = none → t.reg Reg.MEM_TRAIN_STAT = 0xF ∧ t.bit Reg.MEM_STAT 3 = true ∧ t.dyn = s.dyn) ∧
        (memGiB (s.reg Reg.MEM_CFG) ≠ none → t.reg Reg.MEM_TRAIN_STAT = 0x80000000 ∧
          t.dyn = { s.dyn with mem := { s.dyn.mem with resetN := true } } ∧
          (s.dyn.mem.resetN = false → t.out = .memPins true (memClocked s) (!memClocked s) :: s.out)) ∧
        sameRegsBut (fun a => a = Reg.MEM_TRAIN ∨ a = Reg.MEM_TRAIN_STAT ∨ a = Reg.MEM_STAT) s t ∧ sameMem s t) ∧
    (s.up 9 = true → s.bit Reg.MEM_TRAIN_STAT 31 = true →
      ∃ t, exec (.memTrainDone pass) s = .next t ∧ t.fld Reg.MEM_TRAIN_STAT 7 4 = pass.toNat ∧ t.bit Reg.MEM_TRAIN_STAT 31 = false ∧
        (pass = 0xF → t.reg Reg.MEM_SIZE = w32 ((memGiB (s.reg Reg.MEM_CFG)).getD 0) ∧ t.reg Reg.MEM_STAT = s.reg Reg.MEM_STAT) ∧
        (pass ≠ 0xF → t.bit Reg.MEM_STAT 3 = true ∧ t.reg Reg.MEM_SIZE = s.reg Reg.MEM_SIZE) ∧
        sameRegsBut (fun a => a = Reg.MEM_TRAIN_STAT ∨ a = Reg.MEM_SIZE ∨ a = Reg.MEM_STAT) s t ∧ sameMem s t ∧ t.dyn = s.dyn) ∧
    (accReady s init Reg.MEM_CE_FREE = true →
      ∃ t, exec (.memCeFreeWrite init data) s = .next t ∧ t.reg Reg.MEM_CE_VALID = s.reg Reg.MEM_CE_VALID &&& ~~~data ∧
        sameRegsBut (fun a => a = Reg.MEM_CE_VALID) s t ∧ sameMem s t ∧ t.dyn = s.dyn) ∧
    (accReady s init Reg.MEM_FILL_CTL = true → s.bit Reg.MEM_FILL_CTL 1 = false →
      ∃ t, exec (.memFillGo init data) s = .next t ∧ t.bit Reg.MEM_FILL_CTL 1 = true ∧
        sameRegsBut (fun a => a = Reg.MEM_FILL_CTL) s t ∧ sameMem s t ∧ t.dyn = s.dyn) ∧
    (∀ b n, rasUp s = true → s.bit Reg.MEM_FILL_CTL 1 = true → b = s.pair Reg.MEM_FILL_BASE_LO → n = s.pair Reg.MEM_FILL_LEN_LO →
      0 < n → b + n ≤ memEnd s →
      exec .memFillDone s = .next (applyAll s [.fill b n (s.pair Reg.MEM_FILL_PAT_LO), .upd (fun d => { d with cch := { d.cch with
        lines := d.cch.lines.filter (fun c => c.line * 64 < b || b + n ≤ c.line * 64),
        evict := d.cch.evict.filter (fun e => e.1 * 64 < b || b + n ≤ e.1 * 64) } }),
        .fld Reg.MEM_FILL_CTL 1 1 0, .sq Reg.MEM_STAT 16])) ∧
    (accReady s init Reg.MEM_SCRUB_CTL = true → s.bit Reg.MEM_SCRUB_CTL 1 = false → 0 < s.pair Reg.MEM_SCRUB_LEN_LO →
      ∃ t, exec (.memScrubGo init data) s = .next t ∧ t.bit Reg.MEM_SCRUB_CTL 1 = true ∧ t.reg Reg.MEM_SCRUB_CE = 0 ∧
        t.dyn.mem.scrub = some (s.pair Reg.MEM_SCRUB_BASE_LO, s.pair Reg.MEM_SCRUB_BASE_LO + s.pair Reg.MEM_SCRUB_LEN_LO) ∧
        sameMem s t) ∧
    (∀ a e d, s.dyn.mem.scrub = some (a, e) → rasUp s = true → a < memEnd s → readWord s a [] = .ok d →
      ∃ t, exec (.scrubStep []) s = .next t ∧ t.pair Reg.MEM_SCRUB_WORDS_LO = (s.pair Reg.MEM_SCRUB_WORDS_LO + 1) % 2 ^ 64 ∧
        t.dyn.mem.scrub = (if e ≤ a + 64 then none else some (a + 64, e)) ∧ sameMem s t)

/-- R371-R374: a read that hits delivers the cached line and counts a hit; a miss that allocates starts a fill in the victim way,
one that does not goes to memory and is counted. R378: the filled line becomes valid and is delivered; R377: the controller
accepts the oldest victim. R378, R377, R381: a fill's end makes the line valid and delivers it; the oldest victim is written
to memory; the cache serves requests once its arrays are clear. -/
def Obligations.CacheRequestsAndLines : Prop :=
  (∀ (req : Requester) (addr : BitVec 36) (alloc : Bool) (line : Nat) (s : State), line = addr.toNat / 64 →
      memReady s = true → s.up 20 = true → s.up (setDom line) = true → s.dyn.cch.ready = true →
      s.dyn.cch.filling.any (fun f => f.line == line) = false → s.dyn.cch.evict.any (fun e => e.1 == line) = false →
      (∀ l, cacheLine s line = some l → s.dyn.cch.due.contains l.way = false →
        exec (.cacheRequest req addr alloc none .none) s = .next (applyAll s [.cnt Reg.CCH_HIT_CNT 31 0 1,
          updCch (fun c => touch c l.line l.way), .emit (.memData (l.line * 64) (some l.data))])) ∧
      (cacheLine s line = none → mayAllocate req alloc = true →
        exec (.cacheRequest req addr alloc none .none) s = .next (applyAll s (seqs [fun _ => [.cnt Reg.CCH_MISS_CNT 31 0 1],
          evictWay line (victimWay s line),
          fun _ => [updCch (fun c => { c with filling := c.filling ++ [⟨line, victimWay s line, none, req⟩] })]] s))) ∧
      (cacheLine s line = none → mayAllocate req alloc = false →
        exec (.cacheRequest req addr alloc none .none) s =
          .next (applyAll s (seqs [fun _ => [.cnt Reg.CCH_NOALLOC_CNT 31 0 1], passBy req addr.toNat none] s))) ∧
      (cacheLine s line = none →
        exec (.cacheRequest req addr alloc none .tagDouble) s = .next (applyAll s (raiseSrc .warm 4 0 s)))) ∧
  (∀ (addr : BitVec 36) (line : Nat) (d : List Byte) (s : State), line = addr.toNat / 64 → memReady s = true →
      (∀ f, s.dyn.cch.filling.find? (fun f => f.line == line) = some f → f.wr = none →
        s.dyn.cch.evict.any (fun e => e.1 == line) = false → line * 64 < memEnd s → readWord s (line * 64) [] = .ok d →
        exec (.cacheFillComplete addr) s = .next (applyAll s [
          updCch (fun c => { c with filling := c.filling.filter (fun x => x.line != line) }),
          updCch (fun c => touch { c with lines := c.lines ++ [⟨line, f.way, false, d⟩] } line f.way),
          .emit (.memData (line * 64) (some d))])) ∧
      (∀ l rest, s.dyn.cch.evict = (l, d) :: rest →
        exec .cacheWritebackAccept s =
          .next (applyAll s (seqs [memPut (l * 64) d [] 4, fun _ => [updCch (fun c => { c with evict := rest })]] s))) ∧
      (s.levelUp 5 = true → exec .cacheInitDone s = .next (applyAll s [updCch (fun c => { c with ready := true })])))

/-- R375: each maintenance operation starts with its OP, address and lines, and BUSY is set; OP 0, 6 and 7 set ABORT alone. R376:
when it is done its lines are clean, gone or both, BUSY is 0 and MAINT_DONE is set. R380: a way taken out of service is empty. -/
def Obligations.CacheMaintenance : Prop :=
  ∀ (init : Initiator) (data : Word) (way : Fin 16) (s : State), accReady s init Reg.CCH_MAINT_CTL = true →
    (s.bit Reg.CCH_MAINT_CTL 31 = false →
      ∀ op i, (op, i) ∈ [(1, Instr.cacheClean init data), (2, Instr.cacheInvalidate init data),
          (3, Instr.cacheCleanInvalidate init data), (4, Instr.cacheCleanAll init data), (5, Instr.cacheCleanInvalidateAll init data)] →
        ∃ t, exec i s = .next t ∧ t.bit Reg.CCH_MAINT_CTL 31 = true ∧
          t.dyn.cch.maint = some (op, s.pair Reg.CCH_MAINT_ADDR_LO / 64, max 1 (data.fld 23 4)) ∧
          sameRegsBut (fun a => a = Reg.CCH_MAINT_CTL) s t ∧ sameMem s t) ∧
    (s.bit Reg.CCH_MAINT_CTL 31 = false →
      ∃ t, exec (.cacheMaintInvalidOp init data) s = .next t ∧ t.bit Reg.CCH_STAT 4 = true ∧ t.bit Reg.CCH_MAINT_CTL 31 = false ∧
        sameRegsBut (fun a => a = Reg.CCH_MAINT_CTL ∨ a = Reg.CCH_STAT) s t ∧ sameMem s t ∧ t.dyn = s.dyn) ∧
    (∀ a n, s.up 20 = true → memReady s = true → s.bit Reg.CCH_MAINT_CTL 31 = true →
      s.dyn.cch.filling.any (fun f => maintHits s f.line) = false → s.dyn.cch.maint = some (2, a, n) →
      ∃ t, exec .maintDone s = .next t ∧ t.dyn.cch.lines = s.dyn.cch.lines.filter (fun l => !maintHits s l.line) ∧
        t.bit Reg.CCH_MAINT_CTL 31 = false ∧ t.bit Reg.CCH_STAT 0 = true ∧ t.dyn.cch.maint = none ∧
        sameRegsBut (fun a => a = Reg.CCH_MAINT_CTL ∨ a = Reg.CCH_STAT) s t ∧ sameMem s t) ∧
    (s.up 20 = true → memReady s = true → s.dyn.cch.due.contains way.val = true →
      s.dyn.cch.filling.any (fun f => f.way == way.val) = false →
      exec (.cacheWayDisable way) s = .next (applyAll s (seqs [writeBack (fun c => c.way == way.val), fun _ => [
        updCch (fun c => { c with
          lines := c.lines.filter (fun l => l.way != way.val), due := c.due.filter (fun w => w != way.val) }),
        .fld Reg.CCH_WAY_DIS way.val way.val 1, .sq Reg.CCH_STAT 4]] s)))

/-! Clocks, resets and boot (13). -/

/-- R392, R395, Table 13.3: PORST_N low brings every level into reset: every register shows its reset word but RST_STAT, whose
RESTART bit may be set (R398), buffer memory holds nothing a program wrote, and the sequencer holds all nine levels. -/
def Obligations.PowerOnReset : Prop :=
  ∀ (s : State), s.dyn.rst.asserted.any (isSrc .por 1) = false →
    ∃ t, exec (.porstNAssert false) s = .next t ∧ t.dyn.rst.held = 0x1FF ∧ (∀ a, a ≠ Reg.RST_STAT → t.reg a = resetWord a) ∧
      t.dyn.rst.asserted = s.dyn.rst.asserted ++ [⟨.por, 1, 0⟩] ∧ t.dram = [] ∧ t.dyn.rst.optDone = false ∧
      t.dyn.rst.refGood = false ∧ t.dyn.rst.good = 0

/-- R392, R395, R398, R402, R515: each source, as it asserts, does what its reach of Table 13.3 gives it; one that is asserted
already does nothing more. RESET_N, the supply monitors and a lost reference assert at once; WARM and HOST as they have been
raised. R395, R384, R408: the release of a ball or a rail's supply takes the source back; PORST_N samples the straps as it
rises, and VDD_AON's power-up gives its state the reset values (R393). A WARM or HOST source releases too. -/
def Obligations.ResetSources : Prop :=
  (∀ (rail : Rail) (r : Raise) (s : State),
      (exec (.resetNAssert false) s = .next (applyAllP s (seqsP [assertSrc ⟨.pin, 1, 0⟩, fun _ => []] s))) ∧
      (exec (.supplyMonitorFall rail) s = .next (applyAllP s (seqsP [lift (if rail = .aon then aonPowerLoss else skip),
        assertSrc ⟨.por, railSub rail, 0⟩] s))) ∧
      (s.dyn.rst.refGood = true →
        exec .refLost s = .next (applyAllP s (seqsP [fun _ => [.eff (updRst (fun r => { r with refGood := false })),
          .eff (.upd (fun d => { d with aon := { d.aon with synch := d.aon.synch || d.aon.set } }))],
          assertSrc ⟨.pin, 2, 0⟩, lift (releaseSrc (isSrc .pin 2))] s))) ∧
      (s.dyn.rst.beached = false →
        (s.dyn.rst.raised.find? (fun r => r.src == .warm) = some r →
          exec .warmAssert s = .next (applyAllP s (seqsP [assertSrc r,
            fun _ => [.eff (updRst (fun x => { x with raised := x.raised.erase r }))]] s))) ∧
        (s.dyn.rst.raised.find? (fun r => r.src == .host) = some r →
          exec .hostAssert s = .next (applyAllP s (seqsP [assertSrc r,
            fun _ => [.eff (updRst (fun x => { x with raised := x.raised.erase r }))]] s)))) ∧
      (s.dyn.rst.asserted.any (fun x => x.src == r.src && x.sub == r.sub) = true → assertSrc r s = [])) ∧
  (∀ (slotId : BitVec 6) (refsel : Bool) (bootMode : BitVec 2) (rail : Rail) (r : Raise) (s : State),
      (s.dyn.rst.asserted.find? (isSrc .por 1) = some r →
        exec (.porstNRelease slotId refsel bootMode) s = .next (applyAll s [
          updRst (fun r => { r with slotId := slotId, refsel := refsel, bootMode := bootMode }),
          updRst (fun x => { x with asserted := x.asserted.erase r })])) ∧
      (s.dyn.rst.asserted.find? (isSrc .pin 1) = some r →
        exec .resetNRelease s = .next (applyAll s [updRst (fun x => { x with asserted := x.asserted.erase r })])) ∧
      (s.dyn.rst.asserted.find? (isSrc .por (railSub rail)) = some r →
        exec (.supplyMonitorRise rail) s = .next (applyAll s (seqs [if rail = .aon then aonPowerUp else skip,
          fun _ => [updRst (fun x => { x with asserted := x.asserted.erase r })]] s))) ∧
      (s.dyn.rst.asserted.find? (fun r => r.src == .warm) = some r →
        exec .warmSourceRelease s = .next (applyAll s [updRst (fun x => { x with asserted := x.asserted.erase r })])) ∧
      (s.dyn.rst.asserted.find? (fun r => r.src == .host) = some r →
        exec .hostRelease s = .next (applyAll s [updRst (fun x => { x with asserted := x.asserted.erase r })])))

/-- R385, R387, R397: the reference becomes good with no POR source asserted; the PLL locks with the reference good; a clock-good
stands once the PLL has locked, and its fall in no reset sequence is an event that raises WARM. A PLL that does not lock sets
FAULT_N and lets every clock-good fall. R396, R398: the sequencer releases the lowest level held, once no source holds it and
its clock, reference and options are ready; while one of these fails nothing is released. R391: a domain that CLK_DOM_OFF
gates goes into reset at the write, and leaves it one gap after its bit clears; Breakwater then takes the starts still raised
(R537). -/
def Obligations.ClocksAndLevels : Prop :=
  (∀ (fam : Family) (s : State), s.dyn.rst.faultPll = false → s.dyn.rst.beached = false →
      (s.dyn.rst.asserted.any (fun r => r.src == .por) = false →
        exec .refGood s = .next (applyAll s [updRst (fun r => { r with refGood := true })])) ∧
      (s.levelUp 1 = true → s.dyn.rst.refGood = true →
        exec .pllLock s = .next (applyAll s [updRst (fun r => { r with pllLock := true })])) ∧
      (s.dyn.rst.pllLock = true →
        exec (.clockGoodAssert fam) s =
          .next (applyAll s [updRst (fun r => { r with good := r.good ||| BitVec.ofNat 5 (2 ^ famBit fam) })])) ∧
      (famGood s fam = true → s.dyn.rst.seq = none → s.up 0 = true →
        ∃ t, exec (.clockGoodFall fam) s = .next t ∧ t.bit Reg.CLK_STAT 0 = true ∧
          t.dyn.rst.raised = s.dyn.rst.raised ++ [⟨.warm, 6, 0⟩] ∧ t.dyn.rst.good.getLsbD (famBit fam) = false ∧
          sameRegsBut (fun a => a = Reg.CLK_STAT) s t ∧ sameMem s t) ∧
      (∀ f, (nextLevel s).bind levelFam = some f → famGood s f = false → s.levelUp 1 = true →
        exec .pllFail s = .next (applyAllP s (seqsP [
          fun _ => [.eff (.sq Reg.CLK_STAT 0x200), .eff (updRst (fun r => { r with
            faultN := true, faultPll := r.faultPll || !r.faultN, pllLock := false }))],
          goodsFall [.core, .mgmt, .mem, .media, .periph]] s)))) ∧
  (∀ (init : Initiator) (idx : Fin 4) (dom : Fin 100) (data : Word) (k : Nat) (s : State),
      (nextLevel s = some k → mayRelease s k = true →
        exec .levelRelease s = .next (applyAllP s (seqsP [lift (domsFree k),
          fun _ => [.eff (updRst (fun r => { r with held := r.held &&& ~~~(BitVec.ofNat 9 (2 ^ k)) }))],
          fun s => if 3 ≤ k then [.opt (optOf s k)] else [], lift (levelStarts k),
          fun _ => [.eff (updRst (fun r => { r with seq := if r.held = 0 then none else r.seq }))]] s))) ∧
      (nextLevel s = some k → mayRelease s k = true → k ≠ 7 →
        ∃ t, exec .levelRelease s = .next t ∧ t.dyn.rst.held = s.dyn.rst.held &&& ~~~(BitVec.ofNat 9 (2 ^ k)) ∧
          t.dyn.rst.seq = (if s.dyn.rst.held &&& ~~~(BitVec.ofNat 9 (2 ^ k)) = 0 then none else s.dyn.rst.seq)) ∧
      (nextLevel s = some k → mayRelease s k = false → exec .levelRelease s = .next s) ∧
      (accReady s init (Reg.CLK_DOM_OFF idx.val) = true →
        exec (.domainOffWrite init idx data) s = .next (applyAllP s (seqsP (lift (plainWrite (Reg.CLK_DOM_OFF idx.val) data) ::
          (((List.range 32).filter (fun b => data.bit b && !(s.reg (Reg.CLK_DOM_OFF idx.val)).bit b && gated (32 * idx.val + b))).map
            (fun b => domOff (32 * idx.val + b)))) s))) ∧
      (s.dyn.rst.domHeld.getLsbD dom.val = true → s.levelUp (domLevel dom.val) = true →
        s.bit (Reg.CLK_DOM_OFF (dom.val / 32)) (dom.val % 32) = false →
        exec (.domainRelease dom) s = .next (applyAllP s (seqsP [fun _ => [
          .eff (updRst (fun r => { r with domHeld := r.domHeld &&& ~~~(BitVec.ofNat 101 (2 ^ dom.val)) })),
          .opt (fun a => domOf a == dom.val)], lift (if dom.val = 3 then bwRelease else skip)] s))))

/-- R399-R401: the option image is read once D2 is released, and OPT_STAT shows the parameters loaded; a NOR that does not answer
gives all parameters as erased. R403: an RST_SW write of a management core with the key raises its sources. R404: a kick with
its key restarts the watchdog's count and any other value does not; its expiry raises WARM. R405: a write of RST_PAD releases
the pads. R406: RST_CORE_GO starts the waiting cores MC1 to MC3 named. -/
def Obligations.OptionsWatchdogPads : Prop :=
  ∀ (init : Initiator) (cap : BitVec 9) (sus : Bool) (data : Word) (s : State),
    (s.dyn.rst.optLoad = true → s.levelUp 2 = true →
      ∃ t, exec (.optionLoadDone (some (cap, sus))) s = .next t ∧ t.dyn.rst.optRam = s.norBytes 0 4096 ∧
        t.dyn.rst.optLoad = false ∧ t.dyn.rst.optDone = true ∧ t.dyn.rst.norMib = cap.toNat ∧ sameMem s t) ∧
    (accReady s init Reg.RST_SW = true → init.isMc = true → data.fld 31 16 = 0xD7A1 → data.bit 0 = true → data.bit 1 = false →
      ∃ t, exec (.rstSwWrite init data) s = .next t ∧ t.dyn.rst.raised = s.dyn.rst.raised ++ [⟨.warm, 1, init.id⟩] ∧
        sameRegsBut (fun _ => False) s t ∧ sameMem s t) ∧
    (accReady s init Reg.RST_SW = true → (init.isMc = false ∨ data.fld 31 16 ≠ 0xD7A1) →
      exec (.rstSwWrite init data) s = .next s) ∧
    (accReady s init Reg.RST_WDOG_KICK = true →
      (data.fld 15 0 = 0xC0DE →
        exec (.watchdogKick init data) s = .next (applyAll s [updRst (fun r => { r with wdStart := s.dyn.us })])) ∧
      (data.fld 15 0 ≠ 0xC0DE → exec (.watchdogKick init data) s = .next s)) ∧
    (wdCounts s = true →
      ∃ t, exec .watchdogExpiry s = .next t ∧ t.dyn.rst.raised = s.dyn.rst.raised ++ [⟨.warm, 2, 0⟩] ∧
        sameRegsBut (fun _ => False) s t ∧ sameMem s t) ∧
    (accReady s init Reg.RST_PAD = true → data.bit 0 = true →
      ∃ t, exec (.padRelease init data) s = .next t ∧ t.bit Reg.RST_PAD 1 = false ∧ t.dyn.rst.padHeld = [] ∧
        sameRegsBut (fun a => a = Reg.RST_PAD) s t ∧ sameMem s t) ∧
    (accReady s init Reg.RST_CORE_GO = true →
      ∃ t, exec (.coreGo init data) s = .next t ∧ sameRegsBut (fun _ => False) s t ∧ sameMem s t ∧
        (∀ c : Fin 4, t.dyn.rst.cores.getD c.val .waiting =
          if c.val ≠ 0 ∧ data.bit c.val = true ∧ s.dyn.rst.cores.getD c.val .waiting = .waiting ∧ s.up (15 + c.val) = true
          then .running else s.dyn.rst.cores.getD c.val .waiting))

/-- R406-R408: the boot ROM trains memory unless it is trained, and starts the image of the first slot that passes the check, the
other one where it does not; an image from the UART that passes starts, one that does not halts MC0 with FAULT_N. R305:
Firmware Commit with CA 0 stores the image downloaded where it passes, and refuses it where it does not; an activation stops
fetching, and goes on once nothing is in flight. Table 10.2: a part of an image is kept until the commit. -/
def Obligations.BootAndFirmware : Prop :=
  ∀ (trained : BitVec 4) (image : List Byte) (list : Option (List Byte)) (cmd : CmdRef) (c : HCmd) (l : Link) (k : Nat) (s : State),
    (s.dyn.rst.bootDue = true → s.up 15 = true → s.up 19 = true → s.up 20 = true → s.dyn.cch.ready = true →
        s.dyn.rst.bootMode = 0 → s.fld Reg.MEM_TRAIN_STAT 7 4 = 0xF →
      k = slotFirst s →
      exec (.bootRomRun trained) s = .next (applyAll s (seqs [fun _ => [updRst (fun r => { r with bootDue := false })], skip,
        fun a => if imgOk s (slotImage s k) then seqs [bootCopy (slotImage s k), bootGo k] a
          else seqs [bootCopy (slotImage s k), fun b =>
            if imgOk b (slotImage b (3 - k)) then seqs [bootCopy (slotImage b (3 - k)), bootGo (3 - k)] b
            else seqs [bootCopy (slotImage b (3 - k)), bootFail] b] a] s))) ∧
    (s.dyn.rst.uartWait = true → s.up 15 = true → s.dyn.cch.ready = true →
      exec (.bootUartImage image) s = .next (applyAll s (if imgOk s image then
        seqs [bootCopy (image.take (512 + imgLen image)), bootGo 3] s else bootHalt s)) ∧
      (imgHead s image = false →
        ∃ t, exec (.bootUartImage image) s = .next t ∧ t.dyn.rst.faultN = true ∧ t.dyn.rst.uartWait = false ∧
          t.dyn.rst.cores = setAt s.dyn.rst.cores 0 .halted ∧ sameRegsBut (fun _ => False) s t ∧ sameMem s t)) ∧
    (cmdReady s cmd true 0x10 c = true → s.up 19 = true → fwSlot s c ≤ 2 → s.dyn.rst.norMib ≠ 0 →
      ((c.cdw 10).fld 5 3 = 0 →
        exec (.firmwareCommit cmd) s = .next (applyAll s (if imgOk s (downloaded s) then
          seqs [slotStore (fwSlot s c) (downloaded s), skip, finish c okCpl] s else finish c (status 1 7) s))) ∧
      ((c.cdw 10).fld 5 3 = 3 → s.cmdBy cmd (fun c => c.done.isNone && c.work != .idle) = none →
        exec (.firmwareActivate cmd) s = .next (applyAllP s (lift (if imgOk s (slotImage s (fwSlot s c)) then seqs [
          fun _ => [updHq (fun h => { h with hold := true }), updCmd c.no (fun x => { x with work := .fw (fwSlot s c) 1 })],
          raiseAll (aecBit 9) (eventDw 2 1 3) true] else finish c (status 1 7)) s)))) ∧
    (∀ slot, s.cmdBy cmd (fun c => c.done.isNone && c.work != .idle) = some c → c.work = .fw slot 2 → s.up 15 = true →
      s.dyn.rst.cores.getD 0 .waiting = .running →
      exec (.firmwareActivate cmd) s = .next (applyAllP s (lift (seqs [fun _ => [updHq (fun h => { h with hold := false })],
        finish c okCpl]) s))) ∧
    (∀ n, cmdReady s cmd true 0x11 c = true → n = 4 * ((c.cdw 10).toNat + 1) → 4 * (c.cdw 11).toNat + n ≤ 0x800000 →
      s.link? c.link = some l → ∀ ps, dptrWalk l c n list = .inr ps →
      exec (.firmwareImageDownload ⟨cmd, list⟩ (some image)) s = .next (applyAll s (seqs [getHost l ps,
        seqs [fun _ => [updLog (fun l => { l with image := (4 * (c.cdw 11).toNat, fit n image) :: l.image })], finish c okCpl]] s)))

/-! Power, heat, the enclosure and flash (14, 15). -/

/-- R431, R434: a start request that reaches Breakwater is granted or queued; the hold that ends first returns its tokens; a
software request with a legal class and none in progress is pending and arbitrated, one while another is in progress sets
SW_BUSY alone. R435: the stagger's end lets spin requests be granted. Table 14.12: a write of BW_MAXWAIT clears it. R412,
R416: a conversion reads every sensor, checks each and its neighbours, and compares levels, host thresholds and the trip; a
good head-region frame gives its sensor the reading, and a sensor whose frames stop is broken. R419: the grace time's end
begins enforcement. R423: a sensor at 125 °C or above beaches the device, with the sensor and its reading in TRIP_LATCH. R424:
the writer then writes the trip record where the slot it was given is erased and the record reads back, and ends with an error
where it is not; NOR driving a write to space 5 has altered gives free bytes (R533). R314: an idle time-out of the autonomous
transitions, with no I/O command at hand, enters the state its entry names. -/
def Obligations.StartsAndHeat : Prop :=
  (∀ (init : Initiator) (cls : StartClass) (idx : Fin 64) (rail : Fin 4) (data : Word) (s : State),
      (s.up 3 = true → s.dyn.pwr.queue.any (fun q => !q.sw && q.cls == cls.idx && q.idx == idx.val) = false →
        exec (.bwRequest cls idx) s =
          .next (applyAll s (seqs [fun _ => [bwRaise cls.idx idx.val], bwArrive cls.idx idx.val false] s))) ∧
      (∀ h, bwFirstHold s rail.val = some h → s.up 3 = true →
        exec (.bwHoldEnd rail) s =
          .next (applyAll s (seqs [fun _ => [updPwr (fun p => { p with holds := p.holds.erase h })], bwRun none] s))) ∧
      (accReady s init Reg.BW_SWREQ = true → data.fld 2 0 ≤ 4 → s.bit Reg.BW_SWSTAT 0 = false →
        exec (.bwSwreqWrite init data) s =
          .next (applyAll s (seqs [fun _ => [.fld Reg.BW_SWSTAT 1 0 1], bwArrive (data.fld 2 0) (data.fld 15 8) true] s))) ∧
      (accReady s init Reg.BW_SWREQ = true → data.fld 2 0 ≤ 4 → s.bit Reg.BW_SWSTAT 0 = true →
        ∃ t, exec (.bwSwreqWrite init data) s = .next t ∧ t.bit Reg.BW_STAT 1 = true ∧
          sameRegsBut (fun a => a = Reg.BW_STAT) s t ∧ sameMem s t ∧ t.dyn = s.dyn) ∧
      (s.up 3 = true →
        exec .spinStaggerExpiry s = .next (applyAll s (seqs [fun _ => [updPwr (fun p => { p with
          stagOk := true, queue := p.queue.map (fun q => { q with stag := false }) })], bwRun none] s))) ∧
      (accReady s init Reg.BW_MAXWAIT = true →
        ∃ t, exec (.bwMaxwaitWrite init data) s = .next t ∧ t.reg Reg.BW_MAXWAIT = 0 ∧
          sameRegsBut (fun a => a = Reg.BW_MAXWAIT) s t ∧ sameMem s t ∧ t.dyn = s.dyn)) ∧
  (∀ (act : Fin 4) (value : BitVec 16) (convs : List Conv) (s : State), s.up 2 = true →
      (exec (.thermalConversion convs) s = .next (applyAll s (seqs [
        each ((List.range convs.length).zip convs) (fun p s =>
          if p.1 < 24 || (p.1 < 26 && sensCounted s (convSens p.1)) then convert (convSens p.1) p.2 s else []),
        each (List.range 24) nbrCheck, thmHot, thmLevels, thmHost,
        fun u => match tripSens u with
          | some i => tripNow i (s.fld Reg.THM_STAT 15 14) u
          | none => []] s))) ∧
      (hlUp s act.val = true → s.bit (Reg.HL_CTL act.val) 1 = true →
        exec (.msTempFrame act value true) s =
          .next (applyAll s (seqs [putSens (24 + act.val) (sgn 16 value.toNat), headSample act.val] s)) ∧
        exec (.headSensorTimeout act) s =
          .next (applyAll s (seqs [breakSens (24 + act.val), putSens (24 + act.val) 0, headSample act.val] s))) ∧
      (s.bit Reg.THM_STAT 10 = true →
        ∃ t, exec .graceExpiry s = .next t ∧ t.bit Reg.THM_STAT 11 = true ∧ t.bit Reg.THM_STAT 10 = false ∧
          t.bit Reg.THM_STAT 4 = true ∧ (s.up 100 = true → t.bit Reg.SHL_CTL 1 = true) ∧
          sameRegsBut (fun a => a = Reg.THM_STAT ∨ a = Reg.THM_ENF_CNT ∨ a = Reg.SHL_CTL) s t ∧ sameMem s t ∧ t.dyn = s.dyn)) ∧
  (∀ (i lvl : Nat) (suspended : Bool) (s : State),
      (applyAll s (tripNow i lvl s)).dyn.rst.beached = true ∧
      (s.dyn.rst.beached = true → s.dyn.aon.tripDue = true → s.dyn.aon.norOp = none → s.dyn.aon.tripNext.bit 31 = true →
        (norPass s (s.norBytes (s.dyn.aon.tripNext.fld 27 5 * 32) 32)).any (fun b => b != 0xFF) = false →
        exec (.tripRecordWrite .none true suspended) s = .next (applyAll s [.draw, .draw,
          .nor (s.dyn.aon.tripNext.fld 27 5 * 32) (norPass (applyEff s .draw) (tripRecord s 0)), updAon (fun a => { a with tripStat := 1, tripDue := false })])) ∧
      (s.dyn.rst.beached = true → s.dyn.aon.tripDue = true → s.dyn.aon.norOp = none → s.dyn.aon.tripNext.bit 31 = true →
        (norPass s (s.norBytes (s.dyn.aon.tripNext.fld 27 5 * 32) 32)).any (fun b => b != 0xFF) = true →
        exec (.tripRecordWrite .none true suspended) s =
          .next (applyAll s [.draw, updAon (fun a => { a with tripStat := 3, tripDue := false })])) ∧
      (∀ itps itpt, s.dyn.zn.apst[s.dyn.pwr.ps]? = some (itps, itpt) → s.up 19 = true → s.dyn.zn.apste = true → itpt ≠ 0 →
        itps ≤ 5 → ioBusy s = false → exec .apstIdleExpiry s = .next (applyAll s (enterPs itps s))))

/-- R440-R447: what the I3C target answers and keeps: an address at ENTDAA, identification and status by its address, lengths of
at most 16 bytes, Hot-Join enabled and disabled, private reads and writes, a NACK to what it does not support; with the lease
lapsed the address is dropped. R451-R453: an NVS command with a legal range starts; program clears bits and sets none, an
erase sets every bit of its block; one that is refused reports its cause of Table 15.4, and one while another runs cause 5. At
its end it reports DONE. R459: a commit of TIM_HOST sets the host time. -/
def Obligations.EnclosureNvsAndTime : Prop :=
  (∀ (addr : BitVec 7) (events code : BitVec 8) (len : BitVec 16) (bytes : List Byte) (b : Byte) (s : State), i3cUp s = true →
      (hasDa s = false →
        ∃ t, exec (.entdaa addr) s = .next t ∧ hasDa t = true ∧ daOf t = addr.toNat ∧ t.dyn.mgt.renew = s.dyn.us ∧
          t.dyn.mgt.hjDue = false ∧ t.out = .i3c true (beBytes 6 (provId s) ++ [0x08, 0x00]) :: s.out ∧
          sameRegsBut (fun a => a = Reg.MGT_STAT) s t ∧ sameMem s t) ∧
      (hasDa s = true →
        (∃ t, exec .rstdaa s = .next t ∧ hasDa t = false ∧ t.dyn = s.dyn ∧ sameRegsBut (fun a => a = Reg.MGT_STAT) s t) ∧
        exec .getpid s = .next (applyAll s [.emit (.i3c true (beBytes 6 (provId s)))]) ∧
        exec .getbcr s = .next (applyAll s [.emit (.i3c true [0x08])]) ∧
        exec .getdcr s = .next (applyAll s [.emit (.i3c true [0x00])]) ∧
        exec .getstatus s = .next (applyAll s [.emit (.i3c true (leBytes 2 s.fresh)), .draw]) ∧
        exec .getmwl s = .next (applyAll s [.emit (.i3c true (beBytes 2 s.dyn.mgt.mwl))]) ∧
        exec .getmrl s = .next (applyAll s [.emit (.i3c true (beBytes 2 s.dyn.mgt.mrl))])) ∧
      (exec (.setmwl len) s = .next (applyAll s [.emit (.i3c true []), updMgt (fun m => { m with mwl := min 16 len.toNat })]) ∧
        exec (.setmrl len) s = .next (applyAll s [.emit (.i3c true []), updMgt (fun m => { m with mrl := min 16 len.toNat })])) ∧
      (events.getLsbD 3 = true →
        exec (.enec events) s = .next (applyAll s [.emit (.i3c true []), updMgt (fun m => { m with hjOff := false })]) ∧
        exec (.disec events) s = .next (applyAll s [.emit (.i3c true []), updMgt (fun m => { m with hjOff := true })])) ∧
      exec (.unsupportedCcc code) s = .next (applyAll s [.emit (.i3c false [])]) ∧
      (hasDa s = true → daOf s = addr.toNat →
        (leaseS s = 0 → exec (.privateWrite addr (b :: bytes)) s =
          .next (applyAll s [.emit (.i3c true []), updMgt (fun m => { m with index := b.toNat })])) ∧
        (leaseS s ≠ 0 → exec (.privateWrite addr (b :: bytes)) s = .next (applyAll s [.emit (.i3c true []),
          .cnt Reg.MGT_RENEW_CNT 31 0 1, updMgt (fun m => { m with renew := s.dyn.us }),
          updMgt (fun m => { m with index := b.toNat })])) ∧
        exec (.privateRead addr) s = .next (applyAll s [.emit (.i3c true ((privBytes s).take s.dyn.mgt.mrl))])) ∧
      (hasDa s = true → leaseS s ≠ 0 →
        ∃ t, exec .leaseLapse s = .next t ∧ hasDa t = false ∧ t.dyn.mgt.hjDue = true ∧ t.bit Reg.MGT_STAT 2 = true ∧
          sameRegsBut (fun a => a = Reg.MGT_STAT) s t ∧ sameMem s t) ∧
      (hasDa s = false → s.dyn.mgt.hjDue = true → s.dyn.mgt.hjOff = false → s.bit Reg.MGT_CTL 1 = true →
        exec .hotJoinRequest s = .next (applyAll s [.emit .hotJoin, .sq Reg.MGT_STAT 8, .cnt Reg.MGT_HJ_CNT 31 0 1]))) ∧
  (∀ (init : Initiator) (data lo : Word) (bs : List Byte) (s : State), accReady s init Reg.NVS_CMD = true →
      (s.bit Reg.NVS_STAT 15 = false →
        (nvsCause s 1 = none → data.fld 2 0 = 1 →
          ∃ t, exec (.nvsRead init data) s = .next t ∧ t.bit Reg.NVS_STAT 15 = true ∧ t.dyn.nvs.cmd = some (1, 0) ∧
            sameRegsBut (fun a => a = Reg.NVS_STAT) s t ∧ sameMem s t) ∧
        (nvsCause s 2 = none → data.fld 2 0 = 2 → reqReady s = true → reqRead s (nvsDram s) (nvsLen s) = some bs →
          exec (.nvsProgram init data) s = .next (applyAll s ([.upd (fun d => { d with aon := { d.aon with norOp := none } }), .draw, .draw,
            .nor (nvsAddr s) (norPass (applyEff s .draw) (norProgram s (nvsAddr s) bs)),
            .upd (fun d => { d with aon := { d.aon with norOp := some (2, nvsAddr s) } }),
            .cnt Reg.NVS_PROG_CNT 31 0 (nvsPages (nvsAddr s) (nvsLen s)), .fld Reg.NVS_STAT 15 15 1, .fld Reg.NVS_STAT 14 12 0,
            .upd (fun d => { d with nvs := { cmd := some (2, 0) } })] ++ reqReadEv false (nvsDram s) (nvsLen s) (s.fresh % 4) s))) ∧
        (nvsCause s 3 = none → data.fld 2 0 = 3 → s.wf = true →
          ∃ t, exec (.nvsErase4k init data) s = .next t ∧ t.dyn.nvs.cmd = some (3, 0) ∧
            t.norBytes (nvsAddr s / 4096 * 4096) 4096 = norPass s (List.replicate 4096 0xFF) ∧
            sameRegsBut (fun a => a = Reg.NVS_STAT ∨ a = Reg.NVS_ERASE_CNT) s t) ∧
        (nvsCause s 4 = none → data.fld 2 0 = 4 → s.wf = true →
          ∃ t, exec (.nvsErase64k init data) s = .next t ∧ t.dyn.nvs.cmd = some (4, 0) ∧
            (∀ a, (a < nvsAddr s / 65536 * 65536 ∨ nvsAddr s / 65536 * 65536 + 65536 ≤ a) →
              t.norByte a = s.norByte a) ∧
            sameRegsBut (fun a => a = Reg.NVS_STAT ∨ a = Reg.NVS_ERASE_CNT) s t) ∧
        (data.fld 2 0 = 0 ∨ 4 < data.fld 2 0 →
          ∃ t, exec (.nvsBadOp init data) s = .next t ∧ t.fld Reg.NVS_STAT 14 12 = 1 ∧ t.bit Reg.NVS_STAT 1 = true ∧
            sameRegsBut (fun a => a = Reg.NVS_STAT) s t ∧ sameMem s t ∧ t.dyn = s.dyn)) ∧
      (s.bit Reg.NVS_STAT 15 = true →
        ∃ t, exec (.nvsErase4k init data) s = .next t ∧ t.fld Reg.NVS_STAT 14 12 = 5 ∧
          sameRegsBut (fun a => a = Reg.NVS_STAT) s t ∧ sameMem s t ∧ t.dyn = s.dyn) ∧
      (∀ op, s.dyn.nvs.cmd = some (op, 0) → s.dyn.nvs.wait = false → s.up 19 = true → op ≠ 1 →
        ∃ t, exec (.nvsCommandDone true) s = .next t ∧ t.bit Reg.NVS_STAT 15 = false ∧ t.bit Reg.NVS_STAT 0 = true ∧
          t.dyn.nvs.cmd = none ∧ t.dyn.aon.norOp = none ∧ sameRegsBut (fun a => a = Reg.NVS_STAT) s t ∧ sameMem s t) ∧
      (accReady s init Reg.TIM_HOST_HI = true → staged s init Reg.TIM_HOST_LO = some lo →
        exec (.timHostCommit init data) s =
          .next (applyAll s [timeCommit (lo.toNat + data.fld 15 0 * 2 ^ 32), unstage init])))

/-! Recorder, test access, pads (16, 17). -/

/-- R467, R469, Table 16.3: Arm starts recording in IDLE and starts it again in ARMED, with TICK at 0, and is ignored while the
recorder is TRIGGERED or HELD. A trigger source in TRIG_MASK, of an armed actuator where it has one, takes ARMED to TRIGGERED
and records its source, actuator and TICK, with POST records to come; one while TRIGGERED or HELD is counted in TRIG_LOST; one
that is masked out, or in IDLE, changes nothing. R468: once POST records have been written the recorder enters HELD. Stop
takes ARMED to HELD with source STOP and TRIGGERED to HELD at once, and is else ignored; Release goes to IDLE and lets the
held slots go. R470: the status page of Recorder Control answers page 0. R472: GO starts a replay, and each tick runs a record
and compares it. -/
def Obligations.RecorderControl : Prop :=
  ∀ (init : Initiator) (cmd : CmdRef) (src : Fin 7) (act : Fin 4) (data : Word) (list : Option (List Byte)) (c : HCmd) (cur srv prf : Option Nat) (s : State),
    s.up 8 = true →
    (wrkState s ≤ 1 →
      ∃ t, exec (.recorderArm none) s = .next t ∧ wrkState t = 1 ∧ t.dyn.wrk.mask = s.fld Reg.WRK_CTL 7 4 ∧
        t.dyn.wrk.counts = List.replicate 9 0 ∧ t.dyn.wrk.tick = List.replicate 4 0 ∧
        sameRegsBut (fun a => a = Reg.WRK_TRIG) s t ∧ sameMem s t ∧ t.out = s.out) ∧
    (2 ≤ wrkState s → exec (.recorderArm none) s = .next s) ∧
    (s.bit Reg.WRK_CTL (8 + src.val) = true → (4 < src.val ∨ s.dyn.wrk.mask.testBit act.val = true) →
      (wrkState s = 1 →
        ∃ t, exec (.recorderTrigger src act none) s = .next t ∧ wrkState t = 2 ∧ t.fld Reg.WRK_TRIG 4 2 = src.val ∧
          t.fld Reg.WRK_TRIG 9 8 = act.val ∧ t.reg Reg.WRK_TRIG_TICK = w32 (s.dyn.wrk.tick.getD act.val 0) ∧
          t.bit Reg.WRK_STAT 0 = true ∧ t.dyn.wrk.post = s.fld Reg.WRK_POST 23 0 ∧ t.dyn.wrk.trigTime = s.dyn.us ∧
          t.dyn.wrk.trigSrc = some src.val ∧
          sameRegsBut (fun a => a = Reg.WRK_TRIG ∨ a = Reg.WRK_TRIG_TICK ∨ a = Reg.WRK_STAT) s t ∧ sameMem s t ∧ t.out = s.out) ∧
      (2 ≤ wrkState s →
        exec (.recorderTrigger src act none) s = .next (applyAll s [updWrk (fun w => { w with lost := w.lost + 1 })]))) ∧
    (wrkState s = 0 ∨ s.bit Reg.WRK_CTL (8 + src.val) = false ∨ (src.val ≤ 4 ∧ s.dyn.wrk.mask.testBit act.val = false) →
      exec (.recorderTrigger src act none) s = .next s) ∧
    (wrkState s = 1 → exec (.recorderStop none) s = .next (applyAll s (enterHeld (some 7) s))) ∧
    (wrkState s = 2 →
      exec (.recorderStop none) s = .next (applyAll s (enterHeld none s)) ∧
      (s.dyn.wrk.post = 0 → exec .recorderHeld s = .next (applyAll s (enterHeld none s)))) ∧
    (wrkState s = 0 ∨ wrkState s = 3 → exec (.recorderStop none) s = .next s) ∧
    (wrkState s ≠ 0 →
      ∃ t, exec (.recorderRelease none) s = .next t ∧ wrkState t = 0 ∧ t.dyn.wrk.held = List.replicate 16 0 ∧
        sameRegsBut (fun a => a = Reg.WRK_TRIG) s t ∧ sameMem s t ∧ t.out = s.out) ∧
    (cmdReady s cmd true 0xC2 c = true → s.up 19 = true → (c.cdw 10).fld 3 0 = 0 → (c.cdw 12).toNat = 0 →
      exec (.recorderStatus ⟨cmd, list⟩) s = .next (applyAll s (.draw :: reply c list (recStatus s) (applyEff s .draw)))) ∧
    (accReady s init Reg.WRK_RP_CTL = true → s.bit Reg.WRK_RP_CTL 1 = false → s.reg Reg.WRK_RP_CNT ≠ 0 →
      ∃ t, exec (.replayGo init data) s = .next t ∧ t.bit Reg.WRK_RP_CTL 1 = true ∧ t.reg Reg.WRK_RP_STAT = 0 ∧
        t.reg Reg.WRK_RP_POS = 0 ∧ t.dyn.wrk.replay = some 0 ∧
        sameRegsBut (fun a => a = Reg.WRK_RP_CTL ∨ a = Reg.WRK_RP_STAT ∨ a = Reg.WRK_RP_POS) s t ∧ sameMem s t) ∧
    (∀ i a, a = s.fld Reg.WRK_RP_CTL 5 4 → s.dyn.wrk.replay = some i → hlUp s a = true → hlReplay s a = true → reqReady s = true →
      ((leAt (rpRecord s i) 4 1).testBit 4 = false ∨ i = 0) →
      exec (.replayTick cur srv prf) s = .next (applyAll s (seqs [rpTokens a i (rpRecord s i) cur srv prf, fun s' =>
        if rpDiff s' a (rpRecord s i) ≠ 0 then rpEnd 2 (rpDiff s' a (rpRecord s i)) i s'
        else if i + 1 = (s'.reg Reg.WRK_RP_CNT).toNat then rpEnd 1 0 (i + 1) s'
        else [.reg Reg.WRK_RP_POS (w32 (i + 1)), updWrk (fun w => { w with replay := some (i + 1) })]] s)))

/-- R495: a falling edge of MPD_FAULT_N while the pads' registers answer sets MPD_FAULT in PAD_STAT; no other register, memory or
output changes, and of the rest of the state only the record that the ball has fallen. -/
def Obligations.MotorFaultOnlyRecorded : Prop :=
  ∀ s : State, s.up 1 = true →
    ∃ t, exec .mpdFault s = .next t ∧ t.bit Reg.PAD_STAT 0 = true ∧
      t.dyn = { s.dyn with mpd := { s.dyn.mpd with low := true } } ∧
      sameRegsBut (fun a => a = Reg.PAD_STAT) s t ∧ sameMem s t ∧ t.out = s.out

/-- R476, R477: each TAP instruction selects its register and shifts it, EXTEST brings the gates that are high to their inactive
level and holds them there; TRST_N low selects IDCODE. R478: DBG_ACCESS answers the access before and performs the next as
initiator 6; with domain 7 in reset it does not. R479: the debug port halts cores while HALT_EN is 1. R493: a write of MPD_CMD
while the port runs sends its frame; one while a frame is in progress is discarded with MPD_BUSY; the end of a read leaves its
data. R495: a fall of MPD_FAULT_N is an event. R490: a write of PAD_FE takes its value. -/
def Obligations.DebugMotorAndPads : Prop :=
  (∀ (shift : List Bool) (code : BitVec 8) (op : BitVec 2) (addr : BitVec 22) (data : Word) (s : State), tapUp s = true →
      exec .extest s = .next (applyAll s (updTap (fun t => { t with ir := 0x00 }) ::
        (if s.dyn.tap.ir = 0x00 then [] else (highGates s).map (fun p => .emit (.gate p.1 p.2 false 0))))) ∧
      (∀ a j, extest s = true → ballWg s a j = false) ∧
      exec (.samplePreload shift) s = .next (applyAll s ([.emit (.tdo (bitsLE shift.length s.fresh)), .draw,
        updTap (fun t => { t with cells := shift })] ++ tapSelect 0x01 s)) ∧
      exec .idcode s = .next (applyAll s (tapSelect 0x02 s ++ [.emit (.tdo (bitsLE 32 0x16440B47))])) ∧
      (code ≠ 0x00 → code ≠ 0x01 → code ≠ 0x02 → code ≠ 0x20 →
        exec (.bypass code) s = .next (applyAll s (tapSelect code.toNat s ++ [.emit (.tdo [false])]))) ∧
      (∃ t, exec .trstNAssert s = .next t ∧ t.dyn = { s.dyn with tap := {} } ∧ t.dyn.tap.ir = 0x02 ∧
        sameRegsBut (fun _ => False) s t ∧ sameMem s t) ∧
      (op = 1 → s.up 7 = true → initiatorOk s .jtag = true →
        exec (.dbgAccess op addr data) s = .next (applyAllP s (seqsP [
          lift (tapSelect 0x20), fun s => [.eff (.emit (.tdo (dbgCapture s))), .eff .draw],
          lift (busReadWith .jtag (addr.toNat * 4) 4 (fun v => fun _ => [updTap (fun t => { t with data := w32 v, stat := 0 })]))] s))) ∧
      (op = 2 → s.up 7 = false →
        exec (.dbgAccess op addr data) s = .next (applyAllP s (seqsP [
          lift (tapSelect 0x20), fun s => [.eff (.emit (.tdo (dbgCapture s))), .eff .draw],
          fun _ => [.eff (updTap (fun t => { t with stat := 1 }))]] s))) ∧
      (accReady s .jtag Reg.DBG_CORE = true → s.bit Reg.SYS_DBG_EN 1 = true →
        ∃ t, exec (.dbgCoreHaltWrite .jtag data) s = .next t ∧ t.fld Reg.DBG_CORE 3 0 = data.fld 3 0 ∧
          (∀ c : Fin 4, data.bit c.val = true → s.dyn.rst.cores.getD c.val .waiting = .running →
            t.dyn.rst.cores.getD c.val .waiting = .halted) ∧
          sameRegsBut (fun a => a = Reg.DBG_CORE) s t ∧ sameMem s t)) ∧
  (∀ (init : Initiator) (data c : Word) (rdata : BitVec 16) (crcOk : Bool) (s : State),
      (accReady s init Reg.MPD_CMD = true →
        (s.dyn.mpd.cmd = none → s.bit Reg.MPD_CTL 8 = true → exec (.mpdCmdWrite init data) s =
          .next (applyAll s [.emit (.motor (mpdFrame data)), updMpd (fun m => { m with cmd := some data })])) ∧
        (s.dyn.mpd.cmd = some c →
          ∃ t, exec (.mpdCmdWrite init data) s = .next t ∧ t.bit Reg.PAD_STAT 2 = true ∧ t.dyn = s.dyn ∧ t.out = s.out ∧
            sameRegsBut (fun a => a = Reg.PAD_STAT) s t ∧ sameMem s t)) ∧
      (s.dyn.mpd.cmd = some c → s.up 1 = true →
        ∃ t, exec (.mpdDone rdata crcOk) s = .next t ∧ t.bit Reg.PAD_STAT 1 = true ∧ t.dyn.mpd.cmd = none ∧
          (c.bit 31 = true → t.fld Reg.MPD_RDATA 15 0 = rdata.toNat ∧ t.bit Reg.MPD_RDATA 16 = true ∧
            t.bit Reg.MPD_RDATA 17 = !crcOk) ∧
          (c.bit 31 = false → t.reg Reg.MPD_RDATA = s.reg Reg.MPD_RDATA) ∧
          sameRegsBut (fun a => a = Reg.PAD_STAT ∨ a = Reg.MPD_RDATA) s t ∧ sameMem s t) ∧
      (s.up 1 = true →
        ∃ t, exec .mpdFault s = .next t ∧ t.bit Reg.PAD_STAT 0 = true ∧ t.dyn.mpd.low = true ∧
          sameRegsBut (fun a => a = Reg.PAD_STAT) s t ∧ sameMem s t) ∧
      (accReady s init Reg.PAD_FE = true →
        ∃ t, exec (.padFeWrite init data) s = .next t ∧
          t.reg Reg.PAD_FE = (s.reg Reg.PAD_FE).merge (liveMask Reg.PAD_FE) data ∧
          sameRegsBut (fun a => a = Reg.PAD_FE) s t ∧ sameMem s t ∧ t.dyn = s.dyn))
end

