-- ==== Sys2Proof/Laws/State.lean ====
section
/-! SUPPORT. What each primitive effect leaves in each field of State, one lemma per field per effect (each true by computation once the
state is taken apart, so that a rewrite leaves the kernel no comparison of whole states), and how lists of effects and actions
compose. -/

namespace Sys2Proof.Machine

@[simp] theorem applyEff_reg_dram (s : State) (a : Nat) (v : Word) : (applyEff s (.reg a v)).dram = s.dram := by cases s; rfl
@[simp] theorem applyEff_reg_fills (s : State) (a : Nat) (v : Word) : (applyEff s (.reg a v)).fills = s.fills := by cases s; rfl
@[simp] theorem applyEff_reg_nor (s : State) (a : Nat) (v : Word) : (applyEff s (.reg a v)).nor = s.nor := by cases s; rfl
@[simp] theorem applyEff_reg_dyn (s : State) (a : Nat) (v : Word) : (applyEff s (.reg a v)).dyn = s.dyn := by cases s; rfl
@[simp] theorem applyEff_reg_out (s : State) (a : Nat) (v : Word) : (applyEff s (.reg a v)).out = s.out := by cases s; rfl
@[simp] theorem applyEff_reg_free (s : State) (a : Nat) (v : Word) : (applyEff s (.reg a v)).free = s.free := by cases s; rfl
@[simp] theorem applyEff_reg_pending (s : State) (a : Nat) (v : Word) : (applyEff s (.reg a v)).pending = s.pending := by cases s; rfl
@[simp] theorem applyEff_fld_dram (s : State) (a hi lo v : Nat) : (applyEff s (.fld a hi lo v)).dram = s.dram := by cases s; rfl
@[simp] theorem applyEff_fld_fills (s : State) (a hi lo v : Nat) : (applyEff s (.fld a hi lo v)).fills = s.fills := by cases s; rfl
@[simp] theorem applyEff_fld_nor (s : State) (a hi lo v : Nat) : (applyEff s (.fld a hi lo v)).nor = s.nor := by cases s; rfl
@[simp] theorem applyEff_fld_dyn (s : State) (a hi lo v : Nat) : (applyEff s (.fld a hi lo v)).dyn = s.dyn := by cases s; rfl
@[simp] theorem applyEff_fld_out (s : State) (a hi lo v : Nat) : (applyEff s (.fld a hi lo v)).out = s.out := by cases s; rfl
@[simp] theorem applyEff_fld_free (s : State) (a hi lo v : Nat) : (applyEff s (.fld a hi lo v)).free = s.free := by cases s; rfl
@[simp] theorem applyEff_fld_pending (s : State) (a hi lo v : Nat) : (applyEff s (.fld a hi lo v)).pending = s.pending := by cases s; rfl
@[simp] theorem applyEff_sq_dram (s : State) (a : Nat) (b : Word) : (applyEff s (.sq a b)).dram = s.dram := by cases s; rfl
@[simp] theorem applyEff_sq_fills (s : State) (a : Nat) (b : Word) : (applyEff s (.sq a b)).fills = s.fills := by cases s; rfl
@[simp] theorem applyEff_sq_nor (s : State) (a : Nat) (b : Word) : (applyEff s (.sq a b)).nor = s.nor := by cases s; rfl
@[simp] theorem applyEff_sq_dyn (s : State) (a : Nat) (b : Word) : (applyEff s (.sq a b)).dyn = s.dyn := by cases s; rfl
@[simp] theorem applyEff_sq_out (s : State) (a : Nat) (b : Word) : (applyEff s (.sq a b)).out = s.out := by cases s; rfl
@[simp] theorem applyEff_sq_free (s : State) (a : Nat) (b : Word) : (applyEff s (.sq a b)).free = s.free := by cases s; rfl
@[simp] theorem applyEff_sq_pending (s : State) (a : Nat) (b : Word) : (applyEff s (.sq a b)).pending = s.pending := by cases s; rfl
@[simp] theorem applyEff_cnt_dram (s : State) (a hi lo n : Nat) : (applyEff s (.cnt a hi lo n)).dram = s.dram := by cases s; rfl
@[simp] theorem applyEff_cnt_fills (s : State) (a hi lo n : Nat) : (applyEff s (.cnt a hi lo n)).fills = s.fills := by cases s; rfl
@[simp] theorem applyEff_cnt_nor (s : State) (a hi lo n : Nat) : (applyEff s (.cnt a hi lo n)).nor = s.nor := by cases s; rfl
@[simp] theorem applyEff_cnt_dyn (s : State) (a hi lo n : Nat) : (applyEff s (.cnt a hi lo n)).dyn = s.dyn := by cases s; rfl
@[simp] theorem applyEff_cnt_out (s : State) (a hi lo n : Nat) : (applyEff s (.cnt a hi lo n)).out = s.out := by cases s; rfl
@[simp] theorem applyEff_cnt_free (s : State) (a hi lo n : Nat) : (applyEff s (.cnt a hi lo n)).free = s.free := by cases s; rfl
@[simp] theorem applyEff_cnt_pending (s : State) (a hi lo n : Nat) : (applyEff s (.cnt a hi lo n)).pending = s.pending := by cases s; rfl
@[simp] theorem applyEff_dram_regs (s : State) (a : Nat) (bs : List Byte) : (applyEff s (.dram a bs)).regs = s.regs := by cases s; rfl
@[simp] theorem applyEff_dram_dram (s : State) (a : Nat) (bs : List Byte) : (applyEff s (.dram a bs)).dram = cellsPut (fillByte s.fills) s.dram a bs := by cases s; rfl
@[simp] theorem applyEff_dram_fills (s : State) (a : Nat) (bs : List Byte) : (applyEff s (.dram a bs)).fills = s.fills := by cases s; rfl
@[simp] theorem applyEff_dram_nor (s : State) (a : Nat) (bs : List Byte) : (applyEff s (.dram a bs)).nor = s.nor := by cases s; rfl
@[simp] theorem applyEff_dram_dyn (s : State) (a : Nat) (bs : List Byte) : (applyEff s (.dram a bs)).dyn = s.dyn := by cases s; rfl
@[simp] theorem applyEff_dram_out (s : State) (a : Nat) (bs : List Byte) : (applyEff s (.dram a bs)).out = s.out := by cases s; rfl
@[simp] theorem applyEff_dram_free (s : State) (a : Nat) (bs : List Byte) : (applyEff s (.dram a bs)).free = s.free := by cases s; rfl
@[simp] theorem applyEff_dram_pending (s : State) (a : Nat) (bs : List Byte) : (applyEff s (.dram a bs)).pending = s.pending := by cases s; rfl
@[simp] theorem applyEff_fill_regs (s : State) (b n p : Nat) : (applyEff s (.fill b n p)).regs = s.regs := by cases s; rfl
@[simp] theorem applyEff_fill_dram (s : State) (b n p : Nat) : (applyEff s (.fill b n p)).dram = s.dram.filter (fun c => c.1 < b || b + n ≤ c.1) := by cases s; rfl
@[simp] theorem applyEff_fill_fills (s : State) (b n p : Nat) : (applyEff s (.fill b n p)).fills = (b, n, p) :: s.fills := by cases s; rfl
@[simp] theorem applyEff_fill_nor (s : State) (b n p : Nat) : (applyEff s (.fill b n p)).nor = s.nor := by cases s; rfl
@[simp] theorem applyEff_fill_dyn (s : State) (b n p : Nat) : (applyEff s (.fill b n p)).dyn = s.dyn := by cases s; rfl
@[simp] theorem applyEff_fill_out (s : State) (b n p : Nat) : (applyEff s (.fill b n p)).out = s.out := by cases s; rfl
@[simp] theorem applyEff_fill_free (s : State) (b n p : Nat) : (applyEff s (.fill b n p)).free = s.free := by cases s; rfl
@[simp] theorem applyEff_fill_pending (s : State) (b n p : Nat) : (applyEff s (.fill b n p)).pending = s.pending := by cases s; rfl
@[simp] theorem applyEff_wipe_regs (s : State)  : (applyEff s (.wipe)).regs = s.regs := by cases s; rfl
@[simp] theorem applyEff_wipe_dram (s : State)  : (applyEff s (.wipe)).dram = [] := by cases s; rfl
@[simp] theorem applyEff_wipe_fills (s : State)  : (applyEff s (.wipe)).fills = [] := by cases s; rfl
@[simp] theorem applyEff_wipe_nor (s : State)  : (applyEff s (.wipe)).nor = s.nor := by cases s; rfl
@[simp] theorem applyEff_wipe_dyn (s : State)  : (applyEff s (.wipe)).dyn = s.dyn := by cases s; rfl
@[simp] theorem applyEff_wipe_out (s : State)  : (applyEff s (.wipe)).out = s.out := by cases s; rfl
@[simp] theorem applyEff_wipe_free (s : State)  : (applyEff s (.wipe)).free = s.free := by cases s; rfl
@[simp] theorem applyEff_wipe_pending (s : State)  : (applyEff s (.wipe)).pending = s.pending := by cases s; rfl
@[simp] theorem applyEff_nor_regs (s : State) (a : Nat) (bs : List Byte) : (applyEff s (.nor a bs)).regs = s.regs := by cases s; rfl
@[simp] theorem applyEff_nor_dram (s : State) (a : Nat) (bs : List Byte) : (applyEff s (.nor a bs)).dram = s.dram := by cases s; rfl
@[simp] theorem applyEff_nor_fills (s : State) (a : Nat) (bs : List Byte) : (applyEff s (.nor a bs)).fills = s.fills := by cases s; rfl
@[simp] theorem applyEff_nor_nor (s : State) (a : Nat) (bs : List Byte) : (applyEff s (.nor a bs)).nor = cellsPut norBg s.nor a bs := by cases s; rfl
@[simp] theorem applyEff_nor_dyn (s : State) (a : Nat) (bs : List Byte) : (applyEff s (.nor a bs)).dyn = s.dyn := by cases s; rfl
@[simp] theorem applyEff_nor_out (s : State) (a : Nat) (bs : List Byte) : (applyEff s (.nor a bs)).out = s.out := by cases s; rfl
@[simp] theorem applyEff_nor_free (s : State) (a : Nat) (bs : List Byte) : (applyEff s (.nor a bs)).free = s.free := by cases s; rfl
@[simp] theorem applyEff_nor_pending (s : State) (a : Nat) (bs : List Byte) : (applyEff s (.nor a bs)).pending = s.pending := by cases s; rfl
@[simp] theorem applyEff_emit_regs (s : State) (o : Output) : (applyEff s (.emit o)).regs = s.regs := by cases s; rfl
@[simp] theorem applyEff_emit_dram (s : State) (o : Output) : (applyEff s (.emit o)).dram = s.dram := by cases s; rfl
@[simp] theorem applyEff_emit_fills (s : State) (o : Output) : (applyEff s (.emit o)).fills = s.fills := by cases s; rfl
@[simp] theorem applyEff_emit_nor (s : State) (o : Output) : (applyEff s (.emit o)).nor = s.nor := by cases s; rfl
@[simp] theorem applyEff_emit_dyn (s : State) (o : Output) : (applyEff s (.emit o)).dyn = s.dyn := by cases s; rfl
@[simp] theorem applyEff_emit_out (s : State) (o : Output) : (applyEff s (.emit o)).out = o :: s.out := by cases s; rfl
@[simp] theorem applyEff_emit_free (s : State) (o : Output) : (applyEff s (.emit o)).free = s.free := by cases s; rfl
@[simp] theorem applyEff_emit_pending (s : State) (o : Output) : (applyEff s (.emit o)).pending = s.pending := by cases s; rfl
@[simp] theorem applyEff_upd_regs (s : State) (g : Dyn → Dyn) : (applyEff s (.upd g)).regs = s.regs := by cases s; rfl
@[simp] theorem applyEff_upd_dram (s : State) (g : Dyn → Dyn) : (applyEff s (.upd g)).dram = s.dram := by cases s; rfl
@[simp] theorem applyEff_upd_fills (s : State) (g : Dyn → Dyn) : (applyEff s (.upd g)).fills = s.fills := by cases s; rfl
@[simp] theorem applyEff_upd_nor (s : State) (g : Dyn → Dyn) : (applyEff s (.upd g)).nor = s.nor := by cases s; rfl
@[simp] theorem applyEff_upd_dyn (s : State) (g : Dyn → Dyn) : (applyEff s (.upd g)).dyn = g s.dyn := by cases s; rfl
@[simp] theorem applyEff_upd_out (s : State) (g : Dyn → Dyn) : (applyEff s (.upd g)).out = s.out := by cases s; rfl
@[simp] theorem applyEff_upd_free (s : State) (g : Dyn → Dyn) : (applyEff s (.upd g)).free = s.free := by cases s; rfl
@[simp] theorem applyEff_upd_pending (s : State) (g : Dyn → Dyn) : (applyEff s (.upd g)).pending = s.pending := by cases s; rfl
@[simp] theorem applyEff_draw_regs (s : State)  : (applyEff s (.draw)).regs = s.regs := by cases s; rfl
@[simp] theorem applyEff_draw_dram (s : State)  : (applyEff s (.draw)).dram = s.dram := by cases s; rfl
@[simp] theorem applyEff_draw_fills (s : State)  : (applyEff s (.draw)).fills = s.fills := by cases s; rfl
@[simp] theorem applyEff_draw_nor (s : State)  : (applyEff s (.draw)).nor = s.nor := by cases s; rfl
@[simp] theorem applyEff_draw_dyn (s : State)  : (applyEff s (.draw)).dyn = s.dyn := by cases s; rfl
@[simp] theorem applyEff_draw_out (s : State)  : (applyEff s (.draw)).out = s.out := by cases s; rfl
@[simp] theorem applyEff_draw_free (s : State)  : (applyEff s (.draw)).free = s.free + 1 := by cases s; rfl
@[simp] theorem applyEff_draw_pending (s : State)  : (applyEff s (.draw)).pending = s.pending := by cases s; rfl
@[simp] theorem putReg_dram (s : State) (a : Nat) (v : Word) : (s.putReg a v).dram = s.dram := by cases s; rfl
@[simp] theorem hwReg_dram (s : State) (a : Nat) (v : Word) : (s.hwReg a v).dram = s.dram := by cases s; rfl
@[simp] theorem putReg_fills (s : State) (a : Nat) (v : Word) : (s.putReg a v).fills = s.fills := by cases s; rfl
@[simp] theorem hwReg_fills (s : State) (a : Nat) (v : Word) : (s.hwReg a v).fills = s.fills := by cases s; rfl
@[simp] theorem putReg_nor (s : State) (a : Nat) (v : Word) : (s.putReg a v).nor = s.nor := by cases s; rfl
@[simp] theorem hwReg_nor (s : State) (a : Nat) (v : Word) : (s.hwReg a v).nor = s.nor := by cases s; rfl
@[simp] theorem putReg_dyn (s : State) (a : Nat) (v : Word) : (s.putReg a v).dyn = s.dyn := by cases s; rfl
@[simp] theorem hwReg_dyn (s : State) (a : Nat) (v : Word) : (s.hwReg a v).dyn = s.dyn := by cases s; rfl
@[simp] theorem putReg_out (s : State) (a : Nat) (v : Word) : (s.putReg a v).out = s.out := by cases s; rfl
@[simp] theorem hwReg_out (s : State) (a : Nat) (v : Word) : (s.hwReg a v).out = s.out := by cases s; rfl
@[simp] theorem putReg_free (s : State) (a : Nat) (v : Word) : (s.putReg a v).free = s.free := by cases s; rfl
@[simp] theorem hwReg_free (s : State) (a : Nat) (v : Word) : (s.hwReg a v).free = s.free := by cases s; rfl
@[simp] theorem putReg_pending (s : State) (a : Nat) (v : Word) : (s.putReg a v).pending = s.pending := by cases s; rfl
@[simp] theorem hwReg_pending (s : State) (a : Nat) (v : Word) : (s.hwReg a v).pending = s.pending := by cases s; rfl

/-! Reads of the memories. -/

@[simp] theorem dramByte_reg (s : State) (a : Nat) (v : Word) (i : Nat) : (applyEff s (.reg a v)).dramByte i = s.dramByte i := by cases s; rfl
@[simp] theorem dramByte_fld (s : State) (a hi lo v : Nat) (i : Nat) : (applyEff s (.fld a hi lo v)).dramByte i = s.dramByte i := by cases s; rfl
@[simp] theorem dramByte_sq (s : State) (a : Nat) (b : Word) (i : Nat) : (applyEff s (.sq a b)).dramByte i = s.dramByte i := by cases s; rfl
@[simp] theorem dramByte_cnt (s : State) (a hi lo n : Nat) (i : Nat) : (applyEff s (.cnt a hi lo n)).dramByte i = s.dramByte i := by cases s; rfl
@[simp] theorem dramByte_nor (s : State) (a : Nat) (bs : List Byte) (i : Nat) : (applyEff s (.nor a bs)).dramByte i = s.dramByte i := by cases s; rfl
@[simp] theorem dramByte_emit (s : State) (o : Output) (i : Nat) : (applyEff s (.emit o)).dramByte i = s.dramByte i := by cases s; rfl
@[simp] theorem dramByte_upd (s : State) (g : Dyn → Dyn) (i : Nat) : (applyEff s (.upd g)).dramByte i = s.dramByte i := by cases s; rfl
@[simp] theorem dramByte_draw (s : State)  (i : Nat) : (applyEff s (.draw)).dramByte i = s.dramByte i := by cases s; rfl
@[simp] theorem norByte_reg (s : State) (a : Nat) (v : Word) (i : Nat) : (applyEff s (.reg a v)).norByte i = s.norByte i := by cases s; rfl
@[simp] theorem norByte_fld (s : State) (a hi lo v : Nat) (i : Nat) : (applyEff s (.fld a hi lo v)).norByte i = s.norByte i := by cases s; rfl
@[simp] theorem norByte_sq (s : State) (a : Nat) (b : Word) (i : Nat) : (applyEff s (.sq a b)).norByte i = s.norByte i := by cases s; rfl
@[simp] theorem norByte_cnt (s : State) (a hi lo n : Nat) (i : Nat) : (applyEff s (.cnt a hi lo n)).norByte i = s.norByte i := by cases s; rfl
@[simp] theorem norByte_emit (s : State) (o : Output) (i : Nat) : (applyEff s (.emit o)).norByte i = s.norByte i := by cases s; rfl
@[simp] theorem norByte_upd (s : State) (g : Dyn → Dyn) (i : Nat) : (applyEff s (.upd g)).norByte i = s.norByte i := by cases s; rfl
@[simp] theorem norByte_draw (s : State)  (i : Nat) : (applyEff s (.draw)).norByte i = s.norByte i := by cases s; rfl
@[simp] theorem norByte_dram (s : State) (a : Nat) (bs : List Byte) (i : Nat) : (applyEff s (.dram a bs)).norByte i = s.norByte i := by cases s; rfl
@[simp] theorem norByte_fill (s : State) (b n p : Nat) (i : Nat) : (applyEff s (.fill b n p)).norByte i = s.norByte i := by cases s; rfl
@[simp] theorem norByte_wipe (s : State)  (i : Nat) : (applyEff s (.wipe)).norByte i = s.norByte i := by cases s; rfl

theorem applyEff_reg (s : State) (a : Nat) (v : Word) : applyEff s (.reg a v) = s.hwReg a v := by cases s; rfl
theorem applyEff_fld (s : State) (a hi lo v : Nat) : applyEff s (.fld a hi lo v) = s.hwReg a ((s.reg a).setFld hi lo v) := by cases s; rfl
theorem applyEff_sq (s : State) (a : Nat) (b : Word) : applyEff s (.sq a b) = s.hwReg a (sqEvent (s.reg a) b) := by cases s; rfl
theorem applyEff_cnt (s : State) (a hi lo n : Nat) : applyEff s (.cnt a hi lo n) = s.hwReg a (ctAdd (s.reg a) hi lo n) := by cases s; rfl

@[simp] theorem applyAll_nil (s : State) : applyAll s [] = s := rfl
@[simp] theorem applyAll_cons (s : State) (e : Eff) (es : List Eff) : applyAll s (e :: es) = applyAll (applyEff s e) es := rfl
@[simp] theorem applyAllP_nil (s : State) : applyAllP s [] = s := rfl
@[simp] theorem applyAllP_cons (s : State) (e : PEff) (es : List PEff) : applyAllP s (e :: es) = applyAllP (applyPEff s e) es := rfl

theorem applyAll_append (es fs : List Eff) : ∀ s : State, applyAll s (es ++ fs) = applyAll (applyAll s es) fs := by
  induction es with
  | nil => intro s; rfl
  | cons e es ih => intro s; exact ih (applyEff s e)

theorem applyAllP_append (es fs : List PEff) : ∀ s : State, applyAllP s (es ++ fs) = applyAllP (applyAllP s es) fs := by
  induction es with
  | nil => intro s; rfl
  | cons e es ih => intro s; exact ih (applyPEff s e)

theorem applyAllP_eff (es : List Eff) : ∀ s : State, applyAllP s (es.map .eff) = applyAll s es := by
  induction es with
  | nil => intro s; rfl
  | cons e es ih => intro s; exact ih (applyEff s e)

@[simp] theorem seqs_nil (s : State) : seqs [] s = [] := rfl
theorem seqs_cons (a : Act) (as : List Act) (s : State) : seqs (a :: as) s = a s ++ seqs as (applyAll s (a s)) := rfl
@[simp] theorem skip_apply (s : State) : skip s = [] := rfl
@[simp] theorem seqsP_nil (s : State) : seqsP [] s = [] := rfl
theorem seqsP_cons (a : PAct) (as : List PAct) (s : State) : seqsP (a :: as) s = a s ++ seqsP as (applyAllP s (a s)) := rfl

/-- Running a sequence of actions is running them one after another. -/
theorem applyAll_seqs_cons (a : Act) (as : List Act) (s : State) :
    applyAll s (seqs (a :: as) s) = applyAll (applyAll s (a s)) (seqs as (applyAll s (a s))) := applyAll_append _ _ _

theorem applyAllP_seqsP_cons (a : PAct) (as : List PAct) (s : State) :
    applyAllP s (seqsP (a :: as) s) = applyAllP (applyAllP s (a s)) (seqsP as (applyAllP s (a s))) := applyAllP_append _ _ _

theorem applyAllP_lift (a : Act) (s : State) : applyAllP s (lift a s) = applyAll s (a s) := applyAllP_eff _ _

theorem run_next (a : Act) (s : State) : run a s = .next (applyAll s (a s)) := rfl
theorem runP_next (a : PAct) (s : State) : runP a s = .next (applyAllP s (a s)) := rfl

end Sys2Proof.Machine
end

