-- ==== Sys2Proof/Laws/Access.lean ====
section
/-! SUPPORT. An access that no rule stops does its effect, and a command that may be worked on is worked on. -/

namespace Sys2Proof.Machine

/-- A write that is ready has its effect. -/
theorem wrAccess_ready (s : State) (init : Initiator) (a : Nat) (act : Act) (h : accReady s init a = true) :
    wrAccess init a act s = act s := by
  unfold accReady at h
  obtain ⟨h1, h2⟩ : initiatorOk s init = true ∧ accessError s a 4 true = none := by simpa using h
  simp [wrAccess, h1, h2]

/-- The same for a write that may log after its effect. -/
theorem wrAccessP_ready (s : State) (init : Initiator) (a : Nat) (act : PAct) (h : accReady s init a = true) :
    wrAccessP init a act s = act s := by
  unfold accReady at h
  obtain ⟨h1, h2⟩ : initiatorOk s init = true ∧ accessError s a 4 true = none := by simpa using h
  simp [wrAccessP, h1, h2]

/-- A 32-bit read that is ready answers its value and has its effect. -/
theorem rdAccess_ready (s : State) (init : Initiator) (a : Nat) (v : State → Nat) (act : Act) (h : accReady s init a = true) :
    rdAccess init a 4 v act s = .emit (.readData init a (v s)) :: act s := by
  unfold accReady at h
  obtain ⟨h1, h2⟩ : initiatorOk s init = true ∧ accessError s a 4 true = none := by simpa using h
  have h3 : accessError s a 4 false = none := by
    revert h2; unfold accessError; simp
  simp [rdAccess, h1, h3]

/-- A command that is ready is worked on. -/
theorem withCmd_ready (s : State) (r : CmdRef) (admin : Bool) (op : Nat) (k : HCmd → Act) (c : HCmd)
    (h : cmdReady s r admin op c = true) : withCmd r admin op k s = k c s := by
  unfold cmdReady at h
  simp only [Bool.and_eq_true, beq_iff_eq, Bool.not_eq_true'] at h
  obtain ⟨⟨⟨⟨⟨h1, h2⟩, h3⟩, h4⟩, h5⟩, h6⟩ := h
  simp [withCmd, h1, h2, h3, h4, h5, h6]

end Sys2Proof.Machine
end

