-- ==== Sys2Proof/Laws/Ops.lean ====
section
/-! SUPPORT. What reading and writing the stores give: registers, memories, fields of a word, and that every effect keeps the
canonical forms, the RZ bits and the GD bits. -/

namespace Sys2Proof.Machine

/-! Finding in filtered lists. -/

theorem find_filter_keep {β : Type} (p : Nat → Bool) (b : Nat) (l : List (Nat × β)) (h : p b = true) :
    (l.filter (fun x => p x.1)).find? (fun x => x.1 == b) = l.find? (fun x => x.1 == b) := by
  induction l with
  | nil => rfl
  | cons x xs ih =>
    by_cases hx : p x.1 = true
    · simp only [List.filter_cons, hx, if_true, List.find?_cons, ih]
    · have hb : (x.1 == b) = false := by
        apply Bool.eq_false_iff.2
        intro e
        exact hx (by rw [beq_iff_eq.1 e]; exact h)
      simp only [List.filter_cons, hx, List.find?_cons, hb]
      exact ih

theorem find_filter_drop {β : Type} (p : Nat → Bool) (b : Nat) (l : List (Nat × β)) (h : p b = false) :
    (l.filter (fun x => p x.1)).find? (fun x => x.1 == b) = none := by
  rw [List.find?_eq_none]
  intro x hx
  have := (List.mem_filter.1 hx).2
  intro e
  rw [beq_iff_eq.1 e, h] at this
  exact Bool.noConfusion this

/-! Registers. -/

theorem find_middle (a b : Nat) (v : Word) (h : b ≠ a) :
    List.find? (fun p => p.1 == b) (if v = resetWord a then [] else [(a, v)]) = none := by
  split
  · rfl
  · have e : (a == b) = false := by simpa using Ne.symm h
    simp [e]

/-- A stored word is read back, and every other offset reads as before. -/
theorem regsGet_regsPut (l : List (Nat × Word)) (a b : Nat) (v : Word) :
    regsGet (regsPut l a v) b = if b = a then v else regsGet l b := by
  unfold regsGet regsPut
  rw [List.find?_append, List.find?_append]
  rcases Nat.lt_trichotomy b a with h | h | h
  · have h1 := find_filter_keep (fun x => decide (x < a)) b l (by simpa using h)
    have h2 := find_filter_drop (fun x => decide (a < x)) b l (by simp; omega)
    have hn : b ≠ a := by omega
    rw [h1, h2, find_middle a b v hn, if_neg hn]
    simp
  · subst h
    have h1 := find_filter_drop (fun x => decide (x < b)) b l (by simp)
    have h2 := find_filter_drop (fun x => decide (b < x)) b l (by simp)
    rw [h1, h2, if_pos rfl]
    by_cases hv : v = resetWord b <;> simp [hv]
  · have h1 := find_filter_drop (fun x => decide (x < a)) b l (by simp; omega)
    have h2 := find_filter_keep (fun x => decide (a < x)) b l (by simpa using h)
    have hn : b ≠ a := by omega
    rw [h1, h2, find_middle a b v hn, if_neg hn]
    simp

/-- Reading a register after storing one. -/
theorem State.reg_putReg (s : State) (a b : Nat) (v : Word) : (s.putReg a v).reg b = if b = a then v else s.reg b :=
  regsGet_regsPut s.regs a b v

/-- Reading a register after a store that leaves GD and RZ bits alone. -/
theorem State.reg_hwReg (s : State) (a b : Nat) (v : Word) :
    (s.hwReg a v).reg b = if b = a then (s.reg a).merge (liveMask a) v else s.reg b :=
  State.reg_putReg s a b _

/-! Effects that touch no register. -/

@[simp] theorem reg_dram (s : State) (a b : Nat) (bs : List Byte) : (applyEff s (.dram a bs)).reg b = s.reg b := by cases s; rfl
@[simp] theorem reg_fill (s : State) (a n p b : Nat) : (applyEff s (.fill a n p)).reg b = s.reg b := by cases s; rfl
@[simp] theorem reg_wipe (s : State) (b : Nat) : (applyEff s .wipe).reg b = s.reg b := by cases s; rfl
@[simp] theorem reg_nor (s : State) (a b : Nat) (bs : List Byte) : (applyEff s (.nor a bs)).reg b = s.reg b := by cases s; rfl
@[simp] theorem reg_emit (s : State) (o : Output) (b : Nat) : (applyEff s (.emit o)).reg b = s.reg b := by cases s; rfl
@[simp] theorem reg_upd (s : State) (g : Dyn → Dyn) (b : Nat) : (applyEff s (.upd g)).reg b = s.reg b := by cases s; rfl
@[simp] theorem reg_draw (s : State) (b : Nat) : (applyEff s .draw).reg b = s.reg b := by cases s; rfl

/-! Words. -/

theorem merge_getLsbD (w m v : Word) (i : Nat) :
    (w.merge m v).getLsbD i = if m.getLsbD i then v.getLsbD i else w.getLsbD i := by
  unfold Word.merge
  rw [BitVec.getLsbD_or, BitVec.getLsbD_and, BitVec.getLsbD_and, BitVec.getLsbD_not]
  by_cases h : i < 32
  · cases hm : m.getLsbD i <;> simp [h]
  · have hi : 32 ≤ i := Nat.not_lt.1 h
    simp [BitVec.getLsbD_of_ge _ _ hi]

/-- Storing through a mask changes no bit outside it. -/
theorem merge_outside (w m v k : Word) (h : k &&& m = 0) : w.merge m v &&& k = w &&& k := by
  apply BitVec.eq_of_getLsbD_eq
  intro i _
  have hb : (k &&& m).getLsbD i = false := by rw [h]; simp
  rw [BitVec.getLsbD_and] at hb
  rw [BitVec.getLsbD_and, BitVec.getLsbD_and, merge_getLsbD]
  cases hm : m.getLsbD i <;> cases hk : k.getLsbD i <;> simp_all

end Sys2Proof.Machine
end

