-- ==== Sys2Proof/Laws/Wf.lean ====
section
/-! SUPPORT. Every effect keeps the stores' canonical forms and the RZ bits; unprivileged effects keep the GD bits. -/

namespace Sys2Proof.Machine

theorem rising_iff (l : List Nat) : rising l = true ↔ l.Pairwise (· < ·) := by
  induction l with
  | nil => simp [rising]
  | cons a l ih =>
    cases l with
    | nil => simp [rising]
    | cons b l =>
      rw [rising, Bool.and_eq_true, ih, List.pairwise_cons (a := a)]
      constructor
      · rintro ⟨hab, hp⟩
        refine ⟨?_, hp⟩
        intro x hx
        have hab' : a < b := by simpa using hab
        rcases List.mem_cons.1 hx with h | h
        · omega
        · have := (List.pairwise_cons.1 hp).1 x h
          omega
      · rintro ⟨h, hp⟩
        exact ⟨by simpa using h b (by simp), hp⟩

/-- A rising list cut in three around a stretch of keys stays rising when the stretch is replaced by a rising one. -/
theorem rising_splice {β : Type} (l m : List (Nat × β)) (a b : Nat) (hab : a ≤ b)
    (hl : (l.map Prod.fst).Pairwise (· < ·)) (hm : (m.map Prod.fst).Pairwise (· < ·))
    (hr : ∀ x ∈ m, a ≤ x.1 ∧ x.1 < b) :
    ((l.filter (fun p => p.1 < a) ++ m ++ l.filter (fun p => b ≤ p.1)).map Prod.fst).Pairwise (· < ·) := by
  have hf : ∀ p : Nat × β → Bool, ((l.filter p).map Prod.fst).Pairwise (· < ·) := fun p =>
    hl.sublist (List.filter_sublist.map Prod.fst)
  rw [List.map_append, List.map_append, List.pairwise_append, List.pairwise_append]
  refine ⟨⟨hf _, hm, ?_⟩, hf _, ?_⟩
  · intro x hx y hy
    obtain ⟨p, hp, rfl⟩ := List.mem_map.1 hx
    obtain ⟨q, hq, rfl⟩ := List.mem_map.1 hy
    have h1 := (List.mem_filter.1 hp).2
    have h2 := (hr q hq).1
    simp at h1
    omega
  · intro x hx y hy
    obtain ⟨q, hq, rfl⟩ := List.mem_map.1 hy
    have h2 := (List.mem_filter.1 hq).2
    simp at h2
    rcases List.mem_append.1 hx with h | h
    · obtain ⟨p, hp, rfl⟩ := List.mem_map.1 h
      have h1 := (List.mem_filter.1 hp).2
      simp at h1
      omega
    · obtain ⟨p, hp, rfl⟩ := List.mem_map.1 h
      have h1 := (hr p hp).2
      omega

/-! Memories. -/

theorem cellsOf_mem (a : Nat) (bs : List Byte) : ∀ c ∈ cellsOf a bs, a ≤ c.1 ∧ c.1 < a + bs.length := by
  induction bs generalizing a with
  | nil => simp [cellsOf]
  | cons b bs ih =>
    intro c hc
    rcases List.mem_cons.1 hc with h | h
    · subst h
      simp
    · have := ih (a + 1) c h
      simp only [List.length_cons]
      omega

theorem cellsOf_rising (a : Nat) (bs : List Byte) : ((cellsOf a bs).map Prod.fst).Pairwise (· < ·) := by
  induction bs generalizing a with
  | nil => simp [cellsOf]
  | cons b bs ih =>
    rw [cellsOf, List.map_cons, List.pairwise_cons]
    refine ⟨?_, ih (a + 1)⟩
    intro x hx
    obtain ⟨c, hc, rfl⟩ := List.mem_map.1 hx
    have := (cellsOf_mem (a + 1) bs c hc).1
    show a < c.1
    omega

/-- Storing bytes keeps a memory in its one form. -/
theorem cellsPut_wf (bg : Nat → Option Byte) (l : List Host.Cell) (a : Nat) (bs : List Byte) (h : Memory.wf bg l = true) :
    Memory.wf bg (cellsPut bg l a bs) = true := by
  unfold Memory.wf at *
  rw [Bool.and_eq_true, rising_iff, List.all_eq_true] at *
  obtain ⟨h1, h2⟩ := h
  unfold cellsPut
  constructor
  · apply rising_splice l _ a (a + bs.length) (by omega) h1
    · exact (cellsOf_rising a bs).sublist (List.filter_sublist.map Prod.fst)
    · intro x hx
      exact cellsOf_mem a bs x (List.mem_filter.1 hx).1
  · intro c hc
    rcases List.mem_append.1 hc with hc | hc
    · rcases List.mem_append.1 hc with hc | hc
      · exact h2 c (List.mem_filter.1 hc).1
      · exact (List.mem_filter.1 hc).2
    · exact h2 c (List.mem_filter.1 hc).1

/-- Outside a new fill, an unlisted byte reads as before. -/
theorem fillByte_cons (fills : List (Nat × Nat × Nat)) (b n p a : Nat) (h : a < b ∨ b + n ≤ a) :
    fillByte ((b, n, p) :: fills) a = fillByte fills a := by
  unfold fillByte
  rw [List.find?_cons]
  have : (decide (b ≤ a) && decide (a < b + n)) = false := by
    rcases h with h | h <;> simp <;> omega
  simp only [this]

/-- A fill keeps buffer memory in its one form. -/
theorem fill_wf (s : State) (b n p : Nat) (h : Memory.wf (fillByte s.fills) s.dram = true) :
    Memory.wf (fillByte ((b, n, p) :: s.fills)) (s.dram.filter (fun c => c.1 < b || b + n ≤ c.1)) = true := by
  unfold Memory.wf at *
  rw [Bool.and_eq_true, rising_iff, List.all_eq_true] at *
  obtain ⟨h1, h2⟩ := h
  refine ⟨h1.sublist (List.filter_sublist.map Prod.fst), ?_⟩
  intro c hc
  have hm := List.mem_filter.1 hc
  rw [fillByte_cons]
  · exact h2 c hm.1
  · simpa using hm.2

/-! Registers. -/

theorem liveMask_le_fieldMask (a i : Nat) (h : (liveMask a).getLsbD i = true) : (fieldMask a).getLsbD i = true := by
  unfold fieldMask
  rw [BitVec.getLsbD_or, h]
  rfl

theorem guardMask_le_fieldMask (a i : Nat) (h : (guardMask a).getLsbD i = true) : (fieldMask a).getLsbD i = true := by
  unfold fieldMask
  rw [BitVec.getLsbD_or, h]
  cases (liveMask a).getLsbD i <;> rfl

theorem rzOk_iff (a : Nat) (w : Word) :
    rzOk a w = true ↔ ∀ i, (fieldMask a).getLsbD i = false → w.getLsbD i = (resetWord a).getLsbD i := by
  unfold rzOk
  rw [beq_iff_eq]
  constructor
  · intro h i hi
    by_cases h32 : i < 32
    · have := congrArg (fun x : Word => x.getLsbD i) h
      simp only [BitVec.getLsbD_and, BitVec.getLsbD_not, hi, h32] at this
      simpa using this
    · rw [BitVec.getLsbD_of_ge _ _ (by omega), BitVec.getLsbD_of_ge _ _ (by omega)]
  · intro h
    apply BitVec.eq_of_getLsbD_eq
    intro i hi
    rw [BitVec.getLsbD_and, BitVec.getLsbD_and, BitVec.getLsbD_not]
    cases hf : (fieldMask a).getLsbD i
    · rw [h i hf]
    · simp

/-- Storing a word whose RZ bits are right keeps the registers in their one form. -/
theorem regsPut_wf (l : List (Nat × Word)) (a : Nat) (v : Word) (h : Regs.wf l = true) (hv : rzOk a v = true) :
    Regs.wf (regsPut l a v) = true := by
  unfold Regs.wf at *
  rw [Bool.and_eq_true, rising_iff, List.all_eq_true] at *
  obtain ⟨h1, h2⟩ := h
  have he : l.filter (fun p => a < p.1) = l.filter (fun p => a + 1 ≤ p.1) := rfl
  unfold regsPut
  constructor
  · rw [he]
    apply rising_splice l _ a (a + 1) (by omega) h1
    · split <;> simp
    · intro x hx
      split at hx
      · simp at hx
      · rw [List.mem_singleton] at hx
        subst hx
        simp
  · intro p hp
    rcases List.mem_append.1 hp with hp | hp
    · rcases List.mem_append.1 hp with hp | hp
      · exact h2 p (List.mem_filter.1 hp).1
      · split at hp
        · simp at hp
        · rename_i hne
          rw [List.mem_singleton] at hp
          subst hp
          rw [Bool.and_eq_true]
          exact ⟨by simpa using hne, hv⟩
    · exact h2 p (List.mem_filter.1 hp).1

/-- Every word read in a state of that form has its RZ bits right. -/
theorem rzOk_reg (l : List (Nat × Word)) (a : Nat) (h : Regs.wf l = true) : rzOk a (regsGet l a) = true := by
  unfold regsGet
  cases hf : l.find? (fun p => p.1 == a) with
  | none => exact (rzOk_iff a _).2 (fun _ _ => rfl)
  | some p =>
    have hm := List.mem_of_find?_eq_some hf
    have ha : p.1 = a := by simpa using List.find?_some hf
    unfold Regs.wf at h
    rw [Bool.and_eq_true, List.all_eq_true] at h
    have := h.2 p hm
    rw [Bool.and_eq_true, ha] at this
    exact this.2

/-- Storing through a mask of fields keeps the RZ bits. -/
theorem rzOk_merge (a : Nat) (w m v : Word) (hw : rzOk a w = true)
    (hm : ∀ i, m.getLsbD i = true → (fieldMask a).getLsbD i = true) : rzOk a (w.merge m v) = true := by
  rw [rzOk_iff] at *
  intro i hi
  rw [merge_getLsbD]
  cases hb : m.getLsbD i
  · exact hw i hi
  · rw [hm i hb] at hi
    exact Bool.noConfusion hi

theorem State.wf_iff (s : State) :
    s.wf = true ↔ Regs.wf s.regs = true ∧ Memory.wf (fillByte s.fills) s.dram = true ∧ Memory.wf norBg s.nor = true := by
  unfold State.wf
  rw [Bool.and_eq_true, Bool.and_eq_true, and_assoc]

/-- A store by hardware or a plain write keeps the canonical forms. -/
theorem hwReg_wf (s : State) (a : Nat) (v : Word) (h : s.wf = true) : (s.hwReg a v).wf = true := by
  rw [State.wf_iff] at *
  refine ⟨regsPut_wf _ _ _ h.1 (rzOk_merge a _ _ _ (rzOk_reg _ a h.1) (liveMask_le_fieldMask a)), h.2.1, h.2.2⟩

/-- Every effect keeps the canonical forms. -/
theorem applyEff_wf (s : State) (e : Eff) (h : s.wf = true) : (applyEff s e).wf = true := by
  cases e with
  | reg a v => exact hwReg_wf s a _ h
  | fld a hi lo v => exact hwReg_wf s a _ h
  | sq a b => exact hwReg_wf s a _ h
  | cnt a hi lo n => exact hwReg_wf s a _ h
  | dram a bs =>
    rw [State.wf_iff] at *
    exact ⟨h.1, cellsPut_wf _ _ _ _ h.2.1, h.2.2⟩
  | fill b n p =>
    rw [State.wf_iff] at *
    exact ⟨h.1, fill_wf s b n p h.2.1, h.2.2⟩
  | wipe =>
    rw [State.wf_iff] at *
    exact ⟨h.1, rfl, h.2.2⟩
  | nor a bs =>
    rw [State.wf_iff] at *
    exact ⟨h.1, h.2.1, cellsPut_wf _ _ _ _ h.2.2⟩
  | emit o => exact h
  | upd g => exact h
  | draw => exact h

/-- A list of effects keeps the canonical forms. -/
theorem applyAll_wf (es : List Eff) : ∀ s : State, s.wf = true → (applyAll s es).wf = true := by
  induction es with
  | nil => intro s h; exact h
  | cons e es ih => intro s h; exact ih _ (applyEff_wf s e h)

/-! Masks that resets and option loading use. -/

theorem foldl_mask_mono (p q : Field → Bool) (l : List Field) (hpq : ∀ x ∈ l, p x = true → q x = true) (i : Nat) :
    ∀ m n : Word, (m.getLsbD i = true → n.getLsbD i = true) →
      (l.foldl (fun m x => if p x then m ||| x.mask else m) m).getLsbD i = true →
      (l.foldl (fun m x => if q x then m ||| x.mask else m) n).getLsbD i = true := by
  induction l with
  | nil => intro m n h h'; exact h h'
  | cons x l ih =>
    intro m n h
    have ih' := ih (fun y hy => hpq y (List.mem_cons_of_mem x hy))
    simp only [List.foldl_cons]
    apply ih'
    intro hm
    cases hp : p x
    · rw [hp] at hm
      cases hq : q x
      · exact h hm
      · rw [if_pos rfl, BitVec.getLsbD_or, h hm]
        rfl
    · rw [hp, if_pos rfl, BitVec.getLsbD_or] at hm
      rw [hpq x (List.mem_cons_self ..) hp, if_pos rfl, BitVec.getLsbD_or]
      cases hx : m.getLsbD i
      · rw [hx] at hm
        simp at hm
        rw [hm]
        simp
      · rw [h hx]
        rfl

/-- The bits of some fields of a register are bits a field covers. -/
theorem maskOf_le_fieldMask (a i : Nat) (d : RegDef) (hd : regDef a = some d) (p : Field → Bool)
    (h : (d.maskOf p).getLsbD i = true) : (fieldMask a).getLsbD i = true := by
  have hall : (d.maskOf (fun _ => true)).getLsbD i = true :=
    foldl_mask_mono p (fun _ => true) d.fields (fun _ _ _ => rfl) i 0 0 id h
  have key : ∀ (l : List Field) (m n k : Word), (m.getLsbD i = true → (n.getLsbD i || k.getLsbD i) = true) →
      (l.foldl (fun m x => if true then m ||| x.mask else m) m).getLsbD i = true →
      ((l.foldl (fun m x => if (x.ty != .gd) = true then m ||| x.mask else m) n).getLsbD i ||
        (l.foldl (fun m x => if (x.ty == .gd) = true then m ||| x.mask else m) k).getLsbD i) = true := by
    intro l
    induction l with
    | nil => intro m n k h h'; exact h h'
    | cons x l ih =>
      intro m n k h
      simp only [List.foldl_cons]
      apply ih
      intro hm
      simp only [if_true, BitVec.getLsbD_or] at hm
      cases hg : (x.ty == FType.gd)
      · have hn : (x.ty != FType.gd) = true := by simpa [bne] using hg
        rw [hn, if_pos rfl, if_neg (by simp), BitVec.getLsbD_or]
        cases hm' : m.getLsbD i
        · rw [hm'] at hm
          simp at hm
          simp [hm]
        · have := h hm'
          revert this
          cases n.getLsbD i <;> cases k.getLsbD i <;> simp
      · have hn : (x.ty != FType.gd) = false := by simpa [bne] using hg
        rw [hn, if_neg (by simp), if_pos rfl, BitVec.getLsbD_or]
        cases hm' : m.getLsbD i
        · rw [hm'] at hm
          simp at hm
          simp [hm]
        · have := h hm'
          revert this
          cases n.getLsbD i <;> cases k.getLsbD i <;> simp
  have := key d.fields 0 0 0 (by simp) hall
  unfold fieldMask liveMask guardMask
  rw [hd, BitVec.getLsbD_or]
  exact this

theorem keptMask_le (a i : Nat) (h : (keptMask a).getLsbD i = true) : (fieldMask a).getLsbD i = true := by
  unfold keptMask at h
  cases hd : regDef a with
  | none => rw [hd] at h; simp at h
  | some d => rw [hd] at h; exact maskOf_le_fieldMask a i d hd _ h

theorem optMask_le (a i : Nat) (h : (optMask a).getLsbD i = true) : (fieldMask a).getLsbD i = true := by
  unfold optMask at h
  cases hd : regDef a with
  | none => rw [hd] at h; simp at h
  | some d => rw [hd] at h; exact maskOf_le_fieldMask a i d hd _ h

/-- What a reset leaves of one listed register. -/
theorem rstEntry_some (p : Nat → Bool) (keep : Bool) (e x : Nat × Word) (h : rstEntry p keep e = some x) :
    (p e.1 = false ∧ x = e) ∨
    (p e.1 = true ∧ x.1 = e.1 ∧ x.2 ≠ resetWord e.1 ∧
      (x.2 = resetWord e.1 ∨ x.2 = (resetWord e.1).merge (keptMask e.1) e.2)) := by
  unfold rstEntry at h
  cases hp : p e.1
  · rw [hp] at h
    exact .inl ⟨rfl, by simpa using h.symm⟩
  · rw [hp] at h
    simp only [if_true] at h
    by_cases hw : (if keep then (resetWord e.1).merge (keptMask e.1) e.2 else resetWord e.1) = resetWord e.1
    · rw [if_pos hw] at h
      simp at h
    · rw [if_neg hw] at h
      simp only [Option.some.injEq] at h
      subst h
      refine .inr ⟨rfl, rfl, hw, ?_⟩
      cases keep
      · exact .inl rfl
      · exact .inr rfl

/-- A reset keeps the registers in their one form. -/
theorem rst_wf (l : List (Nat × Word)) (p : Nat → Bool) (keep : Bool) (h : Regs.wf l = true) :
    Regs.wf (l.filterMap (rstEntry p keep)) = true := by
  have hkey : ∀ e e', rstEntry p keep e = some e' → e'.1 = e.1 := by
    intro e e' he
    rcases rstEntry_some p keep e e' he with ⟨_, rfl⟩ | ⟨_, h, _⟩
    · rfl
    · exact h
  unfold Regs.wf at *
  rw [Bool.and_eq_true, rising_iff, List.all_eq_true] at *
  obtain ⟨h1, h2⟩ := h
  constructor
  · rw [List.pairwise_map, List.pairwise_filterMap]
    rw [List.pairwise_map] at h1
    refine h1.imp ?_
    intro a b hab x hx y hy
    rw [hkey a x hx, hkey b y hy]
    exact hab
  · intro x hx
    obtain ⟨e, he, hex⟩ := List.mem_filterMap.1 hx
    have hold := h2 e he
    rcases rstEntry_some p keep e x hex with ⟨_, rfl⟩ | ⟨_, hk, hne, hv⟩
    · exact hold
    · rw [Bool.and_eq_true, hk]
      refine ⟨by simpa using hne, ?_⟩
      have h0 : rzOk e.1 (resetWord e.1) = true := (rzOk_iff _ _).2 (fun _ _ => rfl)
      rcases hv with hv | hv
      · rw [hv]
        exact h0
      · rw [hv]
        exact rzOk_merge _ _ _ _ h0 (keptMask_le e.1)

theorem putReg_wf (s : State) (a : Nat) (v : Word) (h : s.wf = true) (hv : rzOk a v = true) : (s.putReg a v).wf = true := by
  rw [State.wf_iff] at *
  exact ⟨regsPut_wf _ _ _ h.1 hv, h.2.1, h.2.2⟩

theorem optPut_wf (p : Nat → Bool) (s : State) (r : Nat × Word) (h : s.wf = true) : (optPut p s r).wf = true := by
  unfold optPut
  split
  · exact putReg_wf s _ _ h (rzOk_merge _ _ _ _ (rzOk_reg _ _ ((State.wf_iff s).1 h).1) (optMask_le _))
  · exact h

theorem sysLock_rz : ∀ b : Word, ∀ w : Word, rzOk Reg.SYS_LOCK w = true → rzOk Reg.SYS_LOCK (w &&& ~~~b) = true := by
  intro b w h
  rw [rzOk_iff] at *
  intro i hi
  have h0 : (resetWord Reg.SYS_LOCK).getLsbD i = false := by
    have : resetWord Reg.SYS_LOCK = 0 := by decide
    rw [this]
    simp
  rw [BitVec.getLsbD_and, h i hi, h0]
  rfl

/-- Every privileged effect keeps the canonical forms. -/
theorem applyPEff_wf (s : State) (e : PEff) (h : s.wf = true) : (applyPEff s e).wf = true := by
  cases e with
  | eff e => exact applyEff_wf s e h
  | gd a v => exact putReg_wf s a _ h (rzOk_merge _ _ _ _ (rzOk_reg _ _ ((State.wf_iff s).1 h).1) (guardMask_le_fieldMask a))
  | rst p keep =>
    rw [State.wf_iff] at *
    exact ⟨rst_wf _ p keep h.1, h.2.1, h.2.2⟩
  | opt p =>
    have : ∀ (l : List (Nat × Word)) (t : State), t.wf = true → (l.foldl (optPut p) t).wf = true := by
      intro l
      induction l with
      | nil => intro t ht; exact ht
      | cons r l ih => intro t ht; exact ih _ (optPut_wf p t r ht)
    exact this _ s h
  | unlock b => exact putReg_wf s _ _ h (sysLock_rz b _ (rzOk_reg _ _ ((State.wf_iff s).1 h).1))

/-- A list of privileged effects keeps the canonical forms. -/
theorem applyAllP_wf (es : List PEff) : ∀ s : State, s.wf = true → (applyAllP s es).wf = true := by
  induction es with
  | nil => intro s h; exact h
  | cons e es ih => intro s h; exact ih _ (applyPEff_wf s e h)

end Sys2Proof.Machine
end

