-- ==== Sys2Proof/Laws/Exec.lean ====
section
/-! SUPPORT. What every command has in common: it answers a next state that comes of a list of effects, which leave the queue
alone, only add to what has left the device, and keep the GD bits where they are unprivileged. -/

namespace Sys2Proof.Machine

/-- No effect touches the queue. -/
@[simp] theorem applyAll_pending (es : List Eff) : ∀ s : State, (applyAll s es).pending = s.pending := by
  induction es with
  | nil => intro s; rfl
  | cons e es ih =>
    intro s
    rw [applyAll_cons, ih]
    cases e <;> rfl

/-- What leaves the device is only added to. -/
theorem outGrows_trans {s t u : State} (h : outGrows s t) (k : outGrows t u) : outGrows s u := by
  obtain ⟨l, hl⟩ := h
  obtain ⟨m, hm⟩ := k
  exact ⟨m ++ l, by rw [hm, hl, List.append_assoc]⟩

theorem outGrows_of_eq {s t : State} (h : t.out = s.out) : outGrows s t := ⟨[], by rw [h]; rfl⟩

theorem applyEff_out (s : State) (e : Eff) : outGrows s (applyEff s e) := by
  cases e with
  | emit o => exact ⟨[o], rfl⟩
  | _ => exact outGrows_of_eq rfl

theorem applyAll_out (es : List Eff) : ∀ s : State, outGrows s (applyAll s es) := by
  induction es with
  | nil => intro s; exact outGrows_of_eq rfl
  | cons e es ih => intro s; exact outGrows_trans (applyEff_out s e) (ih _)

theorem foldl_optPut_frame (p : Nat → Bool) (l : List (Nat × Word)) :
    ∀ s : State, (l.foldl (optPut p) s).pending = s.pending ∧ (l.foldl (optPut p) s).out = s.out := by
  induction l with
  | nil => intro s; exact ⟨rfl, rfl⟩
  | cons r l ih =>
    intro s
    obtain ⟨h1, h2⟩ := ih (optPut p s r)
    rw [List.foldl_cons, h1, h2]
    unfold optPut
    split
    · exact ⟨rfl, rfl⟩
    · exact ⟨rfl, rfl⟩

theorem applyPEff_frame (s : State) (e : PEff) : (applyPEff s e).pending = s.pending ∧ outGrows s (applyPEff s e) := by
  cases e with
  | eff e => exact ⟨applyAll_pending [e] s, applyEff_out s e⟩
  | opt p => exact ⟨(foldl_optPut_frame p _ s).1, outGrows_of_eq (foldl_optPut_frame p _ s).2⟩
  | _ => exact ⟨rfl, outGrows_of_eq rfl⟩

theorem applyAllP_frame (es : List PEff) : ∀ s : State, (applyAllP s es).pending = s.pending ∧ outGrows s (applyAllP s es) := by
  induction es with
  | nil => intro s; exact ⟨rfl, outGrows_of_eq rfl⟩
  | cons e es ih =>
    intro s
    have h := applyPEff_frame s e
    have k := ih (applyPEff s e)
    exact ⟨k.1.trans h.1, outGrows_trans h.2 k.2⟩

/-! GD bits. -/

theorem foldl_maskOf_disjoint (l : List Field) (p q : Field → Bool) (i : Nat)
    (h : ∀ x ∈ l, ∀ y ∈ l, p x = true → q y = true → (x.mask &&& y.mask) = 0) :
    ((l.foldl (fun m x => if p x then m ||| x.mask else m) (0 : Word)).getLsbD i &&
      (l.foldl (fun m x => if q x then m ||| x.mask else m) (0 : Word)).getLsbD i) = false := by
  have key : ∀ (r : Field → Bool) (k : List Field) (m : Word),
      (k.foldl (fun m x => if r x then m ||| x.mask else m) m).getLsbD i = true →
      m.getLsbD i = true ∨ ∃ x ∈ k, r x = true ∧ x.mask.getLsbD i = true := by
    intro r k
    induction k with
    | nil => intro m h; exact .inl h
    | cons x k ih =>
      intro m hm
      rw [List.foldl_cons] at hm
      rcases ih _ hm with h1 | ⟨y, hy, h2⟩
      · split at h1
        · rename_i hr
          rw [BitVec.getLsbD_or, Bool.or_eq_true] at h1
          rcases h1 with h1 | h1
          · exact .inl h1
          · exact .inr ⟨x, List.mem_cons_self .., hr, h1⟩
        · exact .inl h1
      · exact .inr ⟨y, List.mem_cons_of_mem x hy, h2⟩
  apply Bool.eq_false_iff.2
  intro hb
  rw [Bool.and_eq_true] at hb
  rcases key p l 0 hb.1 with h1 | ⟨x, hx, hpx, hxi⟩
  · simp at h1
  rcases key q l 0 hb.2 with h1 | ⟨y, hy, hqy, hyi⟩
  · simp at h1
  have := congrArg (fun w : Word => w.getLsbD i) (h x hx y hy hpx hqy)
  simp only [BitVec.getLsbD_and, hxi, hyi] at this
  simp at this

/-- The fields of every register are apart: GD fields overlap no other. -/
def gdApart (d : RegDef) : Bool :=
  d.fields.all (fun x => d.fields.all (fun y => !(x.ty != .gd && y.ty == .gd) || (x.mask &&& y.mask) == 0))

theorem blkRegs_apart : ∀ b : Blk, (blkRegs b).all gdApart = true := by
  intro b
  cases b <;> simp only [blkRegs] <;> decide

/-- No bit is both GD and open to hardware and plain writes (R30, R31). -/
theorem guard_live_apart (a : Nat) : guardMask a &&& liveMask a = 0 := by
  unfold guardMask liveMask
  cases hd : regDef a with
  | none => rfl
  | some d =>
    have hm := List.mem_of_find?_eq_some hd
    have hall := List.all_eq_true.1 (blkRegs_apart (blkOf a).1) d hm
    apply BitVec.eq_of_getLsbD_eq
    intro i _
    rw [BitVec.getLsbD_and]
    show ((d.tyMask .gd).getLsbD i && (d.maskOf (fun y => y.ty != .gd)).getLsbD i) = (0 : Word).getLsbD i
    have := foldl_maskOf_disjoint d.fields (fun y => y.ty != .gd) (fun y => y.ty == .gd) i (by
      intro x hx y hy hpx hqy
      have h := List.all_eq_true.1 (List.all_eq_true.1 hall x hx) y hy
      rw [hpx, hqy] at h
      simpa using h)
    rw [Bool.and_comm]
    simpa [RegDef.tyMask, RegDef.maskOf] using this

theorem sameGuarded_refl (s : State) : sameGuarded s s := fun _ => rfl

theorem sameGuarded_trans {s t u : State} (h : sameGuarded s t) (k : sameGuarded t u) : sameGuarded s u :=
  fun a => (k a).trans (h a)

theorem hwReg_guarded (s : State) (a : Nat) (v : Word) : sameGuarded s (s.hwReg a v) := by
  intro b
  rw [State.reg_hwReg]
  split
  · rename_i h
    subst h
    exact merge_outside _ _ _ _ (guard_live_apart b)
  · rfl

/-- No unprivileged effect changes a GD bit (R30). -/
theorem applyEff_guarded (s : State) (e : Eff) : sameGuarded s (applyEff s e) := by
  cases e with
  | reg a v => exact hwReg_guarded s a _
  | fld a hi lo v => exact hwReg_guarded s a _
  | sq a b => exact hwReg_guarded s a _
  | cnt a hi lo n => exact hwReg_guarded s a _
  | _ => exact sameGuarded_refl s

theorem applyAll_guarded (es : List Eff) : ∀ s : State, sameGuarded s (applyAll s es) := by
  induction es with
  | nil => intro s; exact sameGuarded_refl s
  | cons e es ih => intro s; exact sameGuarded_trans (applyEff_guarded s e) (ih _)

/-! Commands. -/

/-- Every command answers the state its effects leave. -/
theorem exec_effects (i : Instr) (s : State) : ∃ es, exec i s = .next (applyAllP s es) := by
  cases i <;> first
    | exact ⟨_, rfl⟩
    | exact ⟨_, congrArg Host.Outcome.next (applyAllP_eff _ s).symm⟩

/-- A command that may not change a GD field has unprivileged effects alone. -/
theorem exec_plain (i : Instr) (s : State) (h : mayGuard i = false) : ∃ es, exec i s = .next (applyAll s es) := by
  cases i <;> first
    | exact ⟨_, rfl⟩
    | exact Bool.noConfusion h

end Sys2Proof.Machine
end

