-- ==== Sys2Proof/Laws/Word.lean ====
section
/-! SUPPORT. Fields of a register word, and what the register effects leave in them. -/

namespace Sys2Proof.Machine

theorem fldMask_getLsbD (hi lo i : Nat) :
    (fldMask hi lo).getLsbD i = (decide (i < 32) && decide (lo ≤ i) && decide (i < hi + 1)) := by
  unfold fldMask
  rw [BitVec.getLsbD_ofNat, Nat.testBit_mul_two_pow, Nat.testBit_two_pow_sub_one]
  by_cases h1 : lo ≤ i <;> by_cases h2 : i < hi + 1 <;> by_cases h3 : i < 32 <;> simp [h1, h2, h3] <;> omega

theorem setFld_getLsbD (w : Word) (hi lo v i : Nat) :
    (w.setFld hi lo v).getLsbD i =
      if i < 32 ∧ lo ≤ i ∧ i < hi + 1 then v.testBit (i - lo) else w.getLsbD i := by
  unfold Word.setFld
  rw [BitVec.getLsbD_or, BitVec.getLsbD_and, BitVec.getLsbD_not, fldMask_getLsbD, BitVec.getLsbD_ofNat,
    Nat.testBit_mul_two_pow, Nat.testBit_mod_two_pow]
  by_cases h3 : i < 32
  · by_cases h1 : lo ≤ i
    · by_cases h2 : i < hi + 1
      · have h4 : i - lo < hi + 1 - lo := by omega
        simp [h1, h2, h3, h4]
      · have h4 : ¬ i - lo < hi + 1 - lo := by omega
        simp [h1, h2, h3, h4]
    · simp [h1, h3]
  · have hi' : 32 ≤ i := by omega
    simp [h3, BitVec.getLsbD_of_ge _ _ hi']

theorem fld_testBit (w : Word) (hi lo i : Nat) :
    (w.fld hi lo).testBit i = (decide (i < hi + 1 - lo) && w.getLsbD (lo + i)) := by
  unfold Word.fld
  rw [Nat.testBit_mod_two_pow, Nat.testBit_div_two_pow, Nat.add_comm i lo]
  rfl

/-- Two words that agree on a field's bits hold the same field. -/
theorem fld_congr (w x : Word) (hi lo : Nat) (h : ∀ i, lo ≤ i → i < hi + 1 → w.getLsbD i = x.getLsbD i) :
    w.fld hi lo = x.fld hi lo := by
  apply Nat.eq_of_testBit_eq
  intro i
  rw [fld_testBit, fld_testBit]
  by_cases hi' : i < hi + 1 - lo
  · rw [h (lo + i) (by omega) (by omega)]
  · simp [hi']

/-- A field just stored reads back, modulo its width. -/
theorem fld_setFld (w : Word) (hi lo v : Nat) (h : hi < 32) : (w.setFld hi lo v).fld hi lo = v % 2 ^ (hi + 1 - lo) := by
  apply Nat.eq_of_testBit_eq
  intro i
  rw [fld_testBit, setFld_getLsbD, Nat.testBit_mod_two_pow]
  by_cases hi' : i < hi + 1 - lo
  · have h1 : lo + i < 32 ∧ lo ≤ lo + i ∧ lo + i < hi + 1 := by omega
    simp [h1, hi']
  · simp [hi']

/-- A field apart from the one stored is unchanged. -/
theorem fld_setFld_other (w : Word) (hi lo v hi' lo' : Nat) (h : hi < lo' ∨ hi' < lo) :
    (w.setFld hi lo v).fld hi' lo' = w.fld hi' lo' := by
  apply fld_congr
  intro i h1 h2
  rw [setFld_getLsbD, if_neg (by omega)]

/-- A mask that covers a field passes it. -/
theorem fld_merge (w m v : Word) (hi lo : Nat) (h : hi < 32) (hc : m &&& fldMask hi lo = fldMask hi lo) :
    (w.merge m v).fld hi lo = v.fld hi lo := by
  apply fld_congr
  intro i h1 h2
  have hb : (m &&& fldMask hi lo).getLsbD i = (fldMask hi lo).getLsbD i := by rw [hc]
  rw [BitVec.getLsbD_and, fldMask_getLsbD] at hb
  have h3 : i < 32 := by omega
  have hm : m.getLsbD i = true := by simpa [h1, h2, h3] using hb
  rw [merge_getLsbD, hm]
  rfl

/-- Storing a field a register has gives the field that value, modulo its width. -/
theorem fld_applyEff_fld (s : State) (a hi lo v : Nat) (h : hi < 32)
    (hc : liveMask a &&& fldMask hi lo = fldMask hi lo) :
    (applyEff s (.fld a hi lo v)).fld a hi lo = v % 2 ^ (hi + 1 - lo) := by
  unfold State.fld
  rw [applyEff_fld, State.reg_hwReg, if_pos rfl, fld_merge _ _ _ _ _ h hc, fld_setFld _ _ _ _ h]

/-- Storing a word gives every field a register has its bits. -/
theorem fld_applyEff_reg (s : State) (a hi lo : Nat) (v : Word) (h : hi < 32)
    (hc : liveMask a &&& fldMask hi lo = fldMask hi lo) :
    (applyEff s (.reg a v)).fld a hi lo = v.fld hi lo := by
  unfold State.fld
  rw [applyEff_reg, State.reg_hwReg, if_pos rfl, fld_merge _ _ _ _ _ h hc]

/-- An effect on one register leaves every other register's word. -/
theorem reg_applyEff_fld (s : State) (a b hi lo v : Nat) (h : b ≠ a) : (applyEff s (.fld a hi lo v)).reg b = s.reg b := by
  rw [applyEff_fld, State.reg_hwReg, if_neg h]
theorem reg_applyEff_reg (s : State) (a b : Nat) (v : Word) (h : b ≠ a) : (applyEff s (.reg a v)).reg b = s.reg b := by
  rw [applyEff_reg, State.reg_hwReg, if_neg h]
theorem reg_applyEff_sq (s : State) (a b : Nat) (v : Word) (h : b ≠ a) : (applyEff s (.sq a v)).reg b = s.reg b := by
  rw [applyEff_sq, State.reg_hwReg, if_neg h]
theorem reg_applyEff_cnt (s : State) (a b hi lo n : Nat) (h : b ≠ a) : (applyEff s (.cnt a hi lo n)).reg b = s.reg b := by
  rw [applyEff_cnt, State.reg_hwReg, if_neg h]

/-! Fields through effects on other registers, on other fields of the same register, and on no register. -/

theorem fld_applyEff_fld_other (s : State) (a hi lo v hi' lo' : Nat) (h : hi < lo' ∨ hi' < lo) :
    (applyEff s (.fld a hi lo v)).fld a hi' lo' = s.fld a hi' lo' := by
  unfold State.fld
  rw [applyEff_fld, State.reg_hwReg, if_pos rfl]
  apply fld_congr
  intro i h1 h2
  rw [merge_getLsbD]
  split
  · rw [setFld_getLsbD, if_neg (by omega)]
  · rfl
theorem fld_applyEff_fld_ne (s : State) (a b hi lo v hi' lo' : Nat) (h : b ≠ a) :
    (applyEff s (.fld a hi lo v)).fld b hi' lo' = s.fld b hi' lo' := by
  unfold State.fld
  rw [reg_applyEff_fld _ _ _ _ _ _ h]
theorem fld_applyEff_reg_ne (s : State) (a b : Nat) (v : Word) (hi lo : Nat) (h : b ≠ a) :
    (applyEff s (.reg a v)).fld b hi lo = s.fld b hi lo := by
  unfold State.fld
  rw [reg_applyEff_reg _ _ _ _ h]
theorem fld_applyEff_sq_ne (s : State) (a b : Nat) (v : Word) (hi lo : Nat) (h : b ≠ a) :
    (applyEff s (.sq a v)).fld b hi lo = s.fld b hi lo := by
  unfold State.fld
  rw [reg_applyEff_sq _ _ _ _ h]
theorem fld_applyEff_cnt_ne (s : State) (a b hi' lo' n hi lo : Nat) (h : b ≠ a) :
    (applyEff s (.cnt a hi' lo' n)).fld b hi lo = s.fld b hi lo := by
  unfold State.fld
  rw [reg_applyEff_cnt _ _ _ _ _ _ h]
@[simp] theorem fld_dram (s : State) (a hi lo b : Nat) (bs : List Byte) : (applyEff s (.dram b bs)).fld a hi lo = s.fld a hi lo := by
  cases s; rfl
@[simp] theorem fld_fill (s : State) (a hi lo b n p : Nat) : (applyEff s (.fill b n p)).fld a hi lo = s.fld a hi lo := by
  cases s; rfl
@[simp] theorem fld_wipe (s : State) (a hi lo : Nat) : (applyEff s .wipe).fld a hi lo = s.fld a hi lo := by cases s; rfl
@[simp] theorem fld_nor (s : State) (a hi lo b : Nat) (bs : List Byte) : (applyEff s (.nor b bs)).fld a hi lo = s.fld a hi lo := by
  cases s; rfl
@[simp] theorem fld_emit (s : State) (a hi lo : Nat) (o : Output) : (applyEff s (.emit o)).fld a hi lo = s.fld a hi lo := by
  cases s; rfl
@[simp] theorem fld_upd (s : State) (a hi lo : Nat) (g : Dyn → Dyn) : (applyEff s (.upd g)).fld a hi lo = s.fld a hi lo := by
  cases s; rfl
@[simp] theorem fld_draw (s : State) (a hi lo : Nat) : (applyEff s .draw).fld a hi lo = s.fld a hi lo := by cases s; rfl

/-- A bit is a field of width one. -/
theorem State.bit_eq (s : State) (a i : Nat) : s.bit a i = (s.fld a i i == 1) := by
  unfold State.bit Word.bit State.fld
  have h0 := fld_testBit (s.reg a) i i 0
  rw [Nat.testBit_zero] at h0
  have h : (s.reg a).fld i i < 2 := by
    unfold Word.fld
    have : i + 1 - i = 1 := by omega
    rw [this]
    omega
  simp at h0
  rw [← h0]
  by_cases h1 : (s.reg a).fld i i = 1
  · simp [h1]
  · have : (s.reg a).fld i i = 0 := by omega
    simp [this]

/-- An event steps SEQ modulo 256 (R34). -/
theorem seq_sqEvent (w b : Word) : (sqEvent w b).fld 31 24 = (w.fld 31 24 + 1) % 256 := by
  have h : (sqEvent w b).fld 31 24 = (w.setFld 31 24 (w.fld 31 24 + 1)).fld 31 24 := by
    apply fld_congr
    intro i h1 h2
    unfold sqEvent
    rw [BitVec.getLsbD_or, BitVec.getLsbD_and]
    have : (0x00FFFFFF : Word).getLsbD i = false := by
      have : i = 24 ∨ i = 25 ∨ i = 26 ∨ i = 27 ∨ i = 28 ∨ i = 29 ∨ i = 30 ∨ i = 31 := by omega
      rcases this with h | h | h | h | h | h | h | h <;> subst h <;> rfl
    rw [this]
    simp
  exact h.trans (fld_setFld _ _ _ _ (by omega))

/-- An event sets its status bits and leaves the others (R34). -/
theorem bit_sqEvent (w b : Word) (i : Nat) (h : i < 24) : (sqEvent w b).getLsbD i = (w.getLsbD i || b.getLsbD i) := by
  unfold sqEvent
  rw [BitVec.getLsbD_or, BitVec.getLsbD_and, setFld_getLsbD, if_neg (by omega)]
  have : (0x00FFFFFF : Word).getLsbD i = true := by
    have : ∀ j : Fin 24, (0x00FFFFFF : Word).getLsbD j.val = true := by decide
    exact this ⟨i, h⟩
  rw [this]
  simp

end Sys2Proof.Machine
end

