-- ==== Sys2Proof/WellFormed.lean ====
section
/-! DEFINITION. Which commands are well formed: the operands a sender can have, beyond what their types say. The machine gives
every command a meaning, well formed or not: byte strings are cut or padded to the length the rule gives. -/

namespace Sys2Proof

/-- What an operand breaks. -/
inductive IllFormed where
  /-- A bit-error pattern longer than a word's 80 stored bytes (R358). -/
  | flipLength
  /-- A whole-word write that is not 64 bytes (R365). -/
  | wordLength
  /-- A partial write that is empty, whole or leaves its word (R366). -/
  | partLength
  /-- Hard decisions that are not one codeword of 4,608 bytes (R91). -/
  | hardLength
  /-- A frame without 24 equaliser taps (R90). -/
  | tapCount
  /-- A lane transfer of no sectors, or into a buffer that does not start a 64-byte word. -/
  | transfer
  /-- A submission queue entry that is not 64 bytes (R241). -/
  | entryLength
  /-- A feature's data that is not the length its table gives (R314, R460). -/
  | featureLength
  /-- A namespace management structure that is not 4,096 bytes (R274). -/
  | nsLength
  /-- More thermal conversions than there are converted sensors (R411). -/
  | convCount
  /-- An instruction code that Table 16.6 lists, given as BYPASS. -/
  | bypassCode
  /-- A debug access operation other than none, read and write (R478). -/
  | dbgOp
  /-- An offset beyond BAR2 (Table 9.2). -/
  | barOffset
deriving DecidableEq, Repr

/-- A check: the complaint where the condition fails. -/
def need (c : Bool) (e : IllFormed) : List IllFormed := if c then [] else [e]

/-- What is wrong with a command's operands. [DESIGN CHOICE, log 4, safe] -/
def Instr.faults : Instr → List IllFormed
  | .memoryRead _ _ flip => need (flip.length ≤ 80) .flipLength
  | .memoryWrite _ data => need (data.length = 64) .wordLength
  | .partialWrite addr data flip =>
    need (0 < data.length && data.length < 64 && addr.toNat % 64 + data.length ≤ 64) .partLength ++
    need (flip.length ≤ 80) .flipLength
  | .scrubStep flip => need (flip.length ≤ 80) .flipLength
  | .cacheRequest _ addr _ (some bs) _ => need (0 < bs.length && addr.toNat % 64 + bs.length ≤ 64) .partLength
  | .globalIteration _ hard => need (hard.length = 4608) .hardLength
  | .ddHypothesisEnd _ run => need (run.hard.length = 4608) .hardLength
  | .frameArrival _ arr => need (arr.taps.length = 24) .tapCount
  | .laneTransferStart _ x => need (0 < x.count && x.buf % 64 = 0) .transfer
  | .sqFetch (some es) => need (es.all (fun e => e.length == 64)) .entryLength
  | .setApst _ (some d) => need (d.length = 256) .featureLength
  | .setTimestamp _ (some d) => need (d.length = 8) .featureLength
  | .namespaceCreate _ (some d) => need (d.length = 4096) .nsLength
  | .thermalConversion convs => need (convs.length ≤ 26) .convCount
  | .bypass code => need (code.toNat ≠ 0 && code.toNat ≠ 1 && code.toNat ≠ 2 && code.toNat ≠ 0x20) .bypassCode
  | .dbgAccess op _ _ => need (op.toNat ≤ 2) .dbgOp
  | .sqTailDoorbell _ off _ => need (off < 65536) .barOffset
  | .cqHeadDoorbell _ off _ => need (off < 65536) .barOffset
  | _ => []

/-- A command whose operands a sender can have. -/
def Instr.wf (i : Instr) : Bool := i.faults.isEmpty

end Sys2Proof
end

