-- ==== Sys2Proof/Tests/Slice0.lean ====
section
/-! SUPPORT. Tests: the well-formedness checks, states that meet the hypotheses of every statement, and small runs of single commands
with results taken from the manual. -/

open Sys2Proof Sys2Proof.Machine

namespace Sys2Proof.Tests

/- One theorem at a time: each evaluation has the kernel's memory to itself. -/
set_option Elab.async false

/-- A device with every level released, its clocks good and its cache clear. -/
def up : State := { dyn := { rst := {
  held := 0, asserted := [], seq := none, refGood := true, pllLock := true, good := 0x1F, optDone := true,
  cores := List.replicate 4 .running }, cch := { ready := true } } }

/-- A state with some register words. -/
def regs (s : State) (l : List (Nat × Word)) : State := l.foldl (fun s p => s.putReg p.1 p.2) s

/-- A state with its other state changed. -/
def dyn (s : State) (g : Dyn → Dyn) : State := { s with dyn := g s.dyn }

/-- Buffer memory is trained, 1 GiB. -/
def mem : State := regs up [(Reg.MEM_TRAIN_STAT, 0xF0), (Reg.MEM_SIZE, 1)]

/-! Ill-formed commands (WellFormed). -/

theorem test_flipLength : (Instr.memoryRead 0 0 (zeros 81)).faults = [.flipLength] := by decide
theorem test_wordLength : (Instr.memoryWrite 0 (zeros 63)).faults = [.wordLength] := by decide
theorem test_partLength : (Instr.partialWrite 60 (zeros 8) []).faults = [.partLength] := by decide
theorem test_hardLength : (Instr.globalIteration 0 []).faults = [.hardLength] := by decide
theorem test_transfer : (Instr.laneTransferStart 0 ⟨0, 0, 0, 0, 0, 0, 0, false⟩).faults = [.transfer] := by decide
theorem test_entryLength : (Instr.sqFetch (some [zeros 63])).faults = [.entryLength] := by decide
theorem test_featureLength : (Instr.setTimestamp ⟨⟨0, 0, 0⟩, none⟩ (some [])).faults = [.featureLength] := by decide
theorem test_nsLength : (Instr.namespaceCreate ⟨⟨0, 0, 0⟩, none⟩ (some [])).faults = [.nsLength] := by decide
theorem test_convCount : (Instr.thermalConversion (List.replicate 27 .railLow)).faults = [.convCount] := by decide
theorem test_bypassCode : (Instr.bypass 0x20).faults = [.bypassCode] := by decide
theorem test_dbgOp : (Instr.dbgAccess 3 0 0).faults = [.dbgOp] := by decide
theorem test_barOffset : (Instr.sqTailDoorbell 0 65536 .read).faults = [.barOffset] := by decide

/-- A frame's read-back side. -/
def arr (n taps : Nat) : Arrival := ⟨n, 0, [], none, 0, 0, List.replicate taps 0, 0⟩

theorem test_tapCount : (Instr.frameArrival 0 (arr 0 23)).faults = [.tapCount] := by decide
theorem test_wellFormed : (Instr.frameArrival 0 (arr 0 24)).wf = true ∧ (Instr.memoryWrite 0 (zeros 64)).wf = true := by decide

/-! Hypotheses of the statements that have any, clause by clause. -/

theorem witness_StepRunsTheFrontCommand : up.pending = [] := by decide

theorem witness_StepKeepsStores : mem.wf = true ∧ mem.regs ≠ [] := by decide +kernel

theorem witness_GuardedBitsKept : mayGuard .idcode = false ∧ mayGuard (.memoryWrite 0 []) = false := by decide

theorem witness_RegisterWriteByType :
    plainBlk Reg.HQE_ARB = true ∧ Reg.HQE_ARB % 4 = 0 ∧ Reg.HQE_ARB < 0x800000 ∧
    (regDef Reg.HQE_ARB).map (fun d => (d.guarded, d.pair)) = some (false, .one) ∧
    initiatorOk up .mc0 = true ∧ up.up (domOf Reg.HQE_ARB) = true := by decide +kernel

theorem witness_SqWriteClears : sqPlain.all (accReady up .mc0) = true := by decide +kernel

theorem witness_EventStepsSeq : (regDef Reg.PAD_STAT).map (fun d => d.tyMask .sq &&& 0xFF000000) = some 0xFF000000 ∧
    (statusMask Reg.PAD_STAT).getLsbD 0 = true := by decide +kernel

/-- Level D3 is held. -/
def noMem : State := dyn up (fun d => { d with rst := { d.rst with held := 0x008 } })

theorem witness_StoppedAccesses :
    (initiatorOk noMem .pcie0 = true ∧ noMem.up 0 = true ∧ mapped (regAt 0x7FFFF8) = false ∧ mapped (regAt 0x7FFFFC) = false) ∧
    (mapped (regAt Reg.MEM_STAT) = true ∧ noMem.up (domOf (regAt Reg.MEM_STAT)) = false) := by decide +kernel

theorem witness_WriteErrors :
    busError up 0x7FFFFC 4 true = some .unmapped ∧ busError noMem Reg.MEM_STAT 4 true = some .inReset ∧
    busError up Reg.SYS_LOCK 2 true = some .narrow ∧ up.fld Reg.SYS_ERR_STAT 23 0 = 0 ∧
    (regs up [(Reg.SYS_ERR_STAT, 1)]).fld Reg.SYS_ERR_STAT 23 0 ≠ 0 ∧ 0x30 % 2 = 0 ∧ 0x31 % 2 ≠ 0 ∧ mapped 0x30 = true ∧
    up.up (domOf 0x30) = true := by decide +kernel

/-- The shadow of MC0 holds the high word of the scrub base, and so does its stage the low word. -/
def tagged : State := dyn up (fun d => { d with sys := { d.sys with
  shadow := setAt d.sys.shadow 0 (some (Reg.MEM_SCRUB_BASE_LO + 4, 7)),
  stage := setAt d.sys.stage 0 (some (Reg.MEM_SCRUB_BASE_LO, 9)) } })

theorem witness_RegisterPairs :
    plainPairs.all (accReady tagged .mc0) = true ∧
    tagged.dyn.sys.shadow.getD 0 none = some (Reg.MEM_SCRUB_BASE_LO + 4, 7) ∧
    staged tagged .mc0 Reg.MEM_SCRUB_BASE_LO = some 9 ∧ staged up .mc0 Reg.MEM_SCRUB_BASE_LO = none := by decide +kernel

theorem witness_AliasWriteOneBit : plainAlias.all (accReady up .mc0) = true := by decide +kernel

/-- MC0 has a sequence open for RST_SELF with the value 1. -/
def guardAt (a : Nat) (v : Word) : State := dyn (regs up [(Reg.SYS_GUARD_TGT, w32 a), (Reg.SYS_GUARD_STAT, 2)]) (fun d =>
  { d with sys := { d.sys with guard := { val := some v } } })

theorem witness_GuardedWrite :
    guardOpen up = false ∧ initiatorOk up .mc0 = true ∧ up.up 0 = true ∧
    (guardOpen (guardAt Reg.SHL_CFG 5) = true ∧ guardOwner (guardAt Reg.SHL_CFG 5) = Initiator.mc0.id ∧
      isGuarded (guardTarget (guardAt Reg.SHL_CFG 5)) = true ∧
      (guardAt Reg.SHL_CFG 5).bit Reg.SYS_LOCK (lockBit (blkOf Reg.SHL_CFG).1) = false ∧
      (guardAt Reg.SHL_CFG 5).up (domOf Reg.SHL_CFG) = true) ∧
    (guardTarget (guardAt Reg.RST_SELF 1) = Reg.RST_SELF ∧ (guardAt Reg.RST_SELF 1).bit Reg.SYS_LOCK 1 = false) ∧
    guardTarget (guardAt Reg.RST_WDOG 1) = Reg.RST_WDOG := by decide +kernel

theorem witness_GuardFailures :
    guardCause (guardAt Reg.RST_SELF 1) 1 = some 2 ∧ guardCause (guardAt Reg.SYS_ID 1) (~~~1) = some 4 ∧
    guardCause (regs (guardAt Reg.RST_SELF 1) [(Reg.SYS_LOCK, 2)]) (~~~1) = some 5 ∧
    guardCause (regs up [(Reg.SYS_GUARD_TGT, w32 Reg.RST_SELF), (Reg.SYS_GUARD_STAT, 2)]) 0 = some 6 ∧
    accReady up .mc0 Reg.SYS_LOCK = true := by decide +kernel

/-- A posted write to the fuses is in progress. -/
def posted : State := dyn up (fun d => { d with sys := { d.sys with ind := some (6, 0, 1) } })

theorem witness_IndirectWindow : accReady up .mc0 Reg.SYS_IND_DATA = true ∧ up.dyn.sys.ind = none ∧
    accReady posted .mc0 Reg.SYS_IND_DATA = true ∧ posted.dyn.sys.ind = some (6, 0, 1) ∧
    indAnswer up 0 0x1004 none = none ∧ indAnswer up 0 0 none ≠ none := by decide +kernel

theorem witness_IndirectOffsetAdvances : accReady posted .mc0 Reg.SYS_IND_DATA = true := by decide +kernel

/-! Lanes and deep decoders. -/

/-- Lane 0 with some internal state. -/
def lane0 (s : State) (l : LaneD) : State := dyn s (fun d => { d with ch := { d.ch with lanes := setAt d.ch.lanes 0 l } })

/-- A read of two sectors of band 1 by group 0. -/
def xfer : LaneXfer := ⟨0, 1, 0, 2, 7, 1, 0x1000, false⟩

/-- Lane 0 is enabled, locked and ready, and its position transfers. -/
def ready : State := lane0 (regs up [(Reg.LN_CTL 0, 3), (Reg.LN_RATE 0, 0x80000000 + 4000000), (Reg.EBB_STAT 0 0, 0xF000)])
  { ready := true }

/-- The lane transfers, and the first frame of band 1 waits for its decision. -/
def frame (n : Nat) : LFrame := ⟨n, 0, 1, 0, 7, 1, 0x1000, 0, 0, 0, 0, none, none, 0, [], none, 368, [], false, 0, 0, 0, 0, 0, [], 0⟩
def busy : State := lane0 ready { ready := true, xfer := some xfer, next := 1, frames := [frame 0] }

theorem witness_LaneRates :
    (accReady ready .mc0 (Reg.LN_RATE 0) = true ∧ (ready.lane 0).xfer = none ∧
      (5 : Word).fld 22 0 ≠ ready.fld (Reg.LN_RATE 0) 22 0) ∧
    (accReady busy .mc0 (Reg.LN_RATE 0) = true ∧ (busy.lane 0).xfer = some xfer) ∧
    (let s := lane0 up { rateNew := some 5 }
     (s.lane 0).rateNew = some 5 ∧ laneUp s 0 = true ∧ (s.lane 0).xfer = none) ∧
    ready.up 64 = true ∧ laneUp ready 0 = true ∧ rateOk (ready.fld (Reg.LN_RATE 0) 22 0) = true ∧ rateOk (up.fld (Reg.LN_RATE 0) 22 0) = false ∧
    rateOk 2200000 = true ∧ rateOk 5400000 = true ∧ rateOk 2199999 = false ∧ rateOk 5400001 = false := by decide +kernel

/-- Two sectors wait for buffer memory, and the rest of a cut transfer is due. -/
def stalled : State := lane0 ready { ready := true, outq := [(0, []), (4160, [])], resume := some xfer }

theorem witness_LaneTransfers :
    (accReady up .mc0 (Reg.LN_CTL 0) = true ∧ up.bit (Reg.LN_CTL 0) 1 = false) ∧
    (let s := dyn ready (fun d => { d with pwr := { d.pwr with granted := [(2, 0)] } })
     laneUp s 0 = true ∧ s.bit (Reg.LN_CTL 0) 1 = true ∧ hasGrant s 2 0 = true) ∧
    (canStart ready 0 xfer = true ∧ (applyAll ready (rateTake 0 ready)).bit (Reg.LN_RATE 0) 31 = true ∧ ready.dyn.ch.lanes.length = 16) ∧
    (reqReady stalled = false ∧ laneUp stalled 0 = true ∧ 2 ≤ (stalled.lane 0).outq.length ∧
      (stalled.lane 0).resume = some xfer ∧ canStart stalled 0 xfer = true) := by decide +kernel

/-- A sector of head 0, band 1, sector 0, epoch 7 and KIND 1, all zeros, encoded. -/
def code : List Byte := ldpcEncode (zeros 4096 ++ metaTag 0 1 0 1 7 ++ zeros 8)

theorem syndrome_code : syndrome (fit 4608 code) = List.replicate 31 0 := by decide +kernel
theorem witness_FramesDecoded_code : isCodeword (fit 4608 code) = true := by
  unfold isCodeword; rw [syndrome_code]; rfl
theorem witness_FramesDecoded_checks : frameChecks 0 1 0 1 7 (fit 4608 code) = 0 := by decide +kernel
theorem witness_FramesDecoded_wrong : isCodeword (fit 4608 (1 :: zeros 4607)) = false := by decide +kernel

theorem witness_FramesDecoded :
    (busy.lane 0).outq = [] ∧ laneUp busy 0 = true ∧ (busy.lane 0).xfer = some xfer ∧ (arr 1 24).sector = (busy.lane 0).next ∧
    (busy.lane 0).frames = [frame 0] ∧ (frame 0).iter + 1 < maxIter busy 0 ∧
    maxIter busy 0 ≤ ({ frame 0 with iter := 11 } : LFrame).iter + 1 := by decide +kernel

/-- Lane 3's record waits, and then is being written to slot 2. -/
def capWait : State := dyn mem (fun d => { d with ch := { d.ch with lanes := setAt d.ch.lanes 3 { cap := some (2, frame 5) } } })
def capBusy : State := dyn capWait (fun d => { d with ch := { d.ch with writing := some 3 } })

theorem witness_CaptureAndFailures :
    (capWait.dyn.ch.writing = none ∧ nextCapture capWait = some 3 ∧ laneUp capWait 3 = true ∧ reqReady capWait = true) ∧
    (capBusy.dyn.ch.writing = some 3 ∧ (capBusy.lane 3).cap = some (2, frame 5) ∧ (frame 5).reason = 0) ∧
    accReady up .mc0 (Reg.LN_CAP_FREE 0) = true ∧
    (accReady up .mc0 (Reg.LN_FAIL_LO 0) = true ∧ ((lane0 up { fails := [(1, 2)] }).lane 0).fails = [(1, 2)]) := by decide +kernel

/-- A deep decoder job's descriptor: two records, at 0x2000 and 0x3000, 8 iterations. -/
def desc : List Byte := leBytes 8 0x2000 ++ leBytes 8 0x3000 ++ zeros 16 ++ leBytes 8 0x8000 ++ zeros 8 ++ [8, 1, 1] ++ zeros 13

/-- A record's header: band 1, sector 0, epoch 7, KIND 1. -/
def rec : List Byte := [0, 0, 1, 0, 0, 0, 0, 0, 7, 0, 1] ++ zeros 117

/-- Decoder 0 is enabled and the job ring has one entry, at address 0. -/
def decJob : State := applyEff (regs mem [(Reg.DEC_CTL, 1), (Reg.DEC_JQ_TAIL, 1)]) (.dram 0 desc)
def decAt (j : DdJob) : State := dyn mem (fun d => { d with dec := { d.dec with jobs := setAt d.dec.jobs 0 (some j) } })
def job : DdJob := { index := 0, desc := desc, heads := [rec], cur := some ⟨0, 0⟩ }
def decDone : State := decAt { job with cur := none, result := some { status := 0 } }

theorem witness_DeepDecoderJobs :
    (reqReady decJob = true ∧ ddIdle decJob = some 0 ∧ 0 ≠ decJob.fld Reg.DEC_JQ_TAIL 9 0 % decEntries (decJob.reg Reg.DEC_JQ_SIZE) ∧
      reqRead decJob (decJob.pair Reg.DEC_JQ_BASE_LO) 64 = some desc ∧ ddBadDesc desc = false) ∧
    (let s := applyEff (decAt { job with heads := [], cur := none }) (.dram 0x2000 rec)
     reqReady s = true ∧ decUp s 0 = true ∧ ([] : List (List Byte)).length + 1 < ddCaps job ∧ reqRead s 0x2000 128 = some rec ∧
      (reqRead s (0x2000 + 128) (2 * min 40960 (leAt rec 28 2))).isSome = true ∧ (reqRead s (leAt desc 40 8) 0).isSome = true) ∧
    (decAt { job with cur := none, search := true }).ddJob 0 = some { job with cur := none, search := true } ∧
    ((decAt job).ddJob 0 = some job ∧ job.cur = some ⟨0, 0⟩ ∧ job.result = none ∧ decUp (decAt job) 0 = true ∧
      1 ≤ (if leAt job.desc 51 1 = 0 then 8 else leAt job.desc 51 1)) ∧
    (decDone.ddJob 0 = some { job with cur := none, result := some { status := 0 } } ∧ cqFull decDone = false ∧
      cqFull (regs decDone [(Reg.DEC_CQ_TAIL, 15)]) = true) ∧
    (decAt { job with cur := none, result := some { status := 0 }, stuck := true }).ddJob 0 =
      some { job with cur := none, result := some { status := 0 }, stuck := true } := by decide +kernel

theorem witness_DeepDecoderJobs_code : unsatisfied (fit 4608 code) = 0 := by
  unfold unsatisfied; rw [syndrome_code]; decide
theorem witness_DeepDecoderJobs_checks : ddChecks job (fit 4608 code) = 0 := by decide +kernel

/-! Write paths and assist. -/

/-- Actuator 0's write block with some internal state, its link on, its engine following in track. -/
def wa0 (l : List (Nat × Word)) (w : WaD) : State :=
  dyn (regs mem ([(Reg.FE_CTL 0, 1), (Reg.EBB_STAT 0 0, 0xF000), (Reg.WP_CTL 0 0, 0xD), (Reg.WP_RATE 0 0, 0x80000000 + 4000000),
    (Reg.AS_STATE 0 0, 3), (Reg.WP_CNT 0 0, 2)] ++ l))
    (fun d => { d with wa := setAt d.wa 0 w, hl := modAt d.hl 0 (fun h => { h with onTrk := [9, 9, 9, 9] }) })

/-- A path's state, other paths idle. -/
def p0 (p : PathD) : List PathD := setAt (List.replicate 4 {}) 0 p

theorem witness_WriteTransfers :
    (let s := wa0 [] { drv := 1 }
     (s.waD 0).drv.testBit 0 = true ∧ accReady s .mc0 (Reg.WA_GO 0) = true ∧ (s.waD 0).paths.any (fun p => p.on) = false ∧
      (bitsOf 4 ((1 : Word).fld 3 0)).filter (fun j => s.bit (Reg.WP_CTL 0 j) 0) = [0] ∧ s.fld (Reg.WP_CNT 0 0) 15 0 ≠ 0 ∧
      s.bit (Reg.WP_RATE 0 0) 31 = true ∧ s.bit (Reg.WP_CTL 0 0) 2 = true ∧ asState s 0 (4 * groupOf s 0 + 0) ≠ 0 ∧
      ownBand 0 (pathBand s 0 0) = true) ∧
    (let s := wa0 [] { paths := p0 { on := true } }
     (s.waD 0).paths.any (fun p => p.on) = true ∧ enableDrv 0 s = [] ∧ pathReady s 0 0 = true ∧ nextEnd s 0 0 = .all ∧
      pathState s 0 0 = 1 ∧ (s.path 0 0).restart = false ∧ (s.path 0 0).next = s.fld (Reg.WP_LOC 0 0) 16 0) ∧
    (let s := wa0 [] { paths := p0 { on := true, restart := true } }
     enableDrv 0 s = [] ∧ pathReady s 0 0 = true ∧ nextEnd s 0 0 = .all ∧ pathState s 0 0 = 1 ∧ (s.path 0 0).restart = true) ∧
    (let s := applyEff (applyEff (wa0 [] { paths := p0 { on := true, left := 1 } }) (.fill 0 4160 0)) (.dram 4096 (leBytes 8 (2 ^ 48 - 1)))
     enableDrv 0 s = [] ∧ pathReady s 0 0 = true ∧ pathState s 0 0 = 1 ∧ (s.path 0 0).restart = false ∧
      nextEnd s 0 0 = .metaBad) ∧
    (let s := wa0 [(Reg.WP_CTL 0 0, 5)] { paths := p0 { idleDrv := true } }
     feUp s 0 = true ∧ (s.path 0 0).idleDrv = true ∧ (s.path 0 0).on = false) ∧
    (let s := wa0 [(Reg.WP_CTL 0 0, 0x15)] { paths := p0 { on := true } }
     pathState s 0 0 = 2 ∧ inhibited s 0 = false ∧ (s.path 0 0).left = 0) ∧
    (let s := wa0 [(Reg.WP_CTL 0 0, 0x15), (Reg.WA_CFG 0, 0x84A00)] { paths := p0 { on := true, next := 1, left := 1 } }
     pathState s 0 0 = 2 ∧ inhibited s 0 = false ∧ 0 + 1 = (s.path 0 0).next ∧ 0 < (s.path 0 0).left ∧
      (s.waD 0).retry < s.fld (Reg.WA_CFG 0) 10 8) := by decide +kernel

theorem witness_AssistHeads :
    (let s := dyn (wa0 [(Reg.AS_STATE 0 0, 0)] {}) (fun d => { d with pwr := { d.pwr with granted := [(1, 0)] } })
     feOn s 0 = true ∧ asState s 0 0 = 0 ∧ hasGrant s 1 0 = true) ∧
    asState (wa0 [(Reg.AS_STATE 0 0, 1)] {}) 0 0 = 1 ∧
    (let s := wa0 [(Reg.AS_STATE 0 0, 2), (Reg.WA_ASSIST2 0, 0x500)] {}
     feOn s 0 = true ∧ asState s 0 0 = 2 ∧ s.fld (Reg.WA_ASSIST2 0) 15 8 ≠ 0) ∧
    (let s := wa0 [(Reg.AS_STATE 0 0, 2)] {}
     feOn s 0 = true ∧ asState s 0 0 = 2 ∧ s.fld (Reg.WA_ASSIST2 0) 15 8 = 0) ∧
    (let s := wa0 [] {}
     feUp s 0 = true ∧ asState s 0 0 = 3 ∧ (s.path 0 (0 % 4)).wg = false) ∧
    (let s := wa0 [(Reg.AS_STATE 0 0, 2)] { paths := p0 { on := true } }
     enableDrv 0 s = [] ∧ feOn s 0 = true ∧ inhibited s 0 = false ∧
      ((List.range 4).filter (fun j => (s.path 0 j).on)).map (fun j => 4 * (s.waD 0).group + j) = [0] ∧
      [0].any (fun k => asState s 0 k < 2) = false ∧ [0].filter (fun k => asState s 0 k == 2) ≠ []) ∧
    accReady up .mc0 (Reg.AS_PWR 0 0 0) = true := by decide +kernel

theorem witness_FrontEndLink :
    (feOn (wa0 [] { feId := 7 }) 0 = true ∧ (7 : BitVec 16).toNat = ((wa0 [] { feId := 7 }).waD 0).feId) ∧
    ((wa0 [] { bad := 2 }).waD 0).bad = 2 ∧ (accReady up .mc0 (Reg.FE_CTL 0) = true ∧ up.bit (Reg.FE_CTL 0) 0 = false) ∧
    (feUp up 0 = true ∧ (up.waD 0).faultN = false) ∧ accReady up .mc0 (Reg.WA_KILL 0) = true := by decide +kernel

theorem witness_WriteInhibits :
    (regs up [(Reg.HL_FLAGS 0, 0x20)]).bit (Reg.HL_FLAGS 0) 5 = true ∧ ((wa0 [] { faultN := true }).waD 0).faultN = true ∧
    (regs up [(Reg.FE_STAT 0, 1)]).bit (Reg.FE_STAT 0) 0 = true ∧ (regs up [(Reg.WA_KILL 0, 1)]).bit (Reg.WA_KILL 0) 0 = true ∧
    (let s := dyn (wa0 [(Reg.WP_CTL 0 0, 0x15)] { paths := p0 { on := true } }) (fun d => { d with
       hl := modAt d.hl 0 (fun h => { h with missed := [true, false, false, false] }) })
     0 ∈ writing s 0 ∧ (s.hl 0).missed.getD 0 false = true) ∧ writing (wa0 [] {}) 0 = [] ∧
    (let s := wa0 [(Reg.WP_CTL 0 0, 0x15), (Reg.WA_KILL 0, 1)] { paths := p0 { on := true } }
     feUp s 0 = true ∧ inhibitOf s 0 .kill = true ∧ (List.range 4).filter (fun j => pathState s 0 j == 2) = [0]) ∧
    (let s := wa0 [] { cut := true, verify := true }
     (s.waD 0).cut = true ∧ (s.waD 0).verify = true) ∧
    (let s := wa0 [(Reg.WA_CFG 0, 0x84A00)] { cut := true }
     (s.waD 0).cut = true ∧ (s.waD 0).verify = false ∧ inhibited s 0 = false ∧
      (s.waD 0).retry < s.fld (Reg.WA_CFG 0) 10 8) ∧
    (let s := wa0 [(Reg.WA_CFG 0, 0x84A00)] { cut := true, retry := 2 }
     (s.waD 0).cut = true ∧ s.fld (Reg.WA_CFG 0) 10 8 ≤ (s.waD 0).retry) := by decide +kernel

/-! Headland. -/

/-- Engine 0 with some internal state. -/
def hl0 (l : List (Nat × Word)) (h : HlD) : State := dyn (regs up l) (fun d => { d with hl := setAt d.hl 0 h })

/-- MC0 has staged a low word. -/
def stage (s : State) (a : Nat) : State := dyn s (fun d => { d with sys := { d.sys with stage := setAt d.sys.stage 0 (some (a, 9)) } })

theorem witness_EngineMemoryWrites :
    (let s := hl0 [] {}
     isEngMem 0x4000 = true ∧ accReady s .mc0 (actAddr 0 0x4000) = true ∧ (s.hl 0).ramp = [] ∧ directWrites s 0 = false ∧
      s.bit (Reg.HL_CTL 0) 16 = false ∧ (s.hl 0).queue.length < 32) ∧
    (let s := hl0 [(Reg.HL_CTL 0, 0x10000)] {}
     accReady s .mc0 (actAddr 0 0x4000) = true ∧ directWrites s 0 = false ∧ s.bit (Reg.HL_CTL 0) 16 = true ∧
      (s.hl 0).hold.length < 64) ∧
    64 ≤ ((hl0 [(Reg.HL_CTL 0, 0x10000)] { hold := List.replicate 64 (0x4000, 1) }).hl 0).hold.length ∧
    directWrites (hl0 [(Reg.HL_CTL 0, 8)] {}) 0 = true ∧
    (let s := hl0 [] { queue := [(0x4000, 5)] }
     hlUp s 0 = true ∧ (s.hl 0).queue = [(0x4000, (5 : Word).toNat)] ∧ armedAct s 0 = false) ∧
    (accReady (hl0 [(Reg.HL_CTL 0, 0x10000)] {}) .mc0 (Reg.HL_CTL 0) = true) ∧
    (let s := stage up (Reg.HL_PM_DATA_LO 0)
     accReady s .mc0 (Reg.HL_PM_DATA_HI 0) = true ∧ staged s .mc0 (Reg.HL_PM_DATA_LO 0) = some 9 ∧
      s.bit (Reg.HL_CTL 0) 0 = false ∧ (regs s [(Reg.HL_CTL 0, 1)]).bit (Reg.HL_CTL 0) 0 = true) ∧
    (let s := stage up (Reg.TIDE_LO 0 5)
     accReady s .mc0 (Reg.TIDE_HI 0 5) = true ∧ staged s .mc0 (Reg.TIDE_LO 0 5) = some 9 ∧ directWrites s 0 = false ∧
      (s.hl 0).ramp = [] ∧ (s.hl 0).queue.length < 32) := by decide +kernel

theorem witness_HeadlandStatesAndLinks :
    (let s := hl0 [(Reg.HL_CTL 0, 1)] {}
     accReady s .mc0 (Reg.HL_CTL 0) = true ∧ hlState s 0 = 0 ∧ s.bit (Reg.HL_CTL 0) 0 = true ∧ (s.hl 0).stopped = false ∧
      s.bit (Reg.HL_FLAGS 0) 5 = false ∧ (s.hl 0).hold = [] ∧ s.up 34 = true ∧
      s.dyn.keepParked.contains 0 = true ∧ (dyn s (fun d => { d with keepParked := [] })).dyn.keepParked.contains 0 = false) ∧
    (hl0 [(Reg.HL_CTL 0, 1), (Reg.HL_FLAGS 0, 0x20)] {}).bit (Reg.HL_FLAGS 0) 5 = true ∧
    (hlState (hl0 [(Reg.HL_CTL 0, 0x2001)] {}) 0 = 2 ∧ (hl0 [(Reg.HL_CTL 0, 0x2001)] {}).bit (Reg.HL_RAMP_CTL 0) 1 = false) ∧
    (let s := hl0 [(Reg.HL_CTL 0, 0x3005)] { park := 1 }
     hlUp s 0 = true ∧ s.bit (Reg.HL_CTL 0) 2 = true ∧ (1 : BitVec 16).getLsbD 0 = true ∧ (1 : BitVec 16).getLsbD 2 = false ∧
      (1 : BitVec 16).getLsbD 3 = false ∧
      hlState s 0 = 3 ∧ (s.hl 0).park ≠ 0 ∧ s.bit (Reg.HL_RAMP_CTL 0) 1 = false) ∧
    (hlState (hl0 [(Reg.HL_CTL 0, 0x4005)] { park := 1 }) 0 = 4 ∧ ((hl0 [(Reg.HL_CTL 0, 0x4005)] { park := 1 }).hl 0).park = 1) ∧
    (hlState (hl0 [(Reg.HL_CTL 0, 0x4005)] { park := 2 }) 0 = 4 ∧ ((hl0 [(Reg.HL_CTL 0, 0x4005)] { park := 2 }).hl 0).park = 2) ∧
    (hlUp up 0 = true ∧ (regs up [(Reg.HL_CTL 0, 2)]).bit (Reg.HL_CTL 0) 1 = true) ∧
    (let s := hl0 [(Reg.HL_CTL 0, 0x2005)] {}
     (4 : BitVec 16).getLsbD 2 = true ∧ (s.hl 0).sentUnload = false ∧ hlState s 0 ≠ 4 ∧ s.bit (Reg.HL_CTL 0) 2 = true) ∧
    (accReady up .mc0 (Reg.HL_FLAGS 0) = true ∧ hlState up 0 = 0 ∧ (0x20 : Word).fld 31 24 = up.fld (Reg.HL_FLAGS 0) 31 24 ∧
      (0x20 : Word).getLsbD 5 = true) := by decide +kernel

theorem witness_TokensRun :
    (let s := hl0 [(Reg.HL_CTL 0, 1), (Reg.LN_CTL 2, 1)] {}
     (s.hl 0).queue.length < 32 ∧ hlUp s 0 = true ∧ hlReplay s 0 = false ∧ hlRuns s 0 = true ∧ (enabledPos s 0).contains 2 = true) ∧
    hlReplay (hl0 [(Reg.HL_CTL 0, 8)] {}) 0 = true ∧ (hl0 [(Reg.HL_CTL 0, 0x10000)] {}).bit (Reg.HL_CTL 0) 16 = true ∧
    (let s := hl0 [(Reg.HL_CTL 0, 0x2001), (Reg.HL_RAMP_ADDR 0 0, 0x4000)] {}
     accReady s .mc0 (Reg.HL_RAMP_CTL 0) = true ∧ s.bit (Reg.HL_RAMP_CTL 0) 1 = false ∧ hlState s 0 = 2 ∧
      ((List.range (min 16 (((0x10000 : Word) ||| 1).fld 20 16))).map (rampEntry s 0)).any (fun e => !rampOffOk e.off) = false) := by
  decide +kernel

/-- Actuator 0 follows with group 0, 10% of 100 tracks. -/
def ebb (l : List (Nat × Word)) (e : EbbG) : State :=
  hl0 ([(Reg.HL_CTL 0, 0x2001), (Reg.EBB_CFG 0, 0x0102050A), (Reg.EBB_STROKE 0, 100)] ++ l) { ebb := setAt (List.replicate 4 {}) 0 e }

theorem witness_EbbMode :
    (let s := ebb [] {}
     hlRuns s 0 = true ∧ hlState s 0 = 2 ∧ groupOf s 0 = 0 ∧ s.fld (Reg.EBB_STAT 0 0) 5 4 = 0 ∧ ebbReason s 0 0 = 0) ∧
    (ebbReason (ebb [(Reg.THM_STAT, 0x800)] {}) 0 0 = 4) ∧
    (let s := ebb [(Reg.EBB_STAT 0 0, 0x3010)] { dwell := 32 }
     s.fld (Reg.EBB_STAT 0 0) 5 4 ≠ 0 ∧ ebbReason s 0 0 = 0 ∧ roundDone s 0 0 5 (ebbSets s 0 0 1 (ebbOf s 0 0).split) ⟨[], []⟩ = true ∧
      roundDone (ebb [(Reg.EBB_STAT 0 0, 0x3010)] { start := some (1, 5) }) 0 0 6 (ebbSets s 0 0 1 0) ⟨[], []⟩ = false ∧
      16 * max 1 (s.fld (Reg.EBB_CFG 0) 23 16) ≤ (ebbOf s 0 0).dwell) := by decide +kernel

/-! Commands, calibration, media and zones. -/

/-- A submission queue entry of an opcode with some dwords. -/
def sqe (op nsid : Nat) (dw : List (Nat × Nat)) : List Byte :=
  (List.range 16).flatMap (fun k => leBytes 4 (if k = 0 then op else if k = 1 then nsid else
    ((dw.find? (fun x => x.1 == k)).map (fun x => x.2)).getD 0))

/-- The command with CID 5 in queue `q` of link 0. -/
def cmd (q : Nat) (e : List Byte) (w : HWork) (done : Option Cpl) : HCmd := ⟨0, q, 5, 1, e, 0, w, done, false, [], false⟩
/-- Its name. -/
def ref (q : Nat) : CmdRef := ⟨0, BitVec.ofNat 16 q, 5⟩

/-- PCIe link 0 with an I/O queue pair. -/
def link0 : Link := {
  id := 0, pcie := true, st := 2, sqs := [⟨0, 0, 16, 0, 0, 0, 0, false⟩, ⟨1, 0x10000, 16, 0, 0, 1, 0, false⟩],
  cqs := [⟨0, 0x20000, 16, 0, 0, true, true, 0⟩, ⟨1, 0x30000, 16, 0, 0, true, true, 1⟩] }

/-- A trained device with a link and a command in it. -/
def host (l : List (Nat × Word)) (k : Link) (cs : List HCmd) (g : Dyn → Dyn) : State :=
  dyn (regs mem l) (fun d => g { d with hq := { d.hq with links := [k], cmds := cs } })

/-- The same for one idle command. -/
def hostCmd (q : Nat) (e : List Byte) (g : Dyn → Dyn) : State := host [] link0 [cmd q e .idle none] g

set_option maxRecDepth 100000 in
theorem witness_CalibrationRuns :
    (let e := sqe 0xC0 0 [(10, 0x3F)]
     let s := hostCmd 0 e id
     cmdReady s (ref 0) true 0xC0 (cmd 0 e .idle none) = true ∧ s.up 19 = true ∧ (calRun s).isNone = true ∧
      ((cmd 0 e .idle none).cdw 10).bit 8 = false ∧ ((cmd 0 e .idle none).cdw 10).fld 5 0 = 0x3F ∧
      ((cmd 0 e .idle none).cdw 10).fld 19 16 = 0) ∧
    (let e := sqe 0xC0 0 [(10, 0x13F)]
     cmdReady (hostCmd 0 e id) (ref 0) true 0xC0 (cmd 0 e .idle none) = true ∧ (calCurrent (hostCmd 0 e id)).isNone = true ∧
      ((cmd 0 e .idle none).cdw 10).bit 8 = true) ∧
    (let r : CalRun := { no := 1, items := 1, compat := false, acts := 1 }
     let s := host [] link0 [cmd 0 [] .cal none] (fun d => { d with cal := some r })
     calRun s = some r ∧ (bitsOf 6 r.items).contains 0 = true ∧ (r.groups 0).contains 0 = true ∧ (r.at 0 0 0).done = false ∧
      hlUp s 0 = true ∧ actIdle s 0 = true ∧ (r.at 0 0 0).units + 1 < calUnits 0 ∧ r.done = false ∧
      atCritical s = false ∧ atCritical (regs s [(Reg.THM_STAT, 0xC000)]) = true) ∧
    (let r : CalRun := { no := 1, items := 2, compat := true, acts := 1, meas := [{ item := 1, group := 0, idx := 0, acc := [some [7]] }] }
     let s := host [] link0 [cmd 0 [] .cal none] (fun d => { d with cal := some r })
     calRun s = some r ∧ r.done = true ∧ s.up 19 = true ∧ atCritical s = false ∧ calCurrent s = none) := by decide +kernel

/-- A ladder for sector 64 of band 1 of head 0, whose stored frame is a parity frame of KIND 1. -/
def ladder (step : Nat) : Ladder := ⟨0, 1, 64, 0, false, 1, step, 1, 0⟩
def parity : List Byte := zeros 4096 ++ metaTag 0 1 64 1 0 ++ zeros 8
def recov (step : Nat) (table : List Reloc) (g : Dyn → Dyn) : State := dyn mem (fun d => g { d with
  rcv := { d.rcv with ladders := [ladder step] },
  media := { d.media with secs := [⟨0, 1, 64, parity, false⟩], ptr := [(0, 1, 67584)], table := table },
  rst := { d.rst with optRam := zeros 3072 ++ [3, 2, 1, 0, 0, 0, 30, 0, 0, 1, 9, 0] } })

set_option maxRecDepth 100000 in
theorem witness_LadderSteps :
    (let s := recov 0 [] id
     ladderOf s 0 1 64 = some (ladder 0) ∧ mediaReady s = true ∧ storedInfo s 0 1 64 = some parity ∧ infoOk s 0 1 64 parity = true ∧
      nextStep s (ladder 0) = some 1 ∧ deepJob.wins ⟨true, 0, 64, false⟩ = true ∧ deepJob.wins ⟨true, 0, 65, false⟩ = false) ∧
    (let s := recov 1 [] id
     nextStep s (ladder 1) = some 2 ∧ actFree s (0 / 16) = true) ∧
    nextStep (recov 2 [] id) (ladder 2) = some 3 ∧
    (let s := recov 3 [] id
     nextStep s (ladder 3) = some 4 ∧ actFree s (0 / 16) = true ∧ 64 % 66 = 64 ∧ 2 < (runGone s 0 1 0 64 []).length) ∧
    (let s := recov 3 ((List.range 64).map (fun k => ⟨0, 1, k, 0, 3, 4, true⟩)) id
     nextStep s (ladder 3) = some 4 ∧ actFree s (0 / 16) = true ∧ runGone s 0 1 0 64 [] = [64, 65] ∧
      sectKind s (zoneOf s 0 1) 64 = 1 ∧ epochOf s (zoneOf s 0 1) = 0) ∧
    (let s := regs (recov 4 [] id) [(Reg.HL_CTL 2, 0x2001)]
     nextStep s (ladder 4) = some 5 ∧ actFree s (twin 0 / 16) = true ∧ laneUp s (headLane (twin 0)) = true ∧
      actFree (dyn s (fun d => { d with wa := modAt d.wa (twin 0 / 16) (fun w => { w with paths := modAt w.paths 0 (fun p =>
        { p with on := true }) }) })) (twin 0 / 16) = false) := by decide +kernel

theorem length_parP (ds : List (List Byte)) : (parP 4112 ds).length = 4112 := by
  have h : ∀ (l : List (List Byte)) (a : List Byte), (l.foldl (fun a d => xorBytes a (fit 4112 d)) a).length = a.length := by
    intro l
    induction l with
    | nil => intro a; rfl
    | cons d l ih => intro a; rw [List.foldl_cons, ih]; simp [xorBytes]
  unfold parP
  rw [h]
  exact List.length_replicate ..

theorem tag_parity : metaTag 0 1 64 1 0 = [128, 128, 0, 4, 0, 0, 0, 0] := by decide +kernel
theorem word_parity : metaWord 0 1 64 1 = 67141760 := by decide +kernel
theorem tag_word (q : List Byte) : leAt (128 :: 128 :: 0 :: 4 :: 0 :: 0 :: 0 :: 0 :: q) 0 6 = 67141760 := by
  simp [leAt, slice, ofLE, zeros]
theorem tag_epoch (q : List Byte) : leAt (128 :: 128 :: 0 :: 4 :: 0 :: 0 :: 0 :: 0 :: q) 6 2 = 0 := by
  simp [leAt, slice, ofLE, zeros]

theorem checks_parity (code q : List Byte) (h : slice code 4096 16 = 128 :: 128 :: 0 :: 4 :: 0 :: 0 :: 0 :: 0 :: q) :
    frameChecks 0 1 64 1 0 code = 0 := by
  unfold frameChecks
  simp only [h, tag_word, tag_epoch, word_parity, Nat.zero_mod, decide_true, Bool.true_or, if_true]

theorem slice_tag (A r : List Byte) (ht : A.length = 4096) :
    slice (A ++ (metaTag 0 1 64 1 0 ++ r)) 4096 16 =
      128 :: 128 :: 0 :: 4 :: 0 :: 0 :: 0 :: 0 :: (r.take 8 ++ zeros (8 - min 8 r.length)) := by
  unfold slice
  rw [List.drop_left' ht, List.take_append, List.take_of_length_le (by rw [tag_parity]; decide), tag_parity]
  simp

/-- The rebuilt parity sector of that ladder passes R97 whatever the run's other sectors hold. -/
theorem witness_LadderSteps_rebuilt (sec : Nat → List Byte) :
    frameChecks 0 1 64 1 0 (rebuiltInfo sec [64, 65] 64 0 1 0 1 0) = 0 := by
  have e : rebuiltInfo sec [64, 65] 64 0 1 0 1 0 =
      (parP 4112 (rebuildRun sec [64, 65])).take 4096 ++ (metaTag 0 1 64 1 0 ++ (parP 4112 (rebuildRun sec [64, 65])).drop 4104) := by
    unfold rebuiltInfo parityInfo
    rw [if_neg (by decide), if_pos (by decide), List.append_assoc]
  rw [e]
  exact checks_parity _ _ (slice_tag _ _ (by rw [List.length_take, length_parP]; exact Nat.min_eq_left (by decide)))

/-- A pending sector with its table entry. -/
def pendEnt : Reloc := ⟨0, 1, 7, 0, 2, 3, false⟩
def msec (k : Nat) : MSec := ⟨0, 1, k, [], false⟩

theorem witness_MediaUpkeep_relocation :
    (let s := recov 0 [] (fun d => { d with rcv := { d.rcv with reloc := [(msec 7, 2)] } })
     mediaReady s = true ∧ actFree s ((0 : Fin 64).val / 16) = true ∧
      s.dyn.rcv.reloc.find? (fun x => x.1.head == (0 : Fin 64).val && x.1.band == 1 && x.1.sector == 7) = some (msec 7, 2)) ∧
    (let s := recov 0 [pendEnt] (fun d => { d with rcv := { d.rcv with pend := [msec 7] } })
     mediaReady s = true ∧ actFree s ((0 : Fin 64).val / 16) = true ∧ firstPending s 0 1 = some pendEnt ∧ isConvBand s 1 = false ∧ 67584 ≤ bandPtr s 0 1 ∧
      s.dyn.rcv.pend.find? (fun x => x.head == pendEnt.head && x.band == pendEnt.band && x.sector == pendEnt.sector) = some (msec 7)) ∧
    328 ≤ nextSpare (recov 0 [] (fun d => { d with media := { d.media with spares := [(0, 1, 328)] } })) (msec 8).head (msec 8).band ∧
    tableTakes (recov 0 [] id) 0 1 7 = true ∧
    (let s := recov 0 [] (fun d => { d with wa := modAt d.wa 0 (fun w => { w with paths := modAt w.paths 0 (fun p =>
       { p with on := true }) }) })
     mediaReady s = true ∧ actFree s ((0 : Fin 64).val / 16) = false) := by decide +kernel

/-- Two namespaces, the first without and the second with encryption, and 64 blocks of each in the write buffer. -/
def zoned (enc : Bool) (g : Dyn → Dyn) : State :=
  dyn (regs (recov 0 [] id) [(Reg.GEO_FMT 0, 0x00010004)]) (fun d => g { d with
    nsp := { d.nsp with ns := [⟨2, 2, enc, [8, 9], 1⟩] },
    zn := { d.zn with zones := [⟨8, 2, 70, 0, true⟩], buf := (List.range 64).map (fun i => ⟨8, i, [], i, 0, false⟩) } })

theorem witness_MediaUpkeep_patrol_and_scans :
    (let s := regs (recov 0 [] (fun d => { d with rcv := { d.rcv with ladders := [] }, media := { d.media with
        secs := [⟨0, 1, 64, [], false⟩, ⟨0, 1, 65, [], false⟩], ptr := [(0, 1, 66)] } })) []
     mediaReady s = true ∧ optPatrol s ≠ 0 ∧ actIdle s (0 : Fin 4).val = true ∧
      patrolNext s (0 : Fin 4).val (s.dyn.media.patrol.getD (0 : Fin 4).val 0) = some (0, 1, 64) ∧
      actIdle (dyn s (fun d => { d with wa := modAt d.wa 0 (fun w => { w with paths := modAt w.paths 0 (fun p =>
        { p with on := true }) }) })) (0 : Fin 4).val = false) ∧
    (let s := zoned false (fun d => { d with zn := { d.zn with scan := [8] } })
     mediaReady s = true ∧ s.dyn.zn.scan.contains 8 = true ∧ zoneFree s 8 = true ∧
      (List.range 4).all (fun j => (scanBand s 8 (placeOf s (8 * zoneBlocks + j * 64)).head (placeOf s (8 * zoneBlocks + j * 64)).band
        (67584 - blockSector (lowBlock (zoneAt s 8).wp j)) (blockSector (lowBlock (zoneAt s 8).wp j)) []).2.isEmpty) = true) ∧
    (let s := zoned false (fun d => { d with zn := { d.zn with track := [(8, [some 70, none, none, none])] } })
     mediaReady s = true ∧ s.dyn.zn.track.find? (fun t => t.1 == 8) = some (8, [some 70, none, none, none]) ∧
      zoneFree s 8 = true) ∧
    (let s := zoned false (fun d => { d with zn := { d.zn with buf := [⟨8, 63, [], 0, 0, false⟩] }, media := { d.media with
        secs := [⟨0, 2, 5, [], false⟩], table := [] } })
     let p := placeOf s (8 * zoneBlocks + (4 * 0 + 0) * 64)
     let t := dyn s (fun d => { d with media := { d.media with secs := [⟨p.head, p.band, p.sector + 5, [], false⟩] } })
     mediaReady t = true ∧ zoneFree t 8 = true ∧ (chunkBlks t 8 (4 * 0 + (0 : Fin 4).val)).isEmpty = false ∧
      t.dyn.zn.buf.any (fun b => b.zone == 8 && b.blk == (4 * 0 + (0 : Fin 4).val) * 64 + 5) = false ∧
      (t.msec p.head p.band (p.sector + 5)).isSome = true ∧ relocOf t p.head p.band (p.sector + 5) = none) := by decide +kernel

theorem witness_MediaUpkeep_zones :
    (let s := zoned false id
     s.up 63 = true ∧ (zoneAt s 8).due = true ∧ mediaReady s = true ∧ zoneFree s 8 = true ∧ (chunkBlks s 8 0).isEmpty = false ∧ runReady s 8 0 = true ∧
      chunkReady s 8 0 = true ∧ zoneKeyOk s 8 = true ∧ optAge s ≠ 0) ∧
    (zoneAt (zoned false id) 9).due = false ∧
    (let s := zoned true id
     zoneFree s 8 = true ∧ runReady s 8 0 = true ∧ chunkReady s 8 0 = true ∧ zoneKeyOk s 8 = false) ∧
    zoneFree (dyn (zoned true id) (fun d => { d with wa := modAt d.wa 0 (fun w => { w with paths := modAt w.paths 0 (fun p =>
        { p with on := true }) }) })) 8 = false ∧
    (let s := zoned false id
     s.dyn.zn.buf.any (fun b => b.zone == 8 && [0].contains (b.blk / 64)) = true ∧
      s.dyn.zn.buf.any (fun b => b.zone == 8 && [0].contains (b.blk / 64) && b.retry) = false ∧ slowWrites s 8 [0] = []) := by decide +kernel

/-- A Mornis link in a state. -/
def net0 (st : Nat) : Link := { link0 with id := 3, pcie := false, st := st, nonce := 77 }
/-- A connect message of a version and a PMTU. -/
def connect (v pmtu : BitVec 8) : ConnectMsg := ⟨0, none, 1, 0, 9, v, pmtu, 1, 5, 0, 0, 0x1000, 0x2000, 15, 15, 0, false⟩

theorem witness_DoorbellsAndRings_doorbells :
    (let s := host [] link0 [] id
     let q := link0.sqs.getD 1 ⟨0, 0, 0, 0, 0, 0, 0, false⟩
     let k := link0.cqs.getD 1 ⟨0, 0, 0, 0, 0, true, false, 0⟩
     dbReaches s (0 : Fin 512).val = true ∧ 1 < (if link0.pcie then 1024 else 64) ∧ 9 < (if link0.pcie then 1024 else 64) ∧ s.link? (0 : Fin 512).val = some link0 ∧
      link0.sqs.find? (fun q => q.qid == 1) = some q ∧ (15 : BitVec 64).toNat % 65536 < q.size ∧
      q.size ≤ (16 : BitVec 64).toNat % 65536 ∧ link0.sqs.find? (fun q => q.qid == 9) = none ∧
      link0.cqs.find? (fun q => q.qid == 1) = some k ∧
      ((0 : BitVec 64).toNat % 65536 + k.size - k.head) % k.size ≤ (k.tail + k.size - k.head) % k.size ∧
      link0.cqs.find? (fun q => q.qid == 9) = none) := by decide +kernel

theorem witness_DoorbellsAndRings_rings :
    (let q : SubQ := ⟨1, 0x10000, 16, 0, 3, 1, 0, false⟩
     let l := { link0 with sqs := [⟨0, 0, 16, 0, 0, 0, 0, false⟩, q] }
     let s := host [(Reg.HQE_CTL, 1), (Reg.HQE_ARB, 0)] l [] id
     mayFetch s = true ∧ (waitingSqs s).length = (readySqs s).length ∧ arbitrate s = some (1, [0, 0, 0]) ∧
      turnOf s 1 = some (l, q)) ∧
    (let c := cmd 1 (sqe 0 2 []) .idle (some {})
     let q : CplQ := ⟨1, 0x30000, 16, 0, 0, true, true, 1⟩
     let s := host [] link0 [c] id
     s.cmdBy (ref 1) (fun c => c.done.isSome && !c.orphan) = some c ∧ s.link? (ref 1).link.val = some link0 ∧ c.done = some {} ∧
      cqOf link0 c = some q ∧ hqUp s = true ∧ linkServes s link0.id = true ∧ mustWait s c = false ∧
      (q.tail + 1) % q.size ≠ q.head ∧ c.work = .idle) ∧
    (let c := cmd 1 (sqe 0 2 []) .idle (some {})
     let q : CplQ := ⟨1, 0x30000, 16, 1, 0, true, true, 1⟩
     let l := { link0 with cqs := [q] }
     let s := host [] l [c] id
     s.cmdBy (ref 1) (fun c => c.done.isSome && !c.orphan) = some c ∧ cqOf l c = some q ∧ linkServes s l.id = true ∧
      (q.tail + 1) % q.size = q.head) ∧
    (let l := { net0 2 with coal := [⟨1, 1, 0⟩] }
     let s := host [] l [] id
     s.link? (3 : Fin 512).val = some l ∧ hqUp s = true ∧ linkServes s l.id = true ∧ l.pcie = false ∧
      l.coal.any (fun c => c.key == 1) = true) := by decide +kernel

theorem witness_ControllerControl :
    (let s := host [] link0 [] id
     let d : Word := 0x00460001
     accReady s .mc0 (Reg.CC (0 : Fin 2).val) = true ∧ d.bit 0 = true ∧ (s.reg (Reg.CC (0 : Fin 2).val)).bit 0 = false ∧ d.fld 15 14 = 0 ∧
      pcieFn s (0 : Fin 2).val = true ∧ hqUp s = true ∧ s.dyn.rst.beached = false) ∧
    (let s := host [(Reg.CC 0, 0x00460001)] link0 [] id
     accReady s .mc0 (Reg.CC (0 : Fin 2).val) = true ∧ (0 : Word).bit 0 = false ∧ (s.reg (Reg.CC (0 : Fin 2).val)).bit 0 = true ∧
      (0 : Word).fld 15 14 = 0 ∧ (s.link? (0 : Fin 2).val).isSome = true ∧
      (0x00464001 : Word).bit 0 = (s.reg (Reg.CC (0 : Fin 2).val)).bit 0 ∧ (0x00464001 : Word).fld 15 14 = 1 ∧
      (s.reg (Reg.CC (0 : Fin 2).val)).fld 15 14 = 0) ∧
    (let k := { link0 with resetDue := true }
     let s := host [] k [] id
     hqUp s = true ∧ s.link? (0 : Fin 512).val = some k ∧ k.resetDue = true ∧ k.pcie = true) := by decide +kernel

theorem witness_MornisLinks_connect :
    (let s := host [(Reg.NET_CTL 0, 1), (Reg.NET_MCTL, 16), (Reg.NET_IPVAL 0, 1)] (net0 2) [] id
     hqUp s = true ∧ s.bit (Reg.NET_CTL (0 : Fin 2).val) 0 = true ∧ tagOk s (0 : Fin 2).val none = true ∧
      tagOk s (0 : Fin 2).val (some 5) = false ∧ hasAddr s (0 : Fin 2).val 0 = true ∧ hasAddr s (0 : Fin 2).val 1 = false ∧
      (mornisLinks s).find? (fun l => l.st == 1 && l.src == 1 && l.udp == 9 && l.nonce == 5) = none ∧ (connect 2 4).version ≠ 1 ∧
      (connect 1 4).version = 1 ∧ connectOk (connect 1 2) = false ∧ connectOk (connect 1 3) = true ∧
      (freeLinkNo s).isSome = true ∧ pairsUsed s < 4096) ∧
    freeLinkNo (host [(Reg.NET_CTL 0, 1), (Reg.NET_MCTL, 1)] (net0 2) [] id) = none ∧
    (let s := host [(Reg.NET_CTL 0, 1), (Reg.NET_MCTL, 16)] { net0 2 with grant := 4095 } [] id
     (freeLinkNo s).isSome = true ∧ 4096 ≤ pairsUsed s) ∧
    (let s := host [] (net0 1) [] id
     mornisIn s (3 : Fin 512).val 1 77 = some (net0 1) ∧ hqUp s = true ∧ s.link? (3 : Fin 512).val = some (net0 1) ∧
      (net0 1).pcie = false ∧ (net0 1).st = 1) := by decide +kernel

theorem witness_MornisLinks :
    (let s := host [] (net0 2) [] id
     hqUp s = true ∧ s.link? (3 : Fin 512).val = some (net0 2) ∧ (net0 2).pcie = false ∧ (net0 2).st = 2 ∧
      discSent { net0 3 with disc := 1 } = true ∧ (net0 3).nonce = (77 : BitVec 32).toNat ∧
      mornisIn s (3 : Fin 512).val 2 77 = some (net0 2) ∧
      (net0 2).cnpAt.all (fun t => t + s.fld Reg.NET_CC 23 16 ≤ s.dyn.us) = true) := by decide +kernel

theorem witness_NetworkFrames :
    (let s := host [(Reg.NET_CTL 0, 1), (Reg.NET_QOS, 1), (Reg.NET_IPVAL 0, 1)] link0 [] id
     portOn s (0 : Fin 2).val = true ∧ s.bit Reg.NET_QOS 0 = true ∧ s.dyn.hq.pausing.getD (0 : Fin 2).val false = false ∧
      hasAddr s (0 : Fin 2).val (5 : BitVec 128).toNat = false ∧ hasAddr s (0 : Fin 2).val (0 : BitVec 128).toNat = true ∧ carried s (0 : Fin 2).val [] = false ∧
      s.bit (Reg.NET_STAT (0 : Fin 2).val) 15 = false) ∧
    (let s := host [(Reg.NET_CTL 0, 1), (Reg.NET_STAT 0, 0x8000)] link0 [] (fun d => { d with
        hq := { d.hq with pausing := [true, false] }, pwr := { d.pwr with granted := [(3, 0), (3, 1)] } })
     portOn s (0 : Fin 2).val = true ∧ s.bit (Reg.NET_STAT (0 : Fin 2).val) 15 = true ∧
      (ethLanes s (0 : Fin 2).val).all (fun i => hasGrant s 3 i) = true) ∧
    (let s := host [(Reg.NET_CTL 0, 1)] link0 [] (fun d => { d with
        hq := { d.hq with pausing := [true, false] }, pwr := { d.pwr with granted := [(3, 0), (3, 1)] } })
     s.bit (Reg.NET_STAT (0 : Fin 2).val) 15 = false ∧ (ethLanes s (0 : Fin 2).val).all (fun i => hasGrant s 3 i) = true ∧
      (host [(Reg.NET_CTL 0, 1)] link0 [] (fun d => d)).dyn.hq.pausing = [false, false]) := by decide +kernel

/-- Link 0 with grants for I/O queues. -/
def link1 : Link := { link0 with nsqa := 8, ncqa := 8, grant := 8 }
/-- A state in which one admin command waits. -/
def adm (op nsid : Nat) (dw : List (Nat × Nat)) (g : Dyn → Dyn) : State := host [] link1 [cmd 0 (sqe op nsid dw) .idle none] g
/-- That command. -/
def admCmd (op nsid : Nat) (dw : List (Nat × Nat)) : HCmd := cmd 0 (sqe op nsid dw) .idle none
/-- It is ready. -/
def admReady (op nsid : Nat) (dw : List (Nat × Nat)) (g : Dyn → Dyn) : Bool :=
  let s := adm op nsid dw g
  cmdReady s (ref 0) true op (admCmd op nsid dw) && s.link? 0 == some link1

theorem witness_QueueAndAbortCommands_queues :
    (let dw := [(10, 0x000F0002), (11, 3)]
     admReady 5 0 dw id = true ∧ cqCheck link1 (admCmd 5 0 dw) = none) ∧
    (let dw := [(10, 0x000F0001), (11, 3)]
     admReady 5 0 dw id = true ∧ cqCheck link1 (admCmd 5 0 dw) = some (status 1 1)) ∧
    (let dw := [(10, 0x000F0002), (11, 0x10001)]
     admReady 1 0 dw id = true ∧ sqCheck link1 (admCmd 1 0 dw) = none) ∧
    (let dw := [(10, 0x00000002), (11, 0x10001)]
     admReady 1 0 dw id = true ∧ sqCheck link1 (admCmd 1 0 dw) = some (status 1 2)) ∧
    (let l := { link1 with cqs := link1.cqs ++ [⟨2, 0x40000, 16, 0, 0, true, true, 1⟩] }
     let e := admCmd 4 0 [(10, 2)]
     let s := host [] l [e] id
     cmdReady s (ref 0) true 4 e = true ∧ (e.cdw 10).fld 15 0 ≠ 0 ∧ l.cqs.any (fun x => x.qid == (e.cdw 10).fld 15 0) = true ∧
      l.sqs.any (fun x => x.cqid == (e.cdw 10).fld 15 0 && x.qid != 0) = false) ∧
    (let e := admCmd 0 0 [(10, 1)]
     admReady 0 0 [(10, 1)] id = true ∧ (e.cdw 10).fld 15 0 ≠ 0 ∧
      link1.sqs.any (fun x => x.qid == (e.cdw 10).fld 15 0 && !x.closing) = true) := by decide +kernel

theorem witness_QueueAndAbortCommands_abort :
    (let dw := [(10, 0x00090001)]
     let s := adm 8 0 dw id
     let c := admCmd 8 0 dw
     admReady 8 0 dw id = true ∧
      (s.dyn.hq.cmds.filter (fun x => x.link == c.link && x.admin && x.op == 0x08 && x.no < c.no && !x.orphan)).length < 4 ∧
      s.dyn.hq.cmds.find? (fun x => x.link == c.link && x.sqid == (c.cdw 10).fld 15 0 && x.cid == (c.cdw 10).fld 31 16 &&
        !x.orphan) = none) ∧
    (let c := admCmd 8 0 [(10, 0x00090001)]
     let t : HCmd := ⟨0, 1, 9, 2, sqe 2 2 [], 0, .idle, none, false, [], false⟩
     let s := host [] link1 [c, t] id
     cmdReady s (ref 0) true 8 c = true ∧
      (s.dyn.hq.cmds.filter (fun x => x.link == c.link && x.admin && x.op == 0x08 && x.no < c.no && !x.orphan)).length < 4 ∧
      s.dyn.hq.cmds.find? (fun x => x.link == c.link && x.sqid == (c.cdw 10).fld 15 0 && x.cid == (c.cdw 10).fld 31 16 &&
        !x.orphan) = some t ∧ pastAbort t = false) ∧
    (let s := adm 12 0 [] id
     let c := admCmd 12 0 []
     admReady 12 0 [] id = true ∧
      (s.dyn.hq.cmds.filter (fun x => x.link == c.link && x.work == .aer && x.done.isNone && !x.orphan)).length < 4) ∧
    (let c := admCmd 12 0 []
     let s := host [] link1 (c :: (List.range 4).map (fun i => ⟨0, 0, 10 + i, 10 + i, sqe 12 0 [], 0, .aer, none, false, [], false⟩)) id
     cmdReady s (ref 0) true 12 c = true ∧
      4 ≤ (s.dyn.hq.cmds.filter (fun x => x.link == c.link && x.work == .aer && x.done.isNone && !x.orphan)).length) := by decide +kernel

theorem witness_FeaturesAndPages_set :
    ([(1, 0), (2, 3), (4, 0x60150), (6, 0), (6, 1), (7, 0x30003), (8, 0x105), (9, 0x10000), (0xB, 0x100), (0xC, 1), (0xE, 0)].all
      (fun p =>
        let dw := [(10, p.1), (11, p.2)]
        let c := admCmd 9 0 dw
        admReady 9 0 dw id && !(c.cdw 10).bit 31 && (c.cdw 10).fld 7 0 == p.1)) = true ∧
    (let c := admCmd 9 0 [(10, 2), (11, 3)]
     (c.cdw 11).fld 4 0 ≤ 5 ∧ (c.cdw 11).fld 7 5 = 0) ∧
    (let c := admCmd 9 0 [(10, 4), (11, 0x60150)]
     (c.cdw 11).fld 19 16 ≤ 6 ∧ (c.cdw 11).fld 21 20 = 0 ∧ (adm 9 0 [(10, 4), (11, 0x60150)] id).up 2 = true) ∧
    (link1.numq = false ∧ pairsUsed (adm 9 0 [(10, 7), (11, 0x30003)] id) < 4096) ∧
    (let c := admCmd 9 0 [(10, 9), (11, 0x10000)]
     (c.cdw 11).fld 15 0 = 0 ∧ (c.cdw 11).bit 16 = true) ∧
    dptrWalk link1 (admCmd 9 0 [(10, 0xC), (11, 1)]) 256 none = .inr [⟨0, none, 256⟩] ∧
    dptrWalk link1 (admCmd 9 0 [(10, 0xE)]) 8 none = .inr [⟨0, none, 8⟩] ∧
    link1.pcie = true := by decide +kernel

set_option maxRecDepth 100000 in
theorem witness_FeaturesAndPages_read :
    (let dw := [(10, 8)]
     let s := adm 10 0 dw id
     admReady 10 0 dw id = true ∧ ((admCmd 10 0 dw).cdw 10).fld 10 8 ≤ 2 ∧
      featureValue s link1 8 0 true = some (0, [])) ∧
    (admReady 10 0 [(10, 0x308)] id = true ∧ 2 < ((admCmd 10 0 [(10, 0x308)]).cdw 10).fld 10 8) ∧
    (let dw := [(10, 0x10004)]
     let s := adm 2 0 dw id
     let c := admCmd 2 0 dw
     admReady 2 0 dw id = true ∧ (logPage s link1 4).isSome = true ∧ ((c.cdw 10).fld 7 0) = 4 ∧ leAt c.sqe 48 8 = 0 ∧
      0 < ((logPage s link1 4).getD []).length ∧ dptrCheck link1 c 8 none = none) ∧
    (let dw := [(10, 2)]
     admReady 6 0 dw id = true ∧ (idAnswer (adm 6 0 dw id) (admCmd 6 0 dw)).isRight = true) ∧
    (admReady 0x7F 0 [] id = true ∧ knownOp (admCmd 0x7F 0 []) = false) := by decide +kernel

/-- A device formatted with 2 band indices: 8 conventional and 24 shingled zones. -/
def fmt (l : List (Nat × Word)) (k : Link) (cs : List HCmd) (g : Dyn → Dyn) : State :=
  host ((Reg.GEO_FMT 0, 0x00010002) :: l) k cs g

theorem witness_NamespaceAndKeyCommands_namespaces :
    (let c := admCmd 13 0 [(11, 0x02000000)]
     let s := fmt [] link1 [c] id
     let d := leBytes 8 524288 ++ leBytes 8 524288
     cmdReady s (ref 0) true 13 c = true ∧ (c.cdw 10).fld 3 0 = 0 ∧ s.up 63 = true ∧
      dptrWalk link1 c 4096 none = .inr [⟨0, none, 4096⟩] ∧
      leAt (fit 4096 d) 0 8 = 524288 ∧ leAt (fit 4096 d) 8 8 = 524288 ∧ 524288 % zoneBlocks = 0 ∧ leAt (fit 4096 d) 26 1 = 0 ∧
      (c.cdw 11).fld 31 24 = 2 ∧ 524288 / zoneBlocks ≤ (freeZones s 2).length ∧
      (List.range 64).find? (fun i => (nsAny s (i + 1)).isNone) = some 0) ∧
    (let c := cmd 0 (sqe 13 0 []) (.fmt 1) none
     let n : Ns := ⟨1, 0, false, [0], 0⟩
     let s := fmt [] link1 [c] (fun d => { d with nsp := { d.nsp with ns := [n] } })
     s.dyn.hq.cmds.find? (fun c => c.work == .fmt 1 && c.done.isNone) = some c ∧ nsAny s 1 = some n ∧ n.st = 0 ∧
      mediaReady s = true) ∧
    (let c := cmd 0 (sqe 13 1 [(10, 1)]) (.nsdel 1) none
     let s := fmt [] link1 [c] (fun d => { d with nsp := { d.nsp with ns := [⟨1, 0, false, [0], 1⟩] } })
     s.cmdBy (ref 0) (fun c => c.done.isNone && c.work.isNsdel) = some c ∧ s.up 63 = true ∧ (delTargets s c.nsid).length = 1 ∧
      (delTargets s c.nsid).any (fun n => s.dyn.hq.cmds.any (inFlightOn n.nsid)) = false) := by decide +kernel

theorem witness_NamespaceAndKeyCommands_keys :
    (let dw := [(10, 5), (11, 0x120)]
     let c := admCmd 0xC5 1 dw
     let s := adm 0xC5 1 dw (fun d => { d with nsp := { d.nsp with ns := [⟨1, 2, true, [8], 1⟩] } })
     cmdReady s (ref 0) true 0xC5 c = true ∧ s.up 100 = true ∧ s.link? c.link = some link1 ∧ (c.cdw 11).fld 7 0 = 32 ∧
      (c.cdw 11).bit 8 = true ∧ (nsOf s c.nsid).any (fun n => n.enc) = true ∧
      dptrWalk link1 c 64 none = .inr [⟨0, none, 64⟩]) ∧
    (admReady 0xC5 1 [(10, 5)] id = true ∧ ((admCmd 0xC5 1 [(10, 5)]).cdw 11).fld 7 0 = 0) := by decide +kernel

/-- One I/O command to namespace 2 (zones 8 and 9, shingled) or 1 (zone 0, conventional). -/
def io (w : HWork) (e : List Byte) (g : Dyn → Dyn) : State :=
  fmt [] link1 [cmd 1 e w none] (fun d => g { d with
    nsp := { d.nsp with ns := [⟨1, 0, false, [0], 1⟩, ⟨2, 2, false, [8, 9], 1⟩] }, shl := { d.shl with engs := [] } })
def ns2 : Ns := ⟨2, 2, false, [8, 9], 1⟩

theorem witness_IoCommands_validated :
    (let c := cmd 1 (sqe 1 2 []) .idle none
     let s := io .idle (sqe 1 2 []) id
     s.link? c.link = some link1 ∧ nsOf s c.nsid = some ns2 ∧ held s c (c.zonesOf s) = false ∧ cmdReady s (ref 1) false 1 c = true ∧
      firstOf ([refuse ((c.cdw 12).fld 29 26 ≠ 0 || (c.cdw 12).fld 23 20 ≠ 0 || (c.cdw 12).bit 24) invField] ++
        rangeChecks ns2 c ++ [dptrCheck link1 c ((c.nlb + 1) * 4096) none,
        if ns2.zoned then zoneCheck s ns2 c.slba (c.nlb + 1) false else convCheck s ns2 c.slba (c.nlb + 1),
        keyCheck s ns2]) = none) ∧
    (let e := sqe 1 2 [(10, 5)]
     let c := cmd 1 e .idle none
     let s := io .idle e id
     held s c (c.zonesOf s) = false ∧ cmdReady s (ref 1) false 1 c = true ∧
      firstOf ([refuse ((c.cdw 12).fld 29 26 ≠ 0 || (c.cdw 12).fld 23 20 ≠ 0 || (c.cdw 12).bit 24) invField] ++
        rangeChecks ns2 c ++ [dptrCheck link1 c ((c.nlb + 1) * 4096) none,
        if ns2.zoned then zoneCheck s ns2 c.slba (c.nlb + 1) false else convCheck s ns2 c.slba (c.nlb + 1),
        keyCheck s ns2]) = some (status 1 0xBC)) ∧
    (let c := cmd 1 (sqe 0x7D 2 []) .idle none
     let s := io .idle (sqe 0x7D 2 []) id
     held s c (c.zonesOf s) = false ∧ cmdReady s (ref 1) false 0x7D c = true ∧ ns2.zoned = true ∧
      firstOf (rangeChecks ns2 c ++ [dptrCheck link1 c ((c.nlb + 1) * 4096) none, zoneCheck s ns2 c.slba (c.nlb + 1) true,
        keyCheck s ns2]) = none) ∧
    (let c := cmd 1 (sqe 2 2 []) .idle none
     let s := io .idle (sqe 2 2 []) id
     held s c (c.zonesOf s) = false ∧ cmdReady s (ref 1) false 2 c = true ∧
      firstOf ([refuse ((c.cdw 12).fld 29 26 ≠ 0) invField] ++ rangeChecks ns2 c ++
        [dptrCheck link1 c ((c.nlb + 1) * 4096) none, offlineCheck s ns2 c.slba (c.nlb + 1), keyCheck s ns2]) = none) ∧
    (let e := sqe 2 2 [(12, 0x3C000000)]
     let c := cmd 1 e .idle none
     let s := io .idle e id
     cmdReady s (ref 1) false 2 c = true ∧ held s c (c.zonesOf s) = false ∧ (c.cdw 12).fld 29 26 ≠ 0) ∧
    (let e := sqe 0x83 2 [(13, 1), (14, 16)]
     let c := cmd 1 e .idle none
     let s := io .idle e id
     cmdReady s (ref 1) false 0x83 c = true ∧ held s c (c.zonesOf s) = false ∧
      firstOf ([refuse (leAt c.sqe 16 8 % 64 ≠ 0 || (c.cdw 13).fld 15 0 = 0 || 1024 < (c.cdw 13).fld 15 0 ||
          (c.cdw 14).toNat = 0 || 8388608 < (c.cdw 14).toNat) invField] ++
        rangeChecks ns2 c ++ [dptrCheck link1 c (c.cdw 14).toNat none, offlineCheck s ns2 c.slba (c.nlb + 1),
        keyCheck s ns2]) = none) := by decide +kernel

theorem witness_IoCommands_data :
    (let w := HWork.wr 2 0 1 false false none
     let c := cmd 1 [] w none
     let s := io w [] id
     s.link? c.link = some link1 ∧ nsAny s 2 = some ns2 ∧ s.cmdBy (ref 1) (fun c => c.uncommitted && !c.orphan) = some c ∧
      hqUp s = true ∧ linkLive s c.link = true ∧ reqReady s = true ∧ bufUsed s + 4096 * 1 ≤ optWbuf s * 1048576) ∧
    (let w := HWork.wr 2 0 1 true false (some [])
     let c := cmd 1 [] w none
     let s := io w [] id
     s.cmdBy (ref 1) (fun c => c.uncommitted && c.work.hasData) = some c ∧ s.dyn.zn.wce = true ∧ reqReady s = true ∧
      s.dyn.hq.cmds.any (fun y => y.no < c.no && y.uncommitted && (y.wzones s).any (fun z => (c.wzones s).contains z)) = false) ∧
    (let w := HWork.rd 2 0 1 false
     let c := cmd 1 [] w none
     let s := io w [] (fun d => { d with zn := { d.zn with
       zones := [⟨8, 2, 1, 0, false⟩], buf := [⟨8, 0, [7], 0, 0, false⟩] } })
     s.cmdBy (ref 1) (fun c => c.done.isNone && c.readSpan.isSome) = some c ∧ hqUp s = true ∧ linkLive s c.link = true ∧
      mediaReady s = true ∧ keyOk s ns2 = true ∧
      ((fromMedia s ns2 0 = true → zoneFree s (nsZone ns2 0) = true) ∧ (blockData s ns2 0).isSome = true)) := by decide +kernel

theorem witness_FlushAndZoneActions :
    (let c := cmd 1 (sqe 0 2 []) .idle none
     let s := io .idle (sqe 0 2 []) id
     s.link? c.link = some link1 ∧ nsOf s c.nsid = some ns2 ∧ cmdReady s (ref 1) false 0 c = true) ∧
    ([1, 2, 3, 4, 5].all (fun a =>
      let e := sqe 0x79 2 [(13, a)]
      let c := cmd 1 e .idle none
      let s := io .idle e id
      cmdReady s (ref 1) false 0x79 c && ns2.zoned && !c.all && c.slba % zoneBlocks == 0 && decide (c.slba < nsSize ns2) &&
        c.zsa == a)) = true ∧
    (let w := HWork.zact 4 [8]
     let c := cmd 1 (sqe 0x79 2 [(13, 4)]) w none
     let s := io w (sqe 0x79 2 [(13, 4)]) (fun d => { d with zn := { d.zn with zones := [⟨8, 2, 1, 0, false⟩] } })
     s.cmdBy (ref 1) (fun c => c.done.isNone && c.work.isZact) = some c ∧ s.up 63 = true ∧
      earlier s c [8] (fun _ => true) = false ∧ zoneLadder s 8 = false ∧
      scanDue s 8 = false ∧ fromOk 4 (zoneAt s 8).st = true ∧ (zoneReady s 8 = true ∧ zoneKeyOk s 8 = true) ∧
      openLimit s [8] = none) ∧
    (let w := HWork.zact 3 [8]
     let c := cmd 1 (sqe 0x79 2 [(13, 3)]) w none
     let s := io w (sqe 0x79 2 [(13, 3)]) (fun d => { d with zn := { d.zn with
       zones := (List.range 2048).map (fun i => ⟨9 + i, 3, 1, 0, false⟩) } })
     s.cmdBy (ref 1) (fun c => c.done.isNone && c.work.isZact) = some c ∧ earlier s c [8] (fun _ => true) = false ∧
      zoneLadder s 8 = false ∧ scanDue s 8 = false ∧ fromOk 3 (zoneAt s 8).st = true ∧ (openLimit s [8]).isSome = true) ∧
    (let w := HWork.zact 1 [8]
     let c := cmd 1 (sqe 0x79 2 [(13, 1)]) w none
     let s := io w (sqe 0x79 2 [(13, 1)]) (fun d => { d with zn := { d.zn with zones := [⟨8, 15, 1, 0, false⟩] } })
     s.cmdBy (ref 1) (fun c => c.done.isNone && c.work.isZact) = some c ∧ earlier s c [8] (fun _ => true) = false ∧
      zoneLadder s 8 = false ∧ fromOk 1 (zoneAt s 8).st = false ∧ c.all = false) ∧
    (let e := sqe 0x7A 2 [(12, 31)]
     let c := cmd 1 e .idle none
     let s := io .idle e id
     cmdReady s (ref 1) false 0x7A c = true ∧ ns2.zoned = true ∧
      firstOf [refuse ((c.cdw 13).fld 7 0 ≠ 0 || 7 < (c.cdw 13).fld 15 8 || 8388608 < 4 * ((c.cdw 12).toNat + 1)) invField,
        refuse (nsSize ns2 ≤ c.slba) (status 0 0x80), dptrCheck link1 c (4 * ((c.cdw 12).toNat + 1)) none] = none ∧
      held s c (ns2.zones.drop (c.slba / zoneBlocks)) = false ∧ (c.cdw 13).bit 16 = false) := by decide +kernel

/-! Shoal, memory and cache. -/

/-- A task descriptor: OPCODE, LEN, and the bytes from 32. -/
def taskDesc (op len : Nat) (aux : Nat) (rest : List Byte) : List Byte :=
  fit 64 ([b8 op, 0, 0, 0] ++ leBytes 4 len ++ zeros 16 ++ leBytes 8 aux ++ rest)
def task (d : List Byte) : STask := ⟨1, 0, d, 0, 0, none⟩
/-- Shoal with one engine as given and some lines in the cache. -/
def shoal (e : SEng) (ls : List CLine) (g : Dyn → Dyn) : State := dyn (regs mem [(Reg.SHL_CTL, 1)]) (fun d => g { d with
  shl := { d.shl with engs := { e with mem := some [] } :: (List.range 63).map (fun _ => { mem := some [] }) },
  cch := { d.cch with lines := ls, ready := true } })
/-- One that runs a task. -/
def runs (d : List Byte) (ls : List CLine) : State := shoal { run := some { task := task d } } ls id

theorem witness_TasksSubmittedAndTaken_submit :
    (let s := shoal {} [⟨64, 0, false, taskDesc 6 64 0 []⟩] (fun d => { d with sys := { d.sys with
        stage := setAt d.sys.stage Initiator.mc0.id (some (Reg.SHL_SUBMIT_LO 0, 0x1000)) } })
     accReady s .mc0 (Reg.SHL_SUBMIT_HI (0 : Fin 8).val) = true ∧ staged s .mc0 (Reg.SHL_SUBMIT_LO (0 : Fin 8).val) = some 0x1000 ∧
      (s.fifo (0 : Fin 8).val).length < 1024 ∧
      s.dyn.shl.engs.any (fun e => (e.wait.map (fun t => t.pool)) == some (0 : Fin 8).val) = false ∧ memReady s = true ∧
      reqRead s (0x1000 / 64 * 64) 64 = some (taskDesc 6 64 0 []) ∧
      (⟨s.dyn.shl.next, 0, taskDesc 6 64 0 [], leAt (taskDesc 6 64 0 []) 2 2, 0, none⟩ : STask).compl % 16 = 0) ∧
    (let s := shoal {} [] (fun d => { d with shl := { d.shl with fifos := [List.replicate 1024 (task [])] }, sys := { d.sys with
        stage := setAt d.sys.stage Initiator.mc0.id (some (Reg.SHL_SUBMIT_LO 0, 0x1000)) } })
     accReady s .mc0 (Reg.SHL_SUBMIT_HI (0 : Fin 8).val) = true ∧ staged s .mc0 (Reg.SHL_SUBMIT_LO (0 : Fin 8).val) = some 0x1000 ∧
      1024 ≤ (s.fifo (0 : Fin 8).val).length) := by decide +kernel

theorem witness_TasksSubmittedAndTaken_take :
    (let s := shoal { deque := [task []] } [] id
     canTake s (0 : Fin 64).val = true ∧ (s.eng (0 : Fin 64).val).deque = task [] :: []) ∧
    (let s := shoal {} [] (fun d => { d with shl := { d.shl with fifos := [[task []]] } })
     canTake s (0 : Fin 64).val = true ∧ (s.eng (0 : Fin 64).val).deque = [] ∧ s.fifo ((0 : Fin 64).val / 8) = task [] :: []) ∧
    (let s := shoal {} [] (fun d => { d with shl := { d.shl with 
      engs := (d.shl.engs.take 2).append ((d.shl.engs.drop 2).map (fun e => { e with deque := [task []] })) } })
     (s.eng (0 : Fin 64).val).asleep = false ∧ canTake s (0 : Fin 64).val = true ∧ (s.eng (0 : Fin 64).val).deque = [] ∧
      s.fifo ((0 : Fin 64).val / 8) = [] ∧ (s.eng (0 : Fin 64).val).sweep < 6 ∧ sweepAt s 0 0 = .inl 1 ∧ (s.eng 1).deque.getLast? = none ∧
      sweepAt s 0 1 = .inl 2 ∧ (s.eng 2).deque.getLast? = some (task [])) ∧
    (let s := dyn (regs (shoal { sweep := 7 } [] id) [(Reg.SHL_CFG, 0x100)]) (fun d => { d with
       shl := { d.shl with fifos := [[], [task []]] } })
     (s.eng (0 : Fin 64).val).asleep = false ∧ canTake s (0 : Fin 64).val = true ∧ (s.eng (0 : Fin 64).val).deque = [] ∧
      s.fifo ((0 : Fin 64).val / 8) = [] ∧ crossOn s = true ∧ sweepAt s (0 : Fin 64).val (s.eng (0 : Fin 64).val).sweep = .inr 1 ∧
      s.fifo 1 = task [] :: []) ∧
    ((task (taskDesc 6 0 0 [])).seg = none ∧ descBad (task (taskDesc 6 0 0 [])) ((shoal {} [] id).shlKey 0).length = true) := by decide +kernel

theorem witness_TasksCompute :
    ([1, 2, 3, 4, 6, 7].all (fun op => (running (runs (taskDesc op 1 0 []) []) (0 : Fin 64).val op).isSome)) = true ∧
    (leAt (taskDesc 7 1 0 []) 34 1).testBit 0 = false ∧ (leAt (taskDesc 7 1 0 [0, 0, 1]) 34 1).testBit 0 = true ∧
    (let s := runs (taskDesc 6 64 0 []) [⟨0, 0, false, zeros 64⟩]
     reqRead s 0 64 = some (zeros 64) ∧ memFits s 0 (zeros 32).length = true) ∧
    memFits (runs [] []) (2 ^ 30 - 16) (zeros 32).length = false ∧ ((runs [] []).eng (0 : Fin 64).val).fenced = false ∧
    reqRead (runs [] []) (2 ^ 40) 64 = none ∧ ((shoal { fenced := true } [] id).eng (0 : Fin 64).val).fenced = true := by
  decide +kernel

/-- A recipe of one segment of 16 bytes. -/
def recipe : List Byte :=
  leBytes 4 0x5A3EDE71 ++ leBytes 2 1 ++ leBytes 2 1 ++ leBytes 4 16 ++ leBytes 4 96 ++ leBytes 4 0 ++ zeros 44 ++
  leBytes 4 1 ++ zeros 4 ++ leBytes 4 0 ++ leBytes 4 16 ++ zeros 16 ++ zeros 32

theorem witness_DeriveTasks :
    (let ls : List CLine := [⟨64, 0, false, recipe.take 64⟩, ⟨65, 0, false, recipe.drop 64⟩]
     let d := taskDesc 5 1 0x1000 (zeros 2 ++ leBytes 2 2 ++ leBytes 4 16)
     let s := runs d ls
     (running s (0 : Fin 64).val 5).isSome = true ∧ deriveCheck s (task d) = .inr (recipe.take 96) ∧
      (leAt d 40 1).testBit 0 = false ∧ (s.eng (0 : Fin 64).val).fenced = false) ∧
    (leAt (taskDesc 5 1 0x1000 (zeros 2 ++ leBytes 2 2 ++ leBytes 4 16 ++ [1])) 40 1).testBit 0 = true ∧
    (let t : STask := { (task (taskDesc 5 1 0x1000 [])) with seg := some (1, 0) }
     let par : SParent := ⟨task (taskDesc 5 1 0 []), 0, recipe, [], [none]⟩
     let s := shoal { run := some { task := t } } [] (fun d => { d with shl := { d.shl with parents := [par] } })
     (running s (0 : Fin 64).val 0x85).isSome = true ∧ t.seg = some (1, 0) ∧
      s.dyn.shl.parents.find? (fun p => p.task.id == 1) = some par ∧
      (match rcSegment 0 (rcEntries par.recipe) with
        | some (seg, es) => segReadable s par.task.src es && memFits s (par.task.dst + seg.dst) seg.len
        | none => false) = true) := by decide +kernel

theorem witness_TasksCompletedAndKeys_tasks :
    (let r : SRun := { task := task [], res := some (0, 0) }
     let s := shoal { run := some r } [] id
     (s.eng (0 : Fin 64).val).run = some r ∧ r.res = some (0, 0) ∧ r.sub = none ∧ r.push = [] ∧ s.up 100 = true ∧
      poolUp s ((0 : Fin 64).val / 8) = true ∧ reqReady s = true ∧ (s.eng (0 : Fin 64).val).fenced = false ∧
      s.dyn.shl.flight.contains ((task []).id, (task []).gen) = false) ∧
    (let s := shoal { wait := some (task []) } [] id
     (List.range 64).find? (fun e => ((s.eng e).wait.map (fun t => t.pool)) == some (0 : Fin 8).val) = some 0 ∧
      (s.eng 0).wait = some (task []) ∧ s.up 100 = true ∧ (s.fifo (0 : Fin 8).val).length < 1024) ∧
    ([Reg.SHL_ENG_RST_LO, Reg.SHL_FENCE_CLR_LO].all (fun a =>
      let s := shoal { fenced := true } [] (fun d => { d with sys := { d.sys with
        stage := setAt d.sys.stage Initiator.mc0.id (some (a, 1)) } })
      accReady s .mc0 (a + 4) && staged s .mc0 a == some 1)) = true ∧
    (let s := dyn (shoal {} [] id) (fun d => { d with shl := { d.shl with engs := [{ mem := none }] } })
     s.up 100 = true ∧ poolUp s ((0 : Fin 64).val / 8) = true ∧ (s.eng (0 : Fin 64).val).clearing = true) := by decide +kernel

theorem witness_TasksCompletedAndKeys_keys :
    accReady (shoal {} [] id) .mc0 Reg.SHL_KEY_SEL = true ∧ (0x00200005 : Word).fld 23 16 = 32 ∧ (5 : Word).fld 23 16 = 0 ∧
    (let s := shoal {} [] (fun d => { d with shl := { d.shl with sel := some (5, 16, zeros 12) } })
     accReady s .mc0 Reg.SHL_KEY_DATA = true ∧ s.dyn.shl.sel = some (5, 16, zeros 12) ∧ 16 ≤ (zeros 12).length + 4 ∧
      (zeros 8).length + 4 < 16) := by decide +kernel

theorem witness_MemoryAccesses :
    (let s := mem
     s.wf = true ∧ memReady s = true ∧ ((64 : BitVec 36).toNat / 64 * 64) < memEnd s ∧ memEnd s ≤ (0x40000000 : BitVec 36).toNat / 64 * 64 ∧
      memReady up = false) ∧
    (let s := { mem with fills := [(0, 4096, 0)] }
     s.wf = true ∧ readWord s 64 [] = .ok (zeros 64) ∧ ([1, 2] : List Byte).length = min 63 (64 - (64 + 62) % 64) ∧
      readWord s 126 [] = .ok (zeros 64) ∧ (zeros 64).length = 64) ∧
    (match readWord { mem with fills := [(0, 4096, 0)] } 64 [4] with | .corr d g q => some (d, g, q) | _ => none) =
      some (zeros 64, 0, 1) ∧
    (match readWord { mem with fills := [(0, 4096, 0)] } 64 [4, 0, 0, 0, 0, 0, 0, 0, 0, 0, 4] with | .bad _ => true | _ => false) = true := by
  decide +kernel

theorem witness_MemoryEngines :
    (accReady mem .mc0 Reg.MEM_TRAIN = true ∧ mem.bit Reg.MEM_TRAIN_STAT 31 = false ∧
      memGiB (mem.reg Reg.MEM_CFG) ≠ none ∧ memGiB ((regs mem [(Reg.MEM_CFG, 0x28)]).reg Reg.MEM_CFG) = none ∧
      accReady (regs mem [(Reg.MEM_CFG, 0x28)]) .mc0 Reg.MEM_TRAIN = true) ∧
    (up.up 9 = true ∧ (regs up [(Reg.MEM_TRAIN_STAT, 0x80000000)]).bit Reg.MEM_TRAIN_STAT 31 = true) ∧
    (accReady mem .mc0 Reg.MEM_CE_FREE = true ∧ accReady mem .mc0 Reg.MEM_FILL_CTL = true ∧ mem.bit Reg.MEM_FILL_CTL 1 = false) ∧
    (let s := regs mem [(Reg.MEM_FILL_CTL, 2), (Reg.MEM_FILL_LEN_LO, 4096)]
     rasUp s = true ∧ s.bit Reg.MEM_FILL_CTL 1 = true ∧ 0 < s.pair Reg.MEM_FILL_LEN_LO ∧
      s.pair Reg.MEM_FILL_BASE_LO + s.pair Reg.MEM_FILL_LEN_LO ≤ memEnd s) ∧
    (let s := regs mem [(Reg.MEM_SCRUB_LEN_LO, 4096)]
     accReady s .mc0 Reg.MEM_SCRUB_CTL = true ∧ s.bit Reg.MEM_SCRUB_CTL 1 = false ∧ 0 < s.pair Reg.MEM_SCRUB_LEN_LO) ∧
    (let s := dyn { mem with fills := [(0, 4096, 0)] } (fun d => { d with mem := { d.mem with scrub := some (0, 128) } })
     s.dyn.mem.scrub = some (0, 128) ∧ rasUp s = true ∧ 0 < memEnd s ∧ readWord s 0 [] = .ok (zeros 64)) := by decide +kernel

/-- The cache as given. -/
def cache (g : CchD → CchD) : State := dyn { mem with fills := [(0, 4096, 0)] } (fun d => { d with cch := g { d.cch with ready := true } })

theorem witness_CacheRequestsAndLines :
    (let s := cache (fun c => { c with lines := [⟨1, 0, false, zeros 64⟩] })
     (1 : Nat) = (64 : BitVec 36).toNat / 64 ∧ memReady s = true ∧ s.up 20 = true ∧ s.up (setDom 1) = true ∧ s.dyn.cch.ready = true ∧
      s.dyn.cch.filling.any (fun f => f.line == 1) = false ∧ s.dyn.cch.evict.any (fun e => e.1 == 1) = false ∧
      cacheLine s 1 = some ⟨1, 0, false, zeros 64⟩ ∧ s.dyn.cch.due.contains 0 = false) ∧
    (let s := cache id
     s.up (setDom 1) = true ∧ s.dyn.cch.ready = true ∧ cacheLine s 1 = none ∧ mayAllocate .mc0 false = true ∧
      mayAllocate .media true = false ∧ s.levelUp 5 = true) ∧
    (let s := cache (fun c => { c with filling := [⟨1, 0, none, .mc0⟩] })
     s.dyn.cch.filling.find? (fun f => f.line == 1) = some ⟨1, 0, none, .mc0⟩ ∧ s.dyn.cch.evict.any (fun e => e.1 == 1) = false ∧
      1 * 64 < memEnd s ∧ readWord s (1 * 64) [] = .ok (zeros 64) ∧ memReady s = true) ∧
    (cache (fun c => { c with evict := [(1, zeros 64)] })).dyn.cch.evict = (1, zeros 64) :: [] := by decide +kernel

theorem witness_CacheMaintenance :
    (accReady mem .mc0 Reg.CCH_MAINT_CTL = true ∧ mem.bit Reg.CCH_MAINT_CTL 31 = false) ∧
    (let s := regs (cache (fun c => { c with lines := [⟨1, 0, false, zeros 64⟩], maint := some (2, 0, 4) })) [(Reg.CCH_MAINT_CTL, 0x80000000)]
     accReady s .mc0 Reg.CCH_MAINT_CTL = true ∧ s.up 20 = true ∧ memReady s = true ∧ s.bit Reg.CCH_MAINT_CTL 31 = true ∧
      s.dyn.cch.filling.any (fun f => maintHits s f.line) = false ∧ s.dyn.cch.maint = some (2, 0, 4)) ∧
    (let s := cache (fun c => { c with due := [3] })
     s.up 20 = true ∧ memReady s = true ∧ s.dyn.cch.due.contains (3 : Fin 16).val = true ∧
      s.dyn.cch.filling.any (fun f => f.way == (3 : Fin 16).val) = false) := by decide +kernel

/-! Reset, power, the enclosure and the ports. -/

/-- A change of the reset block. -/
def rst (g : RstD → RstD) : State := dyn up (fun d => { d with rst := g d.rst })

theorem witness_PowerOnReset : up.dyn.rst.asserted.any (isSrc .por 1) = false := by decide +kernel

theorem witness_ResetSources :
    (let s := rst (fun r => { r with raised := [⟨.warm, 5, 0⟩, ⟨.host, 1, 0⟩] })
     s.dyn.rst.refGood = true ∧ s.dyn.rst.beached = false ∧ s.dyn.rst.raised.find? (fun r => r.src == .warm) = some ⟨.warm, 5, 0⟩ ∧
      s.dyn.rst.raised.find? (fun r => r.src == .host) = some ⟨.host, 1, 0⟩) ∧
    (let s := rst (fun r => { r with asserted := [⟨.por, 1, 0⟩, ⟨.pin, 1, 0⟩, ⟨.por, 0x10, 0⟩, ⟨.warm, 5, 0⟩, ⟨.host, 1, 0⟩] })
     s.dyn.rst.asserted.any (fun x => x.src == Source.warm && x.sub == 5) = true ∧
      s.dyn.rst.asserted.find? (isSrc .por 1) = some ⟨.por, 1, 0⟩ ∧ s.dyn.rst.asserted.find? (isSrc .pin 1) = some ⟨.pin, 1, 0⟩ ∧
      s.dyn.rst.asserted.find? (isSrc .por (railSub .core)) = some ⟨.por, 0x10, 0⟩ ∧ Rail.core ≠ .aon ∧
      s.dyn.rst.asserted.find? (fun r => r.src == .warm) = some ⟨.warm, 5, 0⟩ ∧
      s.dyn.rst.asserted.find? (fun r => r.src == .host) = some ⟨.host, 1, 0⟩) := by decide +kernel

theorem witness_ClocksAndLevels :
    (let s := up
     s.dyn.rst.faultPll = false ∧ s.dyn.rst.beached = false ∧ s.dyn.rst.asserted.any (fun r => r.src == .por) = false ∧
      s.levelUp 1 = true ∧ s.dyn.rst.refGood = true ∧ s.dyn.rst.pllLock = true ∧ famGood s .core = true ∧ s.dyn.rst.seq = none ∧
      s.up 0 = true ∧ accReady s .mc0 (Reg.CLK_DOM_OFF (0 : Fin 4).val) = true) ∧
    (let s := rst (fun r => { r with held := 0x1F0, good := 0, seq := some .pin })
     (nextLevel s).bind levelFam = some .mgmt ∧ famGood s .mgmt = false ∧ s.levelUp 1 = true ∧ s.dyn.rst.faultPll = false ∧
      s.dyn.rst.beached = false ∧ nextLevel s = some 4 ∧ mayRelease s 4 = false) ∧
    (let s := rst (fun r => { r with held := 0x1F0 })
     nextLevel s = some 4 ∧ mayRelease s 4 = true) ∧
    (let s := rst (fun r => { r with domHeld := BitVec.ofNat 101 (2 ^ 64) })
     s.dyn.rst.domHeld.getLsbD (64 : Fin 100).val = true ∧ s.levelUp (domLevel (64 : Fin 100).val) = true ∧
      s.bit (Reg.CLK_DOM_OFF ((64 : Fin 100).val / 32)) ((64 : Fin 100).val % 32) = false) := by decide +kernel

theorem witness_OptionsWatchdogPads :
    (let s := rst (fun r => { r with held := 0x1F8, optLoad := true, optDone := false })
     s.dyn.rst.optLoad = true ∧ s.levelUp 2 = true) ∧
    (let d : Word := 0xD7A10001
     accReady up .mc0 Reg.RST_SW = true ∧ Initiator.mc0.isMc = true ∧ d.fld 31 16 = 0xD7A1 ∧ d.bit 0 = true ∧ d.bit 1 = false ∧
      Initiator.jtag.isMc = false ∧ (0 : Word).fld 31 16 ≠ 0xD7A1) ∧
    (accReady up .mc0 Reg.RST_WDOG_KICK = true ∧ (0xC0DE : Word).fld 15 0 = 0xC0DE ∧ (0 : Word).fld 15 0 ≠ 0xC0DE) ∧
    wdCounts (regs up [(Reg.RST_WDOG, 0x80000005)]) = true ∧ accReady up .mc0 Reg.RST_PAD = true ∧
    accReady up .mc0 Reg.RST_CORE_GO = true := by decide +kernel

theorem witness_BootAndFirmware :
    (let s := dyn mem (fun d => { d with rst := { d.rst with bootDue := true } })
     s.dyn.rst.bootDue = true ∧ s.up 15 = true ∧ s.up 19 = true ∧ s.dyn.rst.bootMode = 0 ∧ s.fld Reg.MEM_TRAIN_STAT 7 4 = 0xF) ∧
    (let s := rst (fun r => { r with uartWait := true })
     s.dyn.rst.uartWait = true ∧ s.up 15 = true ∧ imgHead s [] = false) ∧
    (let g : Dyn → Dyn := fun d => { d with rst := { d.rst with norMib := 64 } }
     ([0, 3].all (fun ca =>
       let c := admCmd 0x10 0 [(10, ca * 8 + 1)]
       let s := adm 0x10 0 [(10, ca * 8 + 1)] g
       admReady 0x10 0 [(10, ca * 8 + 1)] g && s.up 19 && decide (fwSlot s c ≤ 2) && s.dyn.rst.norMib != 0 && (c.cdw 10).fld 5 3 == ca &&
         (s.cmdBy (ref 0) (fun c => c.done.isNone && c.work != .idle)).isNone)) = true) ∧
    (let c := cmd 0 (sqe 0x10 0 []) (.fw 1 2) none
     let s := host [] link1 [c] id
     s.cmdBy (ref 0) (fun c => c.done.isNone && c.work != .idle) = some c ∧ c.work = .fw 1 2 ∧ s.up 15 = true ∧
      s.dyn.rst.cores.getD 0 .waiting = .running) ∧
    (let dw := [(10, 15), (11, 0)]
     admReady 0x11 0 dw id = true ∧ 4 * ((admCmd 0x11 0 dw).cdw 11).toNat + 4 * (((admCmd 0x11 0 dw).cdw 10).toNat + 1) ≤ 0x800000 ∧
      dptrWalk link1 (admCmd 0x11 0 dw) 64 none = .inr [⟨0, none, 64⟩]) := by decide +kernel

theorem witness_WholeWordWrite : mem.wf = true ∧ memReady mem = true ∧ (64 : BitVec 36).toNat / 64 * 64 < memEnd mem := by decide +kernel

theorem witness_StartsAndHeat :
    (up.up 3 = true ∧ up.dyn.pwr.queue.any (fun q => !q.sw && q.cls == StartClass.lane.idx && q.idx == (0 : Fin 64).val) = false ∧
      accReady up .mc0 Reg.BW_SWREQ = true ∧ (2 : Word).fld 2 0 ≤ 4 ∧ up.bit Reg.BW_SWSTAT 0 = false ∧
      accReady up .mc0 Reg.BW_MAXWAIT = true ∧ (regs up [(Reg.BW_SWSTAT, 1)]).bit Reg.BW_SWSTAT 0 = true ∧
      accReady (regs up [(Reg.BW_SWSTAT, 1)]) .mc0 Reg.BW_SWREQ = true) ∧
    bwFirstHold (dyn up (fun d => { d with pwr := { d.pwr with holds := [⟨0, 5, 9⟩] } })) (0 : Fin 4).val = some ⟨0, 5, 9⟩ ∧
    (let s := regs up [(Reg.HL_CTL 0, 2), (Reg.THM_STAT, 0x400)]
     s.up 2 = true ∧ hlUp s (0 : Fin 4).val = true ∧ s.bit (Reg.HL_CTL (0 : Fin 4).val) 1 = true ∧ s.bit Reg.THM_STAT 10 = true) ∧
    (let s := dyn up (fun d => { d with rst := { d.rst with beached := true }, aon := { d.aon with tripDue := true, tripNext := 0x80000000 } })
     s.dyn.rst.beached = true ∧ s.dyn.aon.tripDue = true ∧ s.dyn.aon.norOp = none ∧ s.dyn.aon.tripNext.bit 31 = true ∧
      (norPass s (s.norBytes (s.dyn.aon.tripNext.fld 27 5 * 32) 32)).any (fun b => b != 0xFF) = false ∧
      (let u : State := { s with nor := [⟨4, 0⟩] }
       (norPass u (u.norBytes (u.dyn.aon.tripNext.fld 27 5 * 32) 32)).any (fun b => b != 0xFF)) = true) ∧
    (let s := dyn up (fun d => { d with zn := { d.zn with apste := true, apst := List.replicate 32 (3, 100) } })
     s.dyn.zn.apst[s.dyn.pwr.ps]? = some (3, 100) ∧ ioBusy s = false ∧ s.up 19 = true ∧ s.dyn.zn.apste = true) := by decide +kernel

theorem witness_EnclosureNvsAndTime :
    (let s := dyn (regs up [(Reg.MGT_EN, 1), (Reg.MGT_CTL, 2)]) (fun d => { d with mgt := { d.mgt with hjDue := true } })
     i3cUp s = true ∧ hasDa s = false ∧ s.dyn.mgt.hjDue = true ∧ s.dyn.mgt.hjOff = false ∧ s.bit Reg.MGT_CTL 1 = true ∧
      (8 : BitVec 8).getLsbD 3 = true) ∧
    (let s := regs up [(Reg.MGT_EN, 1), (Reg.MGT_STAT, 0x8900), (Reg.MGT_CTL, 0x500)]
     i3cUp s = true ∧ hasDa s = true ∧ daOf s = (9 : BitVec 7).toNat ∧ leaseS s ≠ 0) ∧
    leaseS (regs up [(Reg.MGT_EN, 1), (Reg.MGT_STAT, 0x8900), (Reg.MGT_CTL, 0)]) = 0 ∧
    (let s := dyn (regs mem [(Reg.NVS_LEN, 64), (Reg.NVS_ADDR, 0x40000)]) (fun d => { d with
       rst := { d.rst with norMib := 64 }, cch := { d.cch with lines := [⟨0, 0, false, zeros 64⟩] } })
     accReady s .mc0 Reg.NVS_CMD = true ∧ s.bit Reg.NVS_STAT 15 = false ∧ nvsCause s 1 = none ∧ nvsCause s 2 = none ∧
      nvsCause s 3 = none ∧ nvsCause s 4 = none ∧ reqReady s = true ∧ reqRead s (nvsDram s) (nvsLen s) = some (zeros 64) ∧
      s.wf = true) ∧
    (let s := dyn (regs mem [(Reg.NVS_STAT, 0x8000)]) (fun d => { d with nvs := { d.nvs with cmd := some (3, 0) } })
     accReady s .mc0 Reg.NVS_CMD = true ∧ s.bit Reg.NVS_STAT 15 = true ∧ s.dyn.nvs.cmd = some (3, 0) ∧ s.up 19 = true) ∧
    (let s := dyn mem (fun d => { d with sys := { d.sys with stage := setAt d.sys.stage Initiator.mc0.id (some (Reg.TIM_HOST_LO, 7)) } })
     accReady s .mc0 Reg.TIM_HOST_HI = true ∧ staged s .mc0 Reg.TIM_HOST_LO = some 7) := by decide +kernel

theorem witness_RecorderControl :
    (up.up 8 = true ∧ wrkState up = 0 ∧ wrkState (regs up [(Reg.WRK_TRIG, 2)]) = 2 ∧
      (regs up [(Reg.WRK_TRIG, 2)]).dyn.wrk.post = 0 ∧ wrkState (regs up [(Reg.WRK_TRIG, 3)]) = 3) ∧
    (let s := dyn (regs up [(Reg.WRK_TRIG, 1), (Reg.WRK_CTL, 0x100)]) (fun d => { d with wrk := { d.wrk with mask := 4 } })
     s.up 8 = true ∧ wrkState s = 1 ∧ s.bit Reg.WRK_CTL 8 = true ∧ s.bit Reg.WRK_CTL 9 = false ∧
      s.dyn.wrk.mask.testBit 2 = true ∧ s.dyn.wrk.mask.testBit 1 = false) ∧
    (admReady 0xC2 0 [] id = true ∧ (adm 0xC2 0 [] id).up 19 = true ∧ ((admCmd 0xC2 0 []).cdw 10).fld 3 0 = 0 ∧
      ((admCmd 0xC2 0 []).cdw 12).toNat = 0) ∧
    (let s := regs mem [(Reg.WRK_RP_CNT, 4)]
     accReady s .mc0 Reg.WRK_RP_CTL = true ∧ s.bit Reg.WRK_RP_CTL 1 = false ∧ s.reg Reg.WRK_RP_CNT ≠ 0) ∧
    (let s := dyn (regs mem [(Reg.WRK_RP_CNT, 4), (Reg.WRK_RP_CTL, 2), (Reg.HL_CTL 0, 8)]) (fun d => { d with
       wrk := { d.wrk with replay := some 0 } })
     s.fld Reg.WRK_RP_CTL 5 4 = 0 ∧ s.dyn.wrk.replay = some 0 ∧ hlUp s 0 = true ∧ hlReplay s 0 = true ∧ reqReady s = true) := by
  decide +kernel

theorem witness_MotorFaultOnlyRecorded : up.up 1 = true := by decide +kernel

theorem witness_DebugMotorAndPads :
    extest (dyn up (fun d => { d with tap := { d.tap with ir := 0 } })) = true ∧
    (tapUp up = true ∧ (0x55 : BitVec 8) ≠ 0x00 ∧ (0x55 : BitVec 8) ≠ 0x20 ∧ up.up 7 = true ∧
      initiatorOk (regs up [(Reg.SYS_DBG_EN, 3)]) .jtag = true ∧ (rst (fun r => { r with held := 0x1FE })).up 7 = false ∧
      tapUp (rst (fun r => { r with held := 0x1FE })) = true ∧ accReady (regs up [(Reg.SYS_DBG_EN, 3)]) .jtag Reg.DBG_CORE = true ∧
      (regs up [(Reg.SYS_DBG_EN, 3)]).bit Reg.SYS_DBG_EN 1 = true) ∧
    (accReady (regs up [(Reg.MPD_CTL, 0x100)]) .mc0 Reg.MPD_CMD = true ∧ up.dyn.mpd.cmd = none ∧
      (regs up [(Reg.MPD_CTL, 0x100)]).bit Reg.MPD_CTL 8 = true) ∧
    ((dyn up (fun d => { d with mpd := { d.mpd with cmd := some 5 } })).dyn.mpd.cmd = some 5 ∧ up.up 1 = true ∧
      accReady up .mc0 Reg.PAD_FE = true) := by decide +kernel

/-- Table 16.3: a trigger of source 3, actuator 2 takes ARMED to TRIGGERED and is recorded. -/
theorem test_trigger :
    (match exec (.recorderTrigger 3 2 none) (dyn (regs up [(Reg.WRK_TRIG, 1), (Reg.WRK_CTL, 0x800)]) (fun d => { d with
      wrk := { d.wrk with mask := 4, tick := [0, 0, 77, 0] } })) with
    | .next t => (wrkState t, t.fld Reg.WRK_TRIG 4 2, t.fld Reg.WRK_TRIG 9 8, t.reg Reg.WRK_TRIG_TICK) == (2, 3, 2, 77)
    | _ => false) = true := by decide +kernel

/-! Results from the manual's worked examples and from published vectors. -/

/-- The reference drive of 03's worked example: C = 2,192, K = 6,987. -/
def refDrive (l : List (Nat × Word)) (g : Dyn → Dyn) : State :=
  host ((Reg.GEO_FMT 0, 274 * 65536 + 6987) :: l) link1 [] g

/-- 03, worked example: the address of LBA 3,000,000,000. -/
theorem test_place : (placeOf (refDrive [] id) 3000000000) = ⟨0, 1, 0, 4, 1704, 6204, 94⟩ ∧ twin 4 = 36 := by decide +kernel

/-- 02, worked example: the alias of SYS_LOCK bit 0. -/
theorem test_alias : aliasAddr Reg.SYS_LOCK 0 = 0x800600 := by decide +kernel

/-- 02, worked example: the third write closes the debug port and the sequence, without an error. -/
theorem test_guard_closes_debug_port :
    (let s := dyn (regs up [(Reg.SYS_DBG_EN, 3), (Reg.SYS_GUARD_TGT, 0x38), (Reg.SYS_GUARD_STAT, 2)]) (fun d => { d with
       sys := { d.sys with guard := { d.sys.guard with val := some 0 } } })
     guardOpen s == true && (match exec (.guardInvWrite .mc0 0xFFFFFFFF) s with
      | .next t => t.reg Reg.SYS_DBG_EN == 0 && !guardOpen t && !t.bit Reg.SYS_GUARD_STAT 0
      | _ => false)) = true := by decide +kernel

/-- 12, worked example: the counter of a word of bank 11 on MEM1 subchannel 1. -/
theorem test_bank_counter : memBankIdx 0x10 0x24D3AC5C0 = 203 ∧ Reg.MEM_CE_CNT 203 = 0x4232C := by decide +kernel

/-- 08, worked example: the scanned ends of four heads, and the write pointer and band pointers they give. -/
theorem test_cut_write_scan :
    (let ends := [24451, 24486, 24420, 24431]
     let wp := (List.range 4).foldl (fun m j => min m (sectorBlock (ends.getD j 0) j)) zoneBlocks
     wp = 94751 ∧ (List.range 4).map (fun j => blockSector (lowBlock wp j)) = [24451, 24420, 24420, 24420]) := by decide +kernel

/-- 04, worked example: marks at 238 and 336 are case 3. -/
theorem test_sync_case : syncCase (some 238) (some 336) = 3 := by decide +kernel

/-- 07, worked example: the gain's steps and its mean. -/
theorem test_ramp :
    rampValue ⟨0x4340, false, 134217728, 139586437⟩ 1 64 = 134301614 ∧ rampValue ⟨0x4340, false, 134217728, 139586437⟩ 32 64 = 136902082 ∧
    rampValue ⟨0x4340, false, 134217728, 139586437⟩ 64 64 = 139586437 := by decide +kernel

/-- 09, worked example: a link's doorbell window, and turns of 8, 8 and 4 entries at AB = 3. -/
theorem test_link_window_and_turns :
    dbWindow 37 = 0x100009400 ∧
    ([(0, 8), (8, 8), (16, 4)].all (fun p =>
      let q : SubQ := ⟨1, 0, 1024, p.1, 20, 1, 2, false⟩
      let l := { net0 2 with sqs := [q] }
      turnLen (host [(Reg.HQE_ARB, 3), (Reg.HQE_SLOTS, 4)] l [] id) l q == p.2)) = true := by decide +kernel

/-- 14, worked example: three lane power-ups of 30 tokens fit rail 1 of 90, the fourth waits. -/
theorem test_lane_grants :
    (let s := regs up [(Reg.BW_CTL, 0x10000), (Reg.BW_BUDGET 1, 90), (Reg.BW_CLASS 2, 0x40000000 + 1500), (Reg.BW_COST 2, 30)]
     let go (s : State) (i : Fin 64) : State := match exec (.bwRequest .lane i) s with
       | .next t => t
       | _ => s
     let t := go (go (go (go s 0) 1) 2) 3
     t.dyn.pwr.granted.length == 3 && t.dyn.pwr.queue.length == 1) = true := by decide +kernel

/-- The check value of CRC-32C (RFC 3720's polynomial): "123456789". -/
theorem test_crc32c : crc32c [0x31, 0x32, 0x33, 0x34, 0x35, 0x36, 0x37, 0x38, 0x39] = 0xE3069283 := by decide +kernel
/-- FIPS 197, appendix C.1. -/
theorem test_aes128 :
    (aesEnc (aesKeys ((List.range 16).map b8)) ((List.range 16).map (fun i => b8 (0x11 * i)))) =
      [0x69, 0xC4, 0xE0, 0xD8, 0x6A, 0x7B, 0x04, 0x30, 0xD8, 0xCD, 0xB7, 0x80, 0x70, 0xB4, 0xC5, 0x5A] := by decide +kernel
/-- FIPS 180-4: SHA-256 of "abc". -/
theorem test_sha256 : (sha256 [0x61, 0x62, 0x63]).take 8 = [0xBA, 0x78, 0x16, 0xBF, 0x8F, 0x01, 0xCF, 0xEA] := by decide +kernel
/-- FIPS 180-4: SHA-384 of "abc". -/
theorem test_sha384 : (sha384 [0x61, 0x62, 0x63]).take 8 = [0xCB, 0x00, 0x75, 0x3F, 0x45, 0xA3, 0x5E, 0x8B] := by decide +kernel

end Sys2Proof.Tests
end

/-! The invariant of the stores. -/

namespace Sys2Proof.Machine

/-- A step takes the command at the front of the queue away and runs a list of effects on the rest. -/
theorem step_effects (s : State) : ∃ es, step s = .next (applyAllP { s with pending := s.pending.tail } es) := by
  unfold step
  split
  · next h => exact ⟨(tick s).map .eff, by rw [applyAllP_eff, h, List.tail_nil, ← h]⟩
  · next i rest h =>
    rw [h, List.tail_cons]
    exact exec_effects i { s with pending := rest }

/-- Settles O3: a step is a list of effects, each of which keeps the stores, and the queue is none of them. -/
theorem stepKeepsStores : Obligations.StepKeepsStores := by
  unfold Obligations.StepKeepsStores
  intro s hs
  obtain ⟨es, hstep⟩ := step_effects s
  have hrest : State.wf { s with pending := s.pending.tail } = true := hs
  exact ⟨_, hstep, applyAllP_wf es _ hrest⟩

end Sys2Proof.Machine

/-! Features, log pages, Identify and unsupported opcodes. -/

namespace Sys2Proof.Machine

/-- An action whose effects are known runs them. -/
theorem run_of_effects {a : Act} {s : State} {es : List Eff} (h : a s = es) : run a s = .next (applyAll s es) := by
  rw [run_next, h]

/-- A command that may be worked on leaves the effects of its action. -/
theorem run_withCmd {cmd : CmdRef} {c : HCmd} {s : State} {admin : Bool} {op : Nat}
    (k : HCmd → Act) (hr : cmdReady s cmd admin op c = true) {es : List Eff} (hk : k c s = es) :
    run (withCmd cmd admin op k) s = .next (applyAll s es) :=
  run_of_effects ((withCmd_ready s cmd admin op k c hr).trans hk)

/-- Data that a host's buffer can give reaches the command it is for. -/
theorem withData_of_pieces {s : State} {c : HCmd} {l : Link} {list : Option (List Byte)} {n : Nat} {ps : List Piece}
    (data : List Byte) (k : List Byte → Act) (hl : s.link? c.link = some l) (hw : dptrWalk l c n list = .inr ps) :
    withData c list (some data) n k s = seqs [getHost l ps, k (fit n data)] s := by
  simp [withData, hl, hw]

/-! Set Features (R313): SV is 0, and the command names the feature. -/

section SetFeatures
variable {cmd : CmdRef} {c : HCmd} {s : State} (hr : cmdReady s cmd true 0x09 c = true) (hsv : (c.cdw 10).bit 31 = false)
include hr hsv

/-- A Set Features of the feature it names does what the feature says. -/
theorem setFeature_ready {fid : Nat} (k : HCmd → Act) (hf : (c.cdw 10).fld 7 0 = fid) : setFeature cmd fid k s = k c s := by
  unfold setFeature
  rw [withCmd_ready s cmd true 0x09 _ c hr, if_neg (fun hne => hne hf), hsv]
  rfl

/-- So a command that is such a Set Features leaves the effects of its feature. -/
theorem run_setFeature {fid : Nat} (k : HCmd → Act) (hf : (c.cdw 10).fld 7 0 = fid) {es : List Eff} (hk : k c s = es) :
    run (setFeature cmd fid k) s = .next (applyAll s es) :=
  run_of_effects ((setFeature_ready hr hsv k hf).trans hk)

theorem exec_setPowerManagement_ready (hf : (c.cdw 10).fld 7 0 = 0x02) (hps : (c.cdw 11).fld 4 0 ≤ 5)
    (hwh : (c.cdw 11).fld 7 5 = 0) : exec (.setPowerManagement cmd) s =
      .next (applyAll s (seqs [enterPs ((c.cdw 11).fld 4 0), finish c okCpl] s)) := by
  refine run_setFeature hr hsv _ hf ?_
  simp [hwh, Nat.not_lt.2 hps]

theorem exec_setTemperatureThreshold_over (hf : (c.cdw 10).fld 7 0 = 0x04) (hk : (c.cdw 11).fld 19 16 ≤ 6)
    (hsel : (c.cdw 11).fld 21 20 = 0) : exec (.setTemperatureThreshold cmd) s = .next (applyAll s (seqs [
      fun _ => [updZn (fun d => { d with tOver := setAt d.tOver ((c.cdw 11).fld 19 16) (some ((c.cdw 11).fld 15 0)) })],
      fun s => if s.up 2 then thmHost s else [], finish c okCpl] s)) := by
  refine run_setFeature hr hsv _ hf ?_
  simp [hsel, Nat.not_lt.2 hk]

theorem exec_setVolatileWriteCache_on (hf : (c.cdw 10).fld 7 0 = 0x06) (hon : (c.cdw 11).bit 0 = true) :
    exec (.setVolatileWriteCache cmd) s =
      .next (applyAll s (seqs [fun _ => [updZn (fun d => { d with wce := true })], finish c okCpl] s)) := by
  refine run_setFeature hr hsv _ hf ?_
  simp [hon]

theorem exec_setVolatileWriteCache_off (hf : (c.cdw 10).fld 7 0 = 0x06) (hoff : (c.cdw 11).bit 0 = false) :
    exec (.setVolatileWriteCache cmd) s = .next (applyAll s (seqs [fun _ => [updZn (fun d => { d with wce := false })],
      seqs [fun _ => [updCmd c.no (fun x => { x with work := .wce })], settle]] s)) := by
  refine run_setFeature hr hsv _ hf ?_
  simp [hoff]

/-- While a pair is free, each number granted is what is asked for, cut to the link's and the device's limits (R240). -/
theorem exec_setNumberOfQueues_free {l : Link} {n q : Nat} (hf : (c.cdw 10).fld 7 0 = 0x07) (hl : s.link? c.link = some l)
    (hnew : l.numq = false) (hfree : pairsUsed s < 4096)
    (hn : n = min ((c.cdw 11).fld 15 0 + 1) (min ((if l.pcie then 1024 else 64) - 1) (4096 - pairsUsed s)))
    (hq : q = min ((c.cdw 11).fld 31 16 + 1) (min ((if l.pcie then 1024 else 64) - 1) (4096 - pairsUsed s))) :
    exec (.setNumberOfQueues cmd) s = .next (applyAll s (
      updLink l.id (fun k => { k with numq := true, nsqa := n, ncqa := q, grant := max n q }) ::
        finish c { dw0 := (q - 1) * 65536 + (n - 1) } s)) := by
  have hpairs : 4096 - pairsUsed s ≠ 0 := Nat.sub_ne_zero_of_lt hfree
  refine run_setFeature hr hsv _ hf ?_
  simp only [hl, hnew, if_neg hpairs, ← hn, ← hq]
  rfl

theorem exec_setInterruptVectorConfig_zero {l : Link} (hf : (c.cdw 10).fld 7 0 = 0x09) (hl : s.link? c.link = some l)
    (hiv : (c.cdw 11).fld 15 0 = 0) (hcd : (c.cdw 11).bit 16 = true) : exec (.setInterruptVectorConfig cmd) s =
      .next (applyAll s (seqs [fun _ => [updLink l.id (fun k => { k with cd := 0 :: k.cd.filter (fun x => x != 0) })],
        refire l.id, finish c okCpl] s)) := by
  refine run_setFeature hr hsv _ hf ?_
  simp [hl, hiv, hcd]

theorem exec_setApst_ready {l : Link} {list : Option (List Byte)} {ps : List Piece} (data : List Byte)
    (hf : (c.cdw 10).fld 7 0 = 0x0C) (hl : s.link? c.link = some l) (hw : dptrWalk l c 256 list = .inr ps) :
    exec (.setApst ⟨cmd, list⟩ (some data)) s = .next (applyAll s (seqs [getHost l ps, fun s => updZn (fun z => { z with
      apste := (c.cdw 11).bit 0,
      apst := (List.range 32).map (fun i => (leAt (fit 256 data) (8 * i) 1 / 8, leAt (fit 256 data) (8 * i + 1) 3)) }) ::
      finish c okCpl s] s)) :=
  run_setFeature hr hsv _ hf (withData_of_pieces data _ hl hw)

theorem exec_setTimestamp_ready {l : Link} {list : Option (List Byte)} {ps : List Piece} (data : List Byte)
    (hf : (c.cdw 10).fld 7 0 = 0x0E) (hl : s.link? c.link = some l) (hw : dptrWalk l c 8 list = .inr ps) :
    exec (.setTimestamp ⟨cmd, list⟩ (some data)) s = .next (applyAll s (seqs [getHost l ps,
      fun s => timeCommit (leAt (fit 8 data) 0 6) :: finish c okCpl s] s)) :=
  run_setFeature hr hsv _ hf (withData_of_pieces data _ hl hw)

end SetFeatures

/-! Get Features, Get Log Page and Identify (R278, R311, R313). -/

section Reads
variable {cmd : CmdRef} {list : Option (List Byte)} {c : HCmd} {s : State}

theorem exec_getFeatures_value {l : Link} {dw : Nat} (hr : cmdReady s cmd true 0x0A c = true) (hl : s.link? c.link = some l)
    (hsel : (c.cdw 10).fld 10 8 ≤ 2)
    (hv : featureValue s l ((c.cdw 10).fld 7 0) (c.cdw 11).toNat ((c.cdw 10).fld 10 8 == 0) = some (dw, [])) :
    exec (.getFeatures ⟨cmd, list⟩) s = .next (applyAll s (finish c { dw0 := dw } s)) := by
  refine run_withCmd _ hr ?_
  simp only [hl, if_neg (Nat.not_lt.2 hsel), hv]

theorem exec_getFeatures_badSelect {l : Link} (hr : cmdReady s cmd true 0x0A c = true) (hl : s.link? c.link = some l)
    (hsel : 2 < (c.cdw 10).fld 10 8) : exec (.getFeatures ⟨cmd, list⟩) s = .next (applyAll s (finish c invField s)) := by
  refine run_withCmd _ hr ?_
  simp only [hl, if_pos hsel]

theorem exec_getLogPage_part {l : Link} {p : List Byte} {off : Nat} (hr : cmdReady s cmd true 0x02 c = true)
    (hl : s.link? c.link = some l) (hp : logPage s l ((c.cdw 10).fld 7 0) = some p) (ho : off = leAt c.sqe 48 8)
    (hlen : off < p.length) (hdw : off % 4 = 0)
    (hd : dptrCheck l c (4 * ((c.cdw 10).fld 31 16 + 65536 * (c.cdw 11).fld 15 0 + 1)) list = none) :
    exec (.getLogPage ⟨cmd, list⟩) s = .next (applyAll s (seqs [
      reply c list (slice p off (4 * ((c.cdw 10).fld 31 16 + 65536 * (c.cdw 11).fld 15 0 + 1))),
      if (c.cdw 10).bit 15 then skip else pageCleared l ((c.cdw 10).fld 7 0)] s)) := by
  subst ho
  refine run_withCmd _ hr ?_
  simp [hl, hp, Nat.not_le.2 hlen, hdw, hd]

theorem exec_identify_answer {d : List Byte} (hr : cmdReady s cmd true 0x06 c = true) (ha : idAnswer s c = .inr d) :
    exec (.identify ⟨cmd, list⟩) s = .next (applyAll s (reply c list d s)) := by
  refine run_withCmd _ hr ?_
  simp only [ha]

end Reads

/-! Opcodes of no command (R6). -/

/-- An opcode of no command is refused, whatever queue it came on (R6). -/
theorem exec_unsupportedOpcode_of_unknown {cmd : CmdRef} {admin : Bool} {op : Nat} {c : HCmd} {s : State}
    (hr : cmdReady s cmd admin op c = true) (hk : knownOp c = false) :
    exec (.unsupportedOpcode cmd) s = .next (applyAll s (finish c (status 0 1) s)) := by
  unfold cmdReady at hr
  simp only [Bool.and_eq_true, beq_iff_eq, Bool.not_eq_true'] at hr
  obtain ⟨⟨⟨⟨⟨hfind, hup⟩, _⟩, _⟩, hlive⟩, hhold⟩ := hr
  apply run_of_effects
  simp [hfind, hup, hlive, hhold, hk]

/-- Settles O38: each clause is the action of its command, which a command that may be worked on runs. -/
theorem featuresAndPages : Obligations.FeaturesAndPages := by
  unfold Obligations.FeaturesAndPages
  constructor
  · intro cmd list data c l s hr hsv hl
    exact ⟨fun hf => run_setFeature hr hsv _ hf rfl,
      fun hf hps hwh => exec_setPowerManagement_ready hr hsv hf hps hwh,
      fun hf hk hsel _ => exec_setTemperatureThreshold_over hr hsv hf hk hsel,
      fun hf hon => exec_setVolatileWriteCache_on hr hsv hf hon,
      fun hf hoff => exec_setVolatileWriteCache_off hr hsv hf hoff,
      fun _ _ hf hnew hfree hn hq => exec_setNumberOfQueues_free hr hsv hf hl hnew hfree hn hq,
      fun hf => run_setFeature hr hsv _ hf rfl,
      fun hf hiv hcd => exec_setInterruptVectorConfig_zero hr hsv hf hl hiv hcd,
      fun hf => run_setFeature hr hsv _ hf rfl,
      fun _ hf hw => exec_setApst_ready hr hsv data hf hl hw,
      fun _ hf hw => exec_setTimestamp_ready hr hsv data hf hl hw⟩
  · intro cmd list c l s hl
    exact ⟨fun _ hr hsel hv => exec_getFeatures_value hr hl hsel hv,
      fun hr hsel => exec_getFeatures_badSelect hr hl hsel,
      fun _ _ hr hp ho hlen hdw hd => exec_getLogPage_part hr hl hp ho hlen hdw hd,
      fun _ hr ha => exec_identify_answer hr ha,
      fun _ _ hr hk => exec_unsupportedOpcode_of_unknown hr hk⟩

end Sys2Proof.Machine

/-! What lists of effects leave alone. -/

namespace Sys2Proof.Machine

/-- The register an effect stores to, if it stores to one. -/
def Eff.dest : Eff → Option Nat
  | .reg a _ | .fld a _ _ _ | .sq a _ | .cnt a _ _ _ => some a
  | .dram _ _ | .fill _ _ _ | .wipe | .nor _ _ | .emit _ | .upd _ | .draw => none

/-- An effect stores to buffer memory or NOR. -/
def Eff.stores : Eff → Bool
  | .dram _ _ | .fill _ _ _ | .wipe | .nor _ _ => true
  | .reg _ _ | .fld _ _ _ _ | .sq _ _ | .cnt _ _ _ _ | .emit _ | .upd _ | .draw => false

/-- An effect leaves every register it does not store to. -/
theorem reg_applyEff_of_dest_ne {e : Eff} {a : Nat} (h : e.dest ≠ some a) (s : State) : (applyEff s e).reg a = s.reg a := by
  cases e with
  | reg b v => exact reg_applyEff_reg s b a v (fun hab => h (congrArg some hab.symm))
  | fld b hi lo v => exact reg_applyEff_fld s b a hi lo v (fun hab => h (congrArg some hab.symm))
  | sq b v => exact reg_applyEff_sq s b a v (fun hab => h (congrArg some hab.symm))
  | cnt b hi lo n => exact reg_applyEff_cnt s b a hi lo n (fun hab => h (congrArg some hab.symm))
  | _ => rfl

theorem reg_applyAll_of_dest_ne {a : Nat} {es : List Eff} (h : ∀ e ∈ es, e.dest ≠ some a) (s : State) :
    (applyAll s es).reg a = s.reg a := by
  induction es generalizing s with
  | nil => rfl
  | cons e es ih =>
    obtain ⟨he, hes⟩ := List.forall_mem_cons.1 h
    exact (ih hes _).trans (reg_applyEff_of_dest_ne he s)

theorem sameRegsBut_applyAll {p : Nat → Prop} {es : List Eff} (h : ∀ e ∈ es, ∀ a, e.dest = some a → p a) (s : State) :
    sameRegsBut p s (applyAll s es) :=
  fun a ha => reg_applyAll_of_dest_ne (fun e he hd => ha (h e he a hd)) s

theorem sameMem_trans {s t u : State} (h : sameMem s t) (k : sameMem t u) : sameMem s u :=
  ⟨fun a => (k.1 a).trans (h.1 a), fun a => (k.2 a).trans (h.2 a)⟩

theorem sameMem_applyEff {e : Eff} (h : e.stores = false) (s : State) : sameMem s (applyEff s e) := by
  cases e with
  | dram | fill | wipe | nor => exact Bool.noConfusion h
  | _ => exact ⟨fun _ => rfl, fun _ => rfl⟩

theorem sameMem_applyAll {es : List Eff} (h : ∀ e ∈ es, e.stores = false) (s : State) : sameMem s (applyAll s es) := by
  induction es generalizing s with
  | nil => exact ⟨fun _ => rfl, fun _ => rfl⟩
  | cons e es ih =>
    obtain ⟨he, hes⟩ := List.forall_mem_cons.1 h
    exact sameMem_trans (sameMem_applyEff he s) (ih hes _)

/-- An effect that stores to a register changes no memory and nothing that no register shows. -/
theorem applyEff_of_dest_isSome {e : Eff} (h : e.dest.isSome = true) (s : State) :
    (applyEff s e).dyn = s.dyn ∧ sameMem s (applyEff s e) := by
  cases e with
  | reg | fld | sq | cnt => exact ⟨rfl, fun _ => rfl, fun _ => rfl⟩
  | _ => exact Bool.noConfusion h

theorem applyAll_of_dest_isSome {es : List Eff} (h : ∀ e ∈ es, e.dest.isSome = true) (s : State) :
    (applyAll s es).dyn = s.dyn ∧ sameMem s (applyAll s es) := by
  induction es generalizing s with
  | nil => exact ⟨rfl, fun _ => rfl, fun _ => rfl⟩
  | cons e es ih =>
    obtain ⟨he, hes⟩ := List.forall_mem_cons.1 h
    obtain ⟨hdyn, hmem⟩ := applyEff_of_dest_isSome he s
    obtain ⟨kdyn, kmem⟩ := ih hes (applyEff s e)
    exact ⟨kdyn.trans hdyn, sameMem_trans hmem kmem⟩

/-- What an effect leaves in the registers comes of the registers alone. -/
theorem regs_applyEff_congr {s t : State} (h : s.regs = t.regs) (e : Eff) : (applyEff s e).regs = (applyEff t e).regs := by
  have hreg : ∀ a, s.reg a = t.reg a := fun a => congrArg (regsGet · a) h
  cases e <;> simp [applyEff, State.hwReg, State.putReg, hreg, h]

theorem regs_applyAll_congr (es : List Eff) {s t : State} (h : s.regs = t.regs) : (applyAll s es).regs = (applyAll t es).regs := by
  induction es generalizing s t with
  | nil => exact h
  | cons e es ih => exact ih (regs_applyEff_congr h e)

/-- A bit of a register comes of the registers alone. -/
theorem State.bit_congr {s t : State} (h : s.regs = t.regs) (a i : Nat) : s.bit a i = t.bit a i :=
  congrArg (fun l => (regsGet l a).bit i) h

/-- A field of several registers stored one after another: each register keeps its own value. -/
theorem fld_applyAll_map_fld {f : Nat → Nat} (hf : Function.Injective f) (v : Nat → Nat) {l : List Nat} (hl : l.Nodup)
    {i hi lo : Nat} (hmem : i ∈ l) (hhi : hi < 32) (hlive : liveMask (f i) &&& fldMask hi lo = fldMask hi lo) (s : State) :
    (applyAll s (l.map (fun j => .fld (f j) hi lo (v j)))).fld (f i) hi lo = v i % 2 ^ (hi + 1 - lo) := by
  induction l generalizing s with
  | nil => exact absurd hmem List.not_mem_nil
  | cons j l ih =>
    obtain ⟨hj, hnodup⟩ := List.nodup_cons.1 hl
    rw [List.map_cons, applyAll_cons]
    by_cases hij : i = j
    · subst hij
      have hrest : ∀ e ∈ l.map (fun j => Eff.fld (f j) hi lo (v j)), e.dest ≠ some (f i) := by
        intro e he hd
        obtain ⟨k, hk, rfl⟩ := List.mem_map.1 he
        exact hj (hf (Option.some.inj hd) ▸ hk)
      unfold State.fld
      rw [reg_applyAll_of_dest_ne hrest]
      exact fld_applyEff_fld s (f i) hi lo (v i) hhi hlive
    · exact ih hnodup ((List.mem_cons.1 hmem).resolve_left hij) _

end Sys2Proof.Machine

/-! Plain writes. -/

namespace Sys2Proof.Machine

/-- Storing through a mask gives the masked bits the value's. -/
theorem merge_inside (w m v : Word) : w.merge m v &&& m = v &&& m := by
  apply BitVec.eq_of_getLsbD_eq
  intro i _
  rw [BitVec.getLsbD_and, BitVec.getLsbD_and, merge_getLsbD]
  cases m.getLsbD i <;> simp

section PlainWrite
variable {a : Nat} {d : RegDef} (hd : regDef a = some d) (hg : d.guarded = false)
include hd hg

/-- A plain write of a register with no GD field stores one word. -/
theorem plainWrite_unguarded (v : Word) (s : State) :
    plainWrite a v s = [.reg a (wrWord d (hwEnabled s a) (s.reg a) v)] := by
  simp [plainWrite, hd, hg]

/-- An RW bit of a register without SQ fields takes the value of a plain write. -/
theorem bit_plainWrite_rw (hsq : d.tyMask .sq = 0) {i : Nat} (hrw : (d.tyMask .rw).getLsbD i = true)
    (hlive : (liveMask a).getLsbD i = true) (v : Word) (s : State) : (applyAll s (plainWrite a v s)).bit a i = v.bit i := by
  rw [plainWrite_unguarded hd hg, applyAll_cons, applyAll_nil]
  unfold State.bit Word.bit
  rw [applyEff_reg, State.reg_hwReg, if_pos rfl, merge_getLsbD, if_pos hlive]
  simp [wrWord, hsq, merge_getLsbD, hrw]

end PlainWrite

end Sys2Proof.Machine

/-! Lanes: where their registers stand, and their own state. -/

namespace Sys2Proof.Machine

/-- A lane's registers stand in its own block, at offsets from LN_CTL (R23). -/
theorem blkOf_lane {g o : Nat} (hg : g < 16) (ho : o < 0x4000) : blkOf (Reg.LN_CTL g + o) = (.lane g, o) := by
  obtain ⟨y, hy⟩ : ∃ y, y = g / 4 * 0x40000 + (0x10000 + (g % 4 * 0x4000 + o)) := ⟨_, rfl⟩
  have hx : Reg.LN_CTL g + o = 0x100000 + y := by unfold Reg.LN_CTL; omega
  have hact : y / 0x40000 = g / 4 := by omega
  have hoff : y % 0x40000 = 0x10000 + (g % 4 * 0x4000 + o) := by omega
  have hlane : 4 * (g / 4) + (g % 4 * 0x4000 + o) / 0x4000 = g := by omega
  have hin : (g % 4 * 0x4000 + o) % 0x4000 = o := by omega
  have hbar : y < 0x100000 := by omega
  have hblk : 0x10000 + (g % 4 * 0x4000 + o) < 0x20000 := by omega
  rw [hx]
  unfold blkOf
  simp (disch := omega) only [if_neg, if_pos, Nat.add_sub_cancel_left, hact, hoff, hlane, hin]

/-- Every lane has the registers of lane 0. -/
theorem regDef_lane {g o : Nat} (hg : g < 16) (ho : o < 0x4000) : regDef (Reg.LN_CTL g + o) = regDef (Reg.LN_CTL 0 + o) := by
  unfold regDef
  rw [blkOf_lane hg ho, blkOf_lane (by omega) ho]
  rfl

theorem regDef_LN_CTL {g : Nat} (hg : g < 16) : regDef (Reg.LN_CTL g) =
    some ⟨"LN_CTL", 0x0, [], 0x400, .one, [fd .rw 15 15, fd .rw 11 10, fd .rw 1 1, fd .rw 0 0]⟩ := by
  have ha : Reg.LN_CTL g = Reg.LN_CTL g + 0 := rfl
  rw [ha, regDef_lane hg (by omega)]
  rfl

theorem regDef_LN_RATE {g : Nat} (hg : g < 16) : regDef (Reg.LN_RATE g) =
    some ⟨"LN_RATE", 0x4, [], 0x0, .one, [fd .ro 31 31, fd .rw 22 0]⟩ := by
  have ha : Reg.LN_RATE g = Reg.LN_CTL g + 4 := by unfold Reg.LN_RATE Reg.LN_CTL; omega
  rw [ha, regDef_lane hg (by omega)]
  rfl

theorem liveMask_of_regDef {a : Nat} {d : RegDef} (h : regDef a = some d) : liveMask a = d.maskOf (fun y => y.ty != .gd) := by
  rw [liveMask, h]

theorem liveMask_congr {a b : Nat} (h : regDef a = regDef b) : liveMask a = liveMask b := by
  rw [liveMask, h, liveMask]

theorem liveMask_LN_EQ_TAP_zero : ∀ i : Fin 24, liveMask (Reg.LN_EQ_TAP 0 i.val) &&& fldMask 27 16 = fldMask 27 16 := by
  decide

/-- Hardware may change the working value of every equaliser tap. -/
theorem liveMask_LN_EQ_TAP {g i : Nat} (hg : g < 16) (hi : i < 24) :
    liveMask (Reg.LN_EQ_TAP g i) &&& fldMask 27 16 = fldMask 27 16 := by
  have ha : Reg.LN_EQ_TAP g i = Reg.LN_CTL g + (0x100 + i * 4) := by unfold Reg.LN_EQ_TAP Reg.LN_CTL; omega
  have hz : Reg.LN_EQ_TAP 0 i = Reg.LN_CTL 0 + (0x100 + i * 4) := by unfold Reg.LN_EQ_TAP Reg.LN_CTL; omega
  have hsame : regDef (Reg.LN_EQ_TAP g i) = regDef (Reg.LN_EQ_TAP 0 i) := by rw [ha, hz, regDef_lane hg (by omega)]
  rw [liveMask_congr hsame]
  exact liveMask_LN_EQ_TAP_zero ⟨i, hi⟩

theorem LN_EQ_TAP_injective (g : Nat) : Function.Injective (Reg.LN_EQ_TAP g) := by
  intro i j h
  unfold Reg.LN_EQ_TAP at h
  omega

@[simp] theorem length_modAt {α : Type} (l : List α) (i : Nat) (f : α → α) : (modAt l i f).length = l.length := by
  unfold modAt
  split
  · exact List.length_set
  · rfl

theorem getD_modAt_self {α : Type} {l : List α} {i : Nat} (h : i < l.length) (f : α → α) (d : α) :
    (modAt l i f).getD i d = f (l.getD i d) := by
  simp [modAt, h]

theorem State.lane_congr {s t : State} (h : s.dyn = t.dyn) (g : Nat) : s.lane g = t.lane g := by
  unfold State.lane
  rw [h]

/-- A change of a lane's state, where there is such a lane. -/
theorem lane_updLane_self {s : State} {g : Nat} (h : g < s.dyn.ch.lanes.length) (f : LaneD → LaneD) :
    (applyEff s (updLane g f)).lane g = f (s.lane g) :=
  getD_modAt_self h f {}

@[simp] theorem lanes_length_updLane (s : State) (g : Nat) (f : LaneD → LaneD) :
    (applyEff s (updLane g f)).dyn.ch.lanes.length = s.dyn.ch.lanes.length :=
  length_modAt _ _ _

end Sys2Proof.Machine

/-! The start of a lane's transfer (R85, R87, R89). -/

namespace Sys2Proof.Machine

/-- A deferred rate is dropped from the lane's state as it takes effect. -/
abbrev rateTaken (g : Nat) : Eff := updLane g (fun l => { l with rateNew := none })

/-- What taking a deferred rate can do: nothing, or store LN_RATE, with LOCK cleared where the rate changes (R86, R87). -/
theorem rateTake_cases {g : Nat} (hg : g < 16) (s : State) :
    rateTake g s = [] ∨
    (∃ v, rateTake g s = [.reg (Reg.LN_RATE g) v, rateTaken g]) ∨
    (∃ v, rateTake g s = [.reg (Reg.LN_RATE g) v, .fld (Reg.LN_RATE g) 31 31 0, rateTaken g]) := by
  unfold rateTake
  cases (s.lane g).rateNew with
  | none => exact .inl rfl
  | some w =>
    simp only [seqs_cons, seqs_nil, rateSet, plainWrite_unguarded (regDef_LN_RATE hg) rfl]
    split
    · exact .inr (.inl ⟨_, rfl⟩)
    · exact .inr (.inr ⟨_, rfl⟩)

/-- Taking a deferred rate changes no register but LN_RATE, no memory and no number of lanes. -/
theorem rateTake_frame {g : Nat} (hg : g < 16) (s : State) :
    sameRegsBut (fun a => a = Reg.LN_RATE g) s (applyAll s (rateTake g s)) ∧ sameMem s (applyAll s (rateTake g s)) ∧
      (applyAll s (rateTake g s)).dyn.ch.lanes.length = s.dyn.ch.lanes.length := by
  rcases rateTake_cases hg s with h | ⟨v, h⟩ | ⟨v, h⟩ <;> rw [h] <;>
    exact ⟨sameRegsBut_applyAll (by simp [Eff.dest, updLane, updCh]) s,
      sameMem_applyAll (by simp [Eff.stores, updLane, updCh]) s, by simp⟩

/-- What a rate register takes does not hang on what no register shows. -/
theorem rateSet_upd (a : Nat) (w : Word) (s : State) (f : Dyn → Dyn) : rateSet a w (applyEff s (.upd f)) = rateSet a w s := by
  cases s
  rfl

/-- A change of a lane's state that keeps a deferred rate leaves what taking it does. -/
theorem rateTake_updLane {s : State} {g : Nat} (hg : g < s.dyn.ch.lanes.length) {f : LaneD → LaneD}
    (hf : ∀ l, (f l).rateNew = l.rateNew) : rateTake g (applyEff s (updLane g f)) = rateTake g s := by
  unfold rateTake
  rw [lane_updLane_self hg, hf]
  cases (s.lane g).rateNew with
  | none => rfl
  | some w => simp only [seqs_cons, seqs_nil, updLane, updCh, rateSet_upd]

/-- What selecting heads can do: nothing, or send a frame where the link is on, and remember the group (R85). -/
theorem selHeads_cases (act q : Nat) (s : State) :
    selHeads act q s = [] ∨
    (∃ o, selHeads act q s = [.emit o, updWa act (fun w => { w with headSel := some q })]) := by
  unfold selHeads
  split
  · exact .inl rfl
  · next h =>
    have hon : feOn s act = true := by
      simp only [Bool.or_eq_true, not_or] at h
      simpa using h.1
    simp only [seqs_cons, seqs_nil, feWrite, if_pos hon]
    exact .inr ⟨_, rfl⟩

/-- Selecting heads changes no register, no memory and no lane. -/
theorem selHeads_frame (act q : Nat) (s : State) :
    (applyAll s (selHeads act q s)).regs = s.regs ∧ sameMem s (applyAll s (selHeads act q s)) ∧
      (applyAll s (selHeads act q s)).dyn.ch = s.dyn.ch := by
  rcases selHeads_cases act q s with h | ⟨o, h⟩ <;> rw [h] <;>
    exact ⟨by simp [updWa], sameMem_applyAll (by simp [Eff.stores, updWa]) s, by simp [updWa]⟩

/-- What is left to reread is dropped when a transfer starts (R16). -/
abbrev resumeDropped (g : Nat) : Eff := updLane g (fun l => { l with resume := none })

/-- The state in which a transfer's values are loaded: the rest of an earlier one dropped, the rate in force (R87), the heads
selected (R85). -/
def beginState (g : Nat) (x : LaneXfer) (s : State) : State :=
  applyAll s (seqs [fun _ => [resumeDropped g], rateTake g, selHeads (g / 4) x.group.val] s)

/-- A started transfer begins in that state. -/
theorem applyAll_startXfer (g : Nat) (x : LaneXfer) (s : State) :
    applyAll s (seqs [fun _ => [resumeDropped g], startXfer g x] s) =
      applyAll (beginState g x s) (beginXfer g x (beginState g x s)) := by
  simp only [beginState, startXfer, applyAll_seqs_cons, seqs_nil, applyAll_nil]

/-- Up to the loading, a transfer changes no register but LN_RATE, no memory and no number of lanes. -/
theorem beginState_frame {g : Nat} (hg : g < 16) (x : LaneXfer) (s : State) :
    sameRegsBut (fun a => a = Reg.LN_RATE g) s (beginState g x s) ∧ sameMem s (beginState g x s) ∧
      (beginState g x s).dyn.ch.lanes.length = s.dyn.ch.lanes.length := by
  simp only [beginState, applyAll_seqs_cons, seqs_nil, applyAll_nil, applyAll_cons]
  obtain ⟨hregs, hmem, hlen⟩ := rateTake_frame hg (applyEff s (resumeDropped g))
  obtain ⟨kregs, kmem, kch⟩ := selHeads_frame (g / 4) x.group.val
    (applyAll (applyEff s (resumeDropped g)) (rateTake g (applyEff s (resumeDropped g))))
  refine ⟨fun a ha => ?_, sameMem_trans hmem kmem, ?_⟩
  · exact (congrArg (regsGet · a) kregs).trans (hregs a ha)
  · rw [kch, hlen, lanes_length_updLane]

/-- The lock the transfer finds is that of the rate a write held back. -/
theorem beginState_lock {g : Nat} {s : State} (hlane : g < s.dyn.ch.lanes.length) (x : LaneXfer) :
    (beginState g x s).bit (Reg.LN_RATE g) 31 = (applyAll s (rateTake g s)).bit (Reg.LN_RATE g) 31 := by
  simp only [beginState, applyAll_seqs_cons, seqs_nil, applyAll_nil, applyAll_cons]
  have htake : rateTake g (applyEff s (resumeDropped g)) = rateTake g s := rateTake_updLane hlane (fun _ => rfl)
  rw [htake]
  exact State.bit_congr ((selHeads_frame _ _ _).1.trans (regs_applyAll_congr _ (by simp [updLane, updCh]))) _ _

/-! What a transfer that begins loads (R89). -/

/-- The readers' working values and the timing, loaded from the seeds. -/
def readerLoads (g : Nat) : Act := fun s =>
  let s0 := s.reg (Reg.LN_SEED0 g)
  let s0 := (s0.setFld 31 24 (min 240 (s0.fld 31 24))).setFld 23 16 (min 240 (s0.fld 23 16))
  [.reg (Reg.LN_CUR0 g) s0, .reg (Reg.LN_CUR1 g) (s.reg (Reg.LN_SEED1 g)), .reg (Reg.LN_TIMING g) 0]

/-- The equaliser's working taps, loaded from their seeds. -/
def tapLoads (g : Nat) : Act := fun s =>
  (List.range 24).map (fun i => .fld (Reg.LN_EQ_TAP g i) 27 16 (s.fld (Reg.LN_EQ_TAP g i) 11 0))

/-- The transfer is the lane's, from its first sector on, with the skew loaded. -/
def xferLoad (g : Nat) (x : LaneXfer) (s : State) : Eff :=
  updLane g (fun l => { l with xfer := some x, next := x.first, skew := s.fld (Reg.LN_SKEW g) 10 0 })

theorem tapLoads_dest {g : Nat} {s : State} {e : Eff} (h : e ∈ tapLoads g s) : ∃ i, e.dest = some (Reg.LN_EQ_TAP g i) := by
  obtain ⟨i, -, rfl⟩ := List.mem_map.1 h
  exact ⟨i, rfl⟩

/-- The loads store to registers alone. -/
theorem loads_dest {g : Nat} {s : State} : ∀ e ∈ readerLoads g s ++ tapLoads g s, e.dest.isSome = true := by
  simp [readerLoads, tapLoads, Eff.dest]

section BeginXfer
variable {g : Nat} {x : LaneXfer} {s : State} (hlock : s.bit (Reg.LN_RATE g) 31 = true)
include hlock

/-- On a locked lane a transfer loads its values and is then the lane's. -/
theorem applyAll_beginXfer_locked : applyAll s (beginXfer g x s) =
    applyEff (applyAll s (readerLoads g s ++ tapLoads g s)) (xferLoad g x s) := by
  have hloads : beginXfer g x s = (readerLoads g s ++ tapLoads g s) ++ [xferLoad g x s] := by
    simp only [beginXfer, hlock]
    rfl
  rw [hloads, applyAll_append _ [xferLoad g x s], applyAll_cons, applyAll_nil]

theorem sameMem_beginXfer : sameMem s (applyAll s (beginXfer g x s)) := by
  rw [applyAll_beginXfer_locked hlock]
  exact sameMem_trans (applyAll_of_dest_isSome loads_dest s).2 (sameMem_applyEff rfl _)

/-- The second seed register's values are loaded. -/
theorem cur1_beginXfer : (applyAll s (beginXfer g x s)).reg (Reg.LN_CUR1 g) &&& liveMask (Reg.LN_CUR1 g) =
    s.reg (Reg.LN_SEED1 g) &&& liveMask (Reg.LN_CUR1 g) := by
  have htaps : ∀ e ∈ tapLoads g s, e.dest ≠ some (Reg.LN_CUR1 g) := by
    intro e he hcur
    obtain ⟨i, hi⟩ := tapLoads_dest he
    rw [hi, Option.some.injEq] at hcur
    unfold Reg.LN_EQ_TAP Reg.LN_CUR1 at hcur
    omega
  have htiming : Reg.LN_CUR1 g ≠ Reg.LN_TIMING g := by unfold Reg.LN_CUR1 Reg.LN_TIMING; omega
  rw [applyAll_beginXfer_locked hlock, xferLoad, updLane, updCh, reg_upd, applyAll_append, reg_applyAll_of_dest_ne htaps]
  simp only [readerLoads, applyAll_cons, applyAll_nil]
  rw [reg_applyEff_reg _ _ _ _ htiming, applyEff_reg, State.reg_hwReg, if_pos rfl, merge_inside]

/-- Every tap's working value is its seed. -/
theorem taps_beginXfer (hg : g < 16) {i : Nat} (hi : i < 24) :
    (applyAll s (beginXfer g x s)).fld (Reg.LN_EQ_TAP g i) 27 16 = s.fld (Reg.LN_EQ_TAP g i) 11 0 := by
  have hwidth : s.fld (Reg.LN_EQ_TAP g i) 11 0 < 2 ^ (27 + 1 - 16) := Nat.mod_lt _ (by decide)
  rw [applyAll_beginXfer_locked hlock, xferLoad, updLane, updCh, fld_upd, applyAll_append, tapLoads,
    fld_applyAll_map_fld (LN_EQ_TAP_injective g) _ List.nodup_range (List.mem_range.2 hi) (by decide) (liveMask_LN_EQ_TAP hg hi),
    Nat.mod_eq_of_lt hwidth]

theorem lane_beginXfer (hlane : g < s.dyn.ch.lanes.length) : (applyAll s (beginXfer g x s)).lane g =
    { s.lane g with xfer := some x, next := x.first, skew := s.fld (Reg.LN_SKEW g) 10 0 } := by
  obtain ⟨hdyn, -⟩ := applyAll_of_dest_isSome (loads_dest (g := g) (s := s)) s
  have hlane' : g < (applyAll s (readerLoads g s ++ tapLoads g s)).dyn.ch.lanes.length := by rw [hdyn]; exact hlane
  rw [applyAll_beginXfer_locked hlock, xferLoad, lane_updLane_self hlane', State.lane_congr hdyn]

end BeginXfer

/-- A transfer that may start and finds its lane locked runs with every adaptive value its seed (R87, R89). -/
theorem laneTransferStart_loads {g : Nat} (hg : g < 16) {x : LaneXfer} {s : State} (hlane : g < s.dyn.ch.lanes.length)
    (hlock : (applyAll s (rateTake g s)).bit (Reg.LN_RATE g) 31 = true) {t : State}
    (ht : t = applyAll s (seqs [fun _ => [resumeDropped g], startXfer g x] s)) :
    t.reg (Reg.LN_CUR1 g) &&& liveMask (Reg.LN_CUR1 g) = s.reg (Reg.LN_SEED1 g) &&& liveMask (Reg.LN_CUR1 g) ∧
    (∀ i : Fin 24, t.fld (Reg.LN_EQ_TAP g i.val) 27 16 = s.fld (Reg.LN_EQ_TAP g i.val) 11 0) ∧
    (t.lane g).skew = s.fld (Reg.LN_SKEW g) 10 0 ∧ (t.lane g).xfer = some x ∧ sameMem s t := by
  obtain ⟨hregs, hmem, hlen⟩ := beginState_frame hg x s
  have hbegin := (beginState_lock hlane x).trans hlock
  have hseed : (beginState g x s).reg (Reg.LN_SEED1 g) = s.reg (Reg.LN_SEED1 g) :=
    hregs _ (by unfold Reg.LN_SEED1 Reg.LN_RATE; omega)
  have hskew : (beginState g x s).reg (Reg.LN_SKEW g) = s.reg (Reg.LN_SKEW g) :=
    hregs _ (by unfold Reg.LN_SKEW Reg.LN_RATE; omega)
  have htap (i : Nat) : (beginState g x s).reg (Reg.LN_EQ_TAP g i) = s.reg (Reg.LN_EQ_TAP g i) :=
    hregs _ (by unfold Reg.LN_EQ_TAP Reg.LN_RATE; omega)
  have hown := lane_beginXfer (x := x) hbegin (by rw [hlen]; exact hlane)
  rw [ht, applyAll_startXfer]
  refine ⟨?_, fun i => ?_, ?_, ?_, sameMem_trans hmem (sameMem_beginXfer hbegin)⟩
  · rw [cur1_beginXfer hbegin, hseed]
  · rw [taps_beginXfer hbegin hg i.isLt, State.fld, htap, State.fld]
  · rw [hown, State.fld, hskew, State.fld]
  · rw [hown]

end Sys2Proof.Machine

/-! The commands of a lane's power and of its cut transfers (R16, R88). -/

namespace Sys2Proof.Machine

/-- A write of LN_CTL that sets DATA_PWR where it is 0 stores the register and raises the lane's start (R88). -/
theorem hLnCtl_powers {g : Nat} {data : Word} {s : State} (hset : data.bit 1 = true) (hoff : s.bit (Reg.LN_CTL g) 1 = false) :
    ∃ f, hLnCtl g data s = plainWrite (Reg.LN_CTL g) data s ++ [updLane g f, bwRaise 2 g] := by
  simp only [hLnCtl, hset, hoff, seqs_cons, seqs_nil]
  exact ⟨_, rfl⟩

/-- Setting DATA_PWR where it is 0 sets the bit and raises the lane's start, and changes nothing else of the registers, the power
or the memories (R88). -/
theorem exec_laneDataPwrSet_off {init : Initiator} {lane : Fin 16} {s : State}
    (hacc : accReady s init (Reg.LN_CTL lane.val) = true) (hoff : s.bit (Reg.LN_CTL lane.val) 1 = false) :
    ∃ t, exec (.laneDataPwrSet init lane) s = .next t ∧ t.bit (Reg.LN_CTL lane.val) 1 = true ∧
      t.dyn.pwr = (applyEff s (bwRaise 2 lane.val)).dyn.pwr ∧ sameRegsBut (fun a => a = Reg.LN_CTL lane.val) s t ∧ sameMem s t := by
  have hdef := regDef_LN_CTL lane.isLt
  have hset : (s.reg (Reg.LN_CTL lane.val) ||| 2).bit 1 = true := by simp [Word.bit]
  obtain ⟨f, hf⟩ := hLnCtl_powers hset hoff
  have hbit := bit_plainWrite_rw hdef rfl rfl (i := 1) (by decide) (by rw [liveMask_of_regDef hdef]; decide)
    (s.reg (Reg.LN_CTL lane.val) ||| 2) s
  rw [plainWrite_unguarded hdef rfl] at hf hbit
  refine ⟨_, run_of_effects ((wrAccess_ready s init _ _ hacc).trans hf), ?_, ?_, sameRegsBut_applyAll ?_ s, sameMem_applyAll ?_ s⟩
  · exact hbit.trans hset
  · rfl
  · simp [Eff.dest, updLane, updCh, bwRaise, updPwr]
  · simp [Eff.stores, updLane, updCh, bwRaise, updPwr]

/-- Until DRAM accepts writes nothing leaves a lane's output buffer (R16). -/
theorem run_flushLane_stalled {s : State} (h : reqReady s = false) (g : Nat) (act : Act) :
    run (seqs [flushLane g, act]) s = .next (applyAll s (act s)) := by
  have hstall : flushLane g s = [] := by simp [flushLane, h]
  simp [run_next, seqs_cons, hstall]

theorem exec_laneTransferStart_ready {lane : Fin 16} {x : LaneXfer} {s : State} (h : canStart s lane.val x = true) :
    exec (.laneTransferStart lane x) s =
      .next (applyAll s (seqs [fun _ => [resumeDropped lane.val], startXfer lane.val x] s)) := by
  change execLaneTransferStart lane x s = _
  simp only [execLaneTransferStart, run_next, h, if_true]

theorem exec_lanePowerUpReady_granted {lane : Fin 16} {s : State} (hup : laneUp s lane.val = true)
    (hpwr : s.bit (Reg.LN_CTL lane.val) 1 = true) (hgrant : hasGrant s 2 lane.val = true) : exec (.lanePowerUpReady lane) s =
      .next (applyAll s [useGrant 2 lane.val, updLane lane.val (fun l => { l with ready := true })]) := by
  change execLanePowerUpReady lane s = _
  simp only [execLanePowerUpReady, run_next, hup, hpwr, hgrant, Bool.and_self, if_true]

/-- Two sectors that DRAM does not take cut the transfer (R16). -/
theorem exec_laneDramStallCut_stalled {lane : Fin 16} {s : State} (hstall : reqReady s = false)
    (hup : laneUp s lane.val = true) (htwo : 2 ≤ (s.lane lane.val).outq.length) :
    exec (.laneDramStallCut lane) s = .next (applyAll s [cutXfer lane.val]) := by
  refine (run_flushLane_stalled hstall _ _).trans ?_
  simp [hup, htwo]

/-- What a cut left is read as a transfer of its own (R16). -/
theorem exec_sectorReread_stalled {lane : Fin 16} {x : LaneXfer} {s : State} (hstall : reqReady s = false)
    (hrest : (s.lane lane.val).resume = some x) (h : canStart s lane.val x = true) : exec (.sectorReread lane) s =
      .next (applyAll s (seqs [fun _ => [resumeDropped lane.val], startXfer lane.val x] s)) := by
  refine (run_flushLane_stalled hstall _ _).trans ?_
  simp only [hrest, h, if_true]

/-- Settles O18: a command whose conditions are met runs its action; what a transfer loads comes of the state in which it begins. -/
theorem laneTransfers : Obligations.LaneTransfers := by
  unfold Obligations.LaneTransfers
  constructor
  · intro init lane x s
    exact ⟨exec_laneDataPwrSet_off, exec_lanePowerUpReady_granted, exec_laneTransferStart_ready,
      exec_laneDramStallCut_stalled, exec_sectorReread_stalled⟩
  · intro lane x s hstart hlock hlanes
    exact ⟨_, exec_laneTransferStart_ready hstart, laneTransferStart_loads lane.isLt (by omega) hlock rfl⟩

end Sys2Proof.Machine

/-! Headland: where the words of an engine's memories stand, and what an effect on one register leaves. -/

namespace Sys2Proof.Machine

/-- An engine's registers stand in its own block (R23). -/
theorem blkOf_actAddr {a o : Nat} (ha : a < 4) (ho : o < 0x10000) : blkOf (actAddr a o) = (.hl a, o) := by
  obtain ⟨y, hy⟩ : ∃ y, y = a * 0x40000 + o := ⟨_, rfl⟩
  have hx : actAddr a o = 0x100000 + y := by unfold actAddr; omega
  have hact : y / 0x40000 = a := by omega
  have hoff : y % 0x40000 = o := by omega
  have hbar : y < 0x100000 := by omega
  rw [hx]
  unfold blkOf
  simp (disch := omega) only [if_neg, if_pos, Nat.add_sub_cancel_left, hact, hoff]

theorem regDef_actAddr {a o : Nat} (ha : a < 4) (ho : o < 0x10000) :
    regDef (actAddr a o) = hlRegs.find? (fun d => d.hit o) := by
  rw [regDef, blkOf_actAddr ha ho]
  rfl

/-- A memory of whole words in an engine's block: its place and its number of words (Table 6.1). -/
def ramDef (name : String) (off words : Nat) : RegDef := ⟨name, off, [(words, 0x4)], 0x0, .one, [fd .rw 31 0]⟩

theorem hit_ramDef {name : String} {off words o : Nat} (hlo : off ≤ o) (hhi : o < off + 4 * words)
    (halign : (o - off) % 4 = 0) : (ramDef name off words).hit o = true := by
  have hword : (o - off) / 4 < words := by omega
  simp [RegDef.hit, ramDef, dimsHit, hlo, hword, halign]

theorem ramDef_mem_hlRegs : ramDef "HL_STATE_RAM" 0x2000 2048 ∈ hlRegs ∧ ramDef "HL_COEF_RAM" 0x4000 2048 ∈ hlRegs ∧
    ramDef "HL_RRO_RAM" 0x6000 6144 ∈ hlRegs := by decide

/-- The three memories leave no gap between their first and last words. -/
theorem exists_hit_of_isEngMem {o : Nat} (hmem : isEngMem o = true) (halign : o % 4 = 0) : ∃ d ∈ hlRegs, d.hit o = true := by
  obtain ⟨hstate, hcoef, hrunout⟩ := ramDef_mem_hlRegs
  simp only [isEngMem, Bool.and_eq_true, decide_eq_true_eq] at hmem
  by_cases hs : o < 0x4000
  · exact ⟨_, hstate, hit_ramDef (by omega) (by omega) (by omega)⟩
  by_cases hc : o < 0x6000
  · exact ⟨_, hcoef, hit_ramDef (by omega) (by omega) (by omega)⟩
  · exact ⟨_, hrunout, hit_ramDef (by omega) (by omega) (by omega)⟩

/-- The offset at which a register and its copies end. -/
def RegDef.reach (d : RegDef) : Nat :=
  match d.dims with
  | [] => d.off + 1
  | (c, s) :: _ => d.off + c * s

theorem RegDef.lt_reach_of_hit {d : RegDef} {o : Nat} (hstride : ∀ x ∈ d.dims, 0 < x.2) (h : d.hit o = true) : o < d.reach := by
  obtain ⟨name, off, dims, rst, pair, fields⟩ := d
  cases dims with
  | nil =>
    simp only [RegDef.hit, dimsHit, Bool.and_eq_true, decide_eq_true_eq, beq_iff_eq] at h
    change o < off + 1
    omega
  | cons x dims =>
    simp only [RegDef.hit, dimsHit, Bool.and_eq_true, decide_eq_true_eq] at h
    obtain ⟨hlo, hcopy, -⟩ := h
    have hlt := (Nat.div_lt_iff_lt_mul (hstride x (List.mem_cons_self ..))).1 hcopy
    change o < off + x.1 * x.2
    omega

/-- Of the registers of an engine's block only whole words reach into its memories. -/
theorem hlRegs_apart_engMem : ∀ d ∈ hlRegs, (∀ x ∈ d.dims, 0 < x.2) ∧
    (d.reach ≤ 0x2000 ∨ 0xC000 ≤ d.off ∨ d.maskOf (fun y => y.ty != .gd) = BitVec.allOnes 32) := by decide

/-- Every bit of a word of an engine's memories can be written. -/
theorem liveMask_engMem {a o : Nat} (ha : a < 4) (hmem : isEngMem o = true) (halign : o % 4 = 0) :
    liveMask (actAddr a o) = BitVec.allOnes 32 := by
  obtain ⟨d, hd, hhit⟩ := exists_hit_of_isEngMem hmem halign
  simp only [isEngMem, Bool.and_eq_true, decide_eq_true_eq] at hmem
  rw [liveMask, regDef_actAddr ha (by omega)]
  cases hfind : hlRegs.find? (fun d => d.hit o) with
  | none => exact absurd hhit (List.find?_eq_none.1 hfind d hd)
  | some e =>
    have hehit : e.hit o = true := List.find?_some (p := fun d : RegDef => d.hit o) hfind
    obtain ⟨hstride, hbelow | habove | hwhole⟩ := hlRegs_apart_engMem e (List.mem_of_find?_eq_some hfind)
    · have hend := RegDef.lt_reach_of_hit hstride hehit
      omega
    · simp only [RegDef.hit, Bool.and_eq_true, decide_eq_true_eq] at hehit
      omega
    · exact hwhole

/-- A register all of whose bits can be written takes the word stored. -/
theorem reg_applyEff_reg_whole {a : Nat} (h : liveMask a = BitVec.allOnes 32) (v : Word) (s : State) :
    (applyEff s (.reg a v)).reg a = v := by
  have hall := merge_inside (s.reg a) (BitVec.allOnes 32) v
  rw [BitVec.and_allOnes, BitVec.and_allOnes] at hall
  rw [applyEff_reg, State.reg_hwReg, if_pos rfl, h, hall]

/-- HOLD_OVF is a status bit of HL_FLAGS (Table 6.12). -/
theorem liveMask_HL_FLAGS_holdOvf {a : Nat} (ha : a < 4) : (liveMask (Reg.HL_FLAGS a)).getLsbD 8 = true := by
  have hx : Reg.HL_FLAGS a = actAddr a 4 := by unfold Reg.HL_FLAGS actAddr; omega
  rw [hx, liveMask, regDef_actAddr ha (by omega)]
  rfl

/-- An event sets a status bit that it names (R34). -/
theorem bit_applyEff_sq {a i : Nat} (hi : i < 24) (hlive : (liveMask a).getLsbD i = true) {bits : Word}
    (hbit : bits.getLsbD i = true) (s : State) : (applyEff s (.sq a bits)).bit a i = true := by
  unfold State.bit Word.bit
  rw [applyEff_sq, State.reg_hwReg, if_pos rfl, merge_getLsbD, if_pos hlive, bit_sqEvent _ _ _ hi, hbit, Bool.or_true]

/-- An effect that stores to a register changes no other, no memory and nothing that no register shows. -/
theorem frame_of_dest {e : Eff} {a : Nat} (h : e.dest = some a) (s : State) :
    sameRegsBut (fun b => b = a) s (applyAll s [e]) ∧ sameMem s (applyAll s [e]) ∧ (applyAll s [e]).dyn = s.dyn := by
  obtain ⟨hdyn, hmem⟩ := applyEff_of_dest_isSome (Option.isSome_of_eq_some h) s
  refine ⟨sameRegsBut_applyAll (fun f hf b hb => ?_) s, hmem, hdyn⟩
  rw [List.mem_singleton.1 hf, h] at hb
  exact (Option.some.inj hb).symm

/-- Whether the recorder keeps an actuator's rings comes of WRK_TRIG, the resets and the recorder's own state. -/
theorem armedAct_congr {s t : State} (htrig : t.reg Reg.WRK_TRIG = s.reg Reg.WRK_TRIG) (hrst : t.dyn.rst = s.dyn.rst)
    (hwrk : t.dyn.wrk = s.dyn.wrk) (act : Nat) : armedAct t act = armedAct s act := by
  simp only [armedAct, recording, wrkState, State.up, State.levelUp, State.fld, htrig, hrst, hwrk]

end Sys2Proof.Machine

/-! Writes of the engine memories, buffered or made CFG tokens (R155, R204, R472). -/

namespace Sys2Proof.Machine

/-- A write of a _HI register whose low word is staged uses that word and then empties the stage (R48). -/
theorem hiWrite_staged {init : Initiator} {lo : Nat} {w : Word} {s : State} (h : staged s init lo = some w)
    (act : Option Word → Act) : hiWrite init lo act s = act (some w) s ++ [unstage init] := by
  simp [hiWrite, seqs_cons, h]

/-- No entry of a ramp that has none is dropped (R204). -/
theorem rampDrop_of_nil {act : Nat} {s : State} (h : (s.hl act).ramp = []) (off : Nat) : rampDrop act off s = [] := by
  simp [rampDrop, h]

/-- A CFG token of an engine memory stores its word. -/
theorem cfgApply_engMem {off : Nat} (hmem : isEngMem off = true) (act : Nat) (data : Word) (s : State) :
    cfgApply act off data.toNat s = [.reg (actAddr act off) data] := by
  have htide : isTideMem off = false := by
    simp only [isEngMem, Bool.and_eq_true, decide_eq_true_eq] at hmem
    have hbelow : ¬ 0xD000 ≤ off := by omega
    simp [isTideMem, hbelow]
  simp [cfgApply, htide, hmem, w32]

/-- While the engine replays a write lands at once (R472). -/
theorem hEngMem_direct {act : Nat} {s : State} (h : directWrites s act = true) (off val : Nat) :
    hEngMem act off val s = cfgApply act off val s := by
  simp [hEngMem, h]

section NotDirect
variable {act : Nat} {s : State} (hdir : directWrites s act = false) (hramp : (s.hl act).ramp = [])
include hdir hramp

/-- With COEF_HOLD 0 a write is queued as a CFG token (R155). -/
theorem hEngMem_queued (hhold : s.bit (Reg.HL_CTL act) 16 = false) (hroom : (s.hl act).queue.length < 32) (off val : Nat) :
    hEngMem act off val s = [updHl act (fun h => { h with queue := h.queue ++ [(off, val)] })] := by
  simp [hEngMem, hdir, seqs_cons, rampDrop_of_nil hramp, hhold, Nat.not_le.2 hroom]

/-- With COEF_HOLD 1 a write is buffered while there is room (R155). -/
theorem hEngMem_held (hhold : s.bit (Reg.HL_CTL act) 16 = true) (hroom : (s.hl act).hold.length < 64) {off : Nat}
    (hmem : isEngMem off = true) (val : Nat) :
    hEngMem act off val s = [updHl act (fun h => { h with hold := h.hold ++ [(off, val)] })] := by
  simp [hEngMem, hdir, seqs_cons, rampDrop_of_nil hramp, hhold, hmem, hroom]

/-- Without room it is dropped, which HOLD_OVF shows (R155). -/
theorem hEngMem_overflow (hhold : s.bit (Reg.HL_CTL act) 16 = true) (hfull : 64 ≤ (s.hl act).hold.length) {off : Nat}
    (hmem : isEngMem off = true) (val : Nat) : hEngMem act off val s = [.sq (Reg.HL_FLAGS act) flHoldOvf] := by
  simp [hEngMem, hdir, seqs_cons, rampDrop_of_nil hramp, hhold, hmem, Nat.not_lt.2 hfull]

end NotDirect

/-- A write of an engine memory that no access rule stops acts on the word it falls in. -/
theorem exec_coefMemoryWrite_ready {init : Initiator} {act : Fin 4} {offset : BitVec 16} {s : State} {off : Nat}
    (hoff : off = offset.toNat / 4 * 4) (hmem : isEngMem off = true) (hacc : accReady s init (actAddr act.val off) = true)
    (data : Word) {es : List Eff} (h : hEngMem act.val off data.toNat s = es) :
    exec (.coefMemoryWrite init act offset data) s = .next (applyAll s es) := by
  subst hoff
  refine run_of_effects ((wrAccess_ready s init _ _ hacc).trans ?_)
  rw [if_pos hmem, h]

/-- The front CFG token is taken from the queue, gets its number and is counted (R157, R158). -/
abbrev cfgTaken (act : Nat) (rest : List (Nat × Nat)) : List Eff :=
  [updHl act (fun h => { h with queue := rest }), nextTok act, .cnt (Reg.HL_TOK_CNT act) 31 0 1]

/-- While the recorder does not keep the actuator's rings, the front CFG token of an engine memory stores its word and no more. -/
theorem cfgRun_unrecorded {act off : Nat} {data : Word} {rest : List (Nat × Nat)} {s : State} (hact : act < 4)
    (hmem : isEngMem off = true) (hq : (s.hl act).queue = (off, data.toNat) :: rest) (harm : armedAct s act = false)
    (ok : Bool) : cfgRun act ok s = cfgTaken act rest ++ [.reg (actAddr act off) data] := by
  have htrig : actAddr act off ≠ Reg.WRK_TRIG := by
    simp only [isEngMem, Bool.and_eq_true, decide_eq_true_eq] at hmem
    unfold actAddr Reg.WRK_TRIG
    omega
  have hcnt : Reg.HL_TOK_CNT act ≠ Reg.WRK_TRIG := by unfold Reg.HL_TOK_CNT Reg.WRK_TRIG; omega
  have harm' : armedAct (applyAll s (cfgTaken act rest ++ [.reg (actAddr act off) data])) act = false := by
    rw [← harm]
    refine armedAct_congr (reg_applyAll_of_dest_ne ?_ s) rfl rfl act
    simp [Eff.dest, updHl, nextTok, htrig, hcnt]
  have hrec : recCfg act off data.toNat ok (applyAll s (cfgTaken act rest ++ [.reg (actAddr act off) data])) = [] := by
    simp only [recCfg, harm', Bool.not_false, if_true]
  rw [applyAll_append] at hrec
  simp only [cfgRun, hq, seqs_cons, seqs_nil, cfgApply_engMem hmem, hrec, List.append_nil]

theorem exec_cfgTokenRun_unrecorded {act : Fin 4} {rec : Bool} {off : Nat} {data : Word} {rest : List (Nat × Nat)} {s : State}
    (hup : hlUp s act.val = true) (hmem : isEngMem off = true) (hq : (s.hl act.val).queue = (off, data.toNat) :: rest)
    (harm : armedAct s act.val = false) :
    exec (.cfgTokenRun act rec) s = .next (applyAll s (cfgTaken act.val rest ++ [.reg (actAddr act.val off) data])) := by
  change execCfgTokenRun act rec s = _
  simp only [execCfgTokenRun, run_next, hup, if_true, cfgRun_unrecorded act.isLt hmem hq harm rec]

/-- The token's word is stored; of the other registers only the token count changes. -/
theorem applyAll_cfgToken {act : Fin 4} {off : Nat} (hmem : isEngMem off = true) (halign : off % 4 = 0) (data : Word)
    (rest : List (Nat × Nat)) (s : State) :
    (applyAll s (cfgTaken act.val rest ++ [.reg (actAddr act.val off) data])).reg (actAddr act.val off) = data ∧
      sameRegsBut (fun a => a = actAddr act.val off ∨ a = Reg.HL_TOK_CNT act.val) s
        (applyAll s (cfgTaken act.val rest ++ [.reg (actAddr act.val off) data])) ∧
      sameMem s (applyAll s (cfgTaken act.val rest ++ [.reg (actAddr act.val off) data])) := by
  refine ⟨?_, sameRegsBut_applyAll (by simp [Eff.dest, updHl, nextTok]) s,
    sameMem_applyAll (by simp [Eff.stores, updHl, nextTok]) s⟩
  rw [applyAll_append]
  exact reg_applyEff_reg_whole (liveMask_engMem act.isLt hmem halign) data _

end Sys2Proof.Machine

/-! The release of COEF_HOLD, the program memory and the tide table (R75, R153, R155). -/

namespace Sys2Proof.Machine

/-- The word that releases COEF_HOLD has it 0, orders neither LOAD nor UNLOAD, and keeps EN. -/
theorem holdReleaseWord_bits (s : State) (act : Nat) :
    (hlCtlRw s act &&& 0xFFFEFFFF).bit 16 = false ∧ (hlCtlRw s act &&& 0xFFFEFFFF).bit 9 = false ∧
    (hlCtlRw s act &&& 0xFFFEFFFF).bit 8 = false ∧ (hlCtlRw s act &&& 0xFFFEFFFF).bit 0 = s.bit (Reg.HL_CTL act) 0 := by
  simp [hlCtlRw, Word.bit, State.bit]

/-- The write that returns COEF_HOLD to 0 selects the heads of GROUP, as every write of HL_CTL does, and applies the buffer. -/
theorem hHlCtl_release {act : Nat} {data : Word} {s : State} (hhold : s.bit (Reg.HL_CTL act) 16 = true)
    (hrelease : data.bit 16 = false) (hload : data.bit 9 = false) (hunload : data.bit 8 = false)
    (hen : data.bit 0 = s.bit (Reg.HL_CTL act) 0) : hHlCtl act data s = seqs [plainWrite (Reg.HL_CTL act) data,
      fun s => selHeads act (groupOf s act) s, holdRelease act] s := by
  simp [hHlCtl, seqs_cons, hhold, hrelease, hload, hunload, hen]

theorem exec_coefHoldRelease_held {init : Initiator} {act : Fin 4} {s : State}
    (hacc : accReady s init (Reg.HL_CTL act.val) = true) (hhold : s.bit (Reg.HL_CTL act.val) 16 = true) :
    exec (.coefHoldRelease init act) s =
      .next (applyAll s (seqs [plainWrite (Reg.HL_CTL act.val) (hlCtlRw s act.val &&& 0xFFFEFFFF),
        fun s => selHeads act.val (groupOf s act.val) s, holdRelease act.val] s)) := by
  obtain ⟨hrelease, hload, hunload, hen⟩ := holdReleaseWord_bits s act.val
  exact run_of_effects ((wrAccess_ready s init _ _ hacc).trans (hHlCtl_release hhold hrelease hload hunload hen))

section PmData
variable {init : Initiator} {act : Fin 4} {lo : Word} {s : State} (hacc : accReady s init (Reg.HL_PM_DATA_HI act.val) = true)
  (hlo : staged s init (Reg.HL_PM_DATA_LO act.val) = some lo)
include hacc hlo

/-- A write of HL_PM_DATA_HI with its low word staged writes the instruction of both (R48, R153). -/
theorem exec_pmDataWrite_staged (data : Word) : exec (.pmDataWrite init act data) s =
    .next (applyAll s (pmWrite act.val (lo.toNat + 2 ^ 32 * data.toNat) s ++ [unstage init])) :=
  run_of_effects ((wrAccess_ready s init _ _ hacc).trans (hiWrite_staged hlo _))

/-- With EN at 0 the instruction is stored at HL_PM_ADDR, which advances. -/
theorem exec_pmDataWrite_stopped (hen : s.bit (Reg.HL_CTL act.val) 0 = false) (data : Word) :
    exec (.pmDataWrite init act data) s = .next (applyAll s [
      updHl act.val (fun h => { h with
        pm := pmPut h.pm (s.fld (Reg.HL_PM_ADDR act.val) 13 0) (lo.toNat + 2 ^ 32 * data.toNat) }),
      .fld (Reg.HL_PM_ADDR act.val) 13 0 (s.fld (Reg.HL_PM_ADDR act.val) 13 0 + 1), unstage init]) := by
  rw [exec_pmDataWrite_staged hacc hlo]
  simp [pmWrite, hen]

/-- With EN at 1 it is ignored. -/
theorem exec_pmDataWrite_running (hen : s.bit (Reg.HL_CTL act.val) 0 = true) (data : Word) :
    exec (.pmDataWrite init act data) s = .next (applyAll s [unstage init]) := by
  rw [exec_pmDataWrite_staged hacc hlo]
  simp [pmWrite, hen]

end PmData

/-- A committed write of TIDE_HI queues the whole entry as one CFG token (R75). -/
theorem exec_tideHiCommit_queued {init : Initiator} {act group : Fin 4} {seg : Fin 256} {data lo : Word} {s : State}
    (hacc : accReady s init (Reg.TIDE_HI act.val (group.val * 256 + seg.val)) = true)
    (hlo : staged s init (Reg.TIDE_LO act.val (group.val * 256 + seg.val)) = some lo)
    (hdir : directWrites s act.val = false) (hramp : (s.hl act.val).ramp = [])
    (hhold : s.bit (Reg.HL_CTL act.val) 16 = false) (hroom : (s.hl act.val).queue.length < 32) :
    exec (.tideHiCommit init act group seg data) s = .next (applyAll s [
      updHl act.val (fun h => { h with
        queue := h.queue ++ [(0xD000 + (group.val * 256 + seg.val) * 8, lo.toNat + 2 ^ 32 * data.toNat)] }),
      unstage init]) := by
  refine run_of_effects ((wrAccess_ready s init _ _ hacc).trans ((hiWrite_staged hlo _).trans ?_))
  exact congrArg (· ++ [unstage init]) (hEngMem_queued hdir hramp hhold hroom _ _)

theorem exec_tideInhibitExpiry_up {act group : Fin 4} {s : State} (hup : hlUp s act.val = true) :
    exec (.tideInhibitExpiry act group) s = .next (applyAll s [
      updHl act.val (fun h => { h with ebb := modAt h.ebb group.val (fun e => { e with tideInh := false }) })]) := by
  have hdom : s.up (34 + act.val) = true := hup
  change execTideInhibitExpiry act group s = _
  simp only [execTideInhibitExpiry, run_next, hdom, if_true]

/-- Settles O26: a write lands at once, is queued, buffered or dropped by the mode and the room
there is; a token stores its word. -/
theorem engineMemoryWrites : Obligations.EngineMemoryWrites := by
  unfold Obligations.EngineMemoryWrites
  constructor
  · intro init act offset data rec off s hoff hmem hacc hramp
    have halign : off % 4 = 0 := by omega
    have hwrite {es : List Eff} := exec_coefMemoryWrite_ready hoff hmem hacc data (es := es)
    exact ⟨fun hdir hhold hroom => hwrite (hEngMem_queued hdir hramp hhold hroom _ _),
      fun hdir hhold hroom => hwrite (hEngMem_held hdir hramp hhold hroom hmem _),
      fun hdir hhold hfull => ⟨_, hwrite (hEngMem_overflow hdir hramp hhold hfull hmem _),
        bit_applyEff_sq (by decide) (liveMask_HL_FLAGS_holdOvf act.isLt) (by decide) s, frame_of_dest rfl s⟩,
      fun hdir => ⟨_, hwrite ((hEngMem_direct hdir _ _).trans (cfgApply_engMem hmem _ _ _)),
        reg_applyEff_reg_whole (liveMask_engMem act.isLt hmem halign) data s, frame_of_dest rfl s⟩,
      fun rest hup hq harm =>
        ⟨_, exec_cfgTokenRun_unrecorded hup hmem hq harm, applyAll_cfgToken hmem halign data rest s⟩⟩
  · intro init act group seg data lo s
    exact ⟨exec_coefHoldRelease_held,
      fun hacc hlo => ⟨
        fun hen => exec_pmDataWrite_stopped hacc hlo hen data,
        fun hen => exec_pmDataWrite_running hacc hlo hen data⟩,
      exec_tideHiCommit_queued, exec_tideInhibitExpiry_up⟩

end Sys2Proof.Machine

/-! Ebb mode (R76-R82). -/

namespace Sys2Proof.Machine

/-- EBB_DIFF shows the differential offset in 16 bits (Table 3.13). -/
theorem liveMask_EBB_DIFF {a q : Nat} (ha : a < 4) (hq : q < 4) :
    liveMask (Reg.EBB_DIFF a q) &&& fldMask 15 0 = fldMask 15 0 := by
  have hx : Reg.EBB_DIFF a q = actAddr a (0xC030 + q * 4) := by unfold Reg.EBB_DIFF actAddr; omega
  have hall : ∀ q : Fin 4, liveMask (actAddr 0 (0xC030 + q.val * 4)) &&& fldMask 15 0 = fldMask 15 0 := by decide
  have hsame : regDef (actAddr a (0xC030 + q * 4)) = regDef (actAddr 0 (0xC030 + q * 4)) :=
    (regDef_actAddr ha (by omega)).trans (regDef_actAddr (by omega) (by omega)).symm
  rw [hx, liveMask_congr hsame]
  exact hall ⟨q, hq⟩

/-- The differential offset of the group is shown (R76). -/
def ebbShown (s : State) (a q : Nat) : Eff := .fld (Reg.EBB_DIFF a q) 15 0 (spread (ebbNeed s a q) [0, 1, 2, 3] / 8).toNat

theorem fld_ebbShown {a q : Nat} (ha : a < 4) (hq : q < 4) (s : State) : (applyAll s [ebbShown s a q]).fld (Reg.EBB_DIFF a q) 15 0 =
    (spread (ebbNeed s a q) [0, 1, 2, 3] / 8).toNat % 65536 :=
  fld_applyEff_fld s _ 15 0 _ (by decide) (liveMask_EBB_DIFF ha hq)

/-- The group enters ebb mode: counted, logged, and transferring with the first set of its first round (R77, R78, R83). -/
def ebbEnter (s : State) (a q wedge : Nat) (w : WriteRun) (k : Nat) : Act :=
  seqs [fun _ => [updEbb a q (fun e => { e with split := k, dwell := 0, revs := 0 }), .cnt (Reg.EBB_ENTRIES a q) 31 0 1],
    alignLog a q 1 (ebbDepth s a q (ebbReason s a q)) (ebbReason s a q) 0, roundBegin a q wedge,
    ebbTake a q (ebbDepth s a q (ebbReason s a q)) (ebbReason s a q)
      ((ebbSets s a q (ebbDepth s a q (ebbReason s a q)) k).headD []) 1 w]

section WedgeEval
variable {act group : Fin 4} {wedge : BitVec 10} {w : WriteRun} {s : State} (hruns : hlRuns s act.val = true)
  (hfollow : hlState s act.val = 2) (hgroup : groupOf s act.val = group.val)
  (hout : s.fld (Reg.EBB_STAT act.val group.val) 5 4 = 0)
include hruns hfollow hgroup hout

/-- Outside ebb mode with no reason to enter it, an evaluation shows the offset (R76). -/
theorem exec_ebbWedgeEval_stays (hreason : ebbReason s act.val group.val = 0) :
    exec (.ebbWedgeEval act ⟨group, wedge, w⟩) s = .next (applyAll s [ebbShown s act.val group.val]) := by
  change execEbbWedgeEval act ⟨group, wedge, w⟩ s = _
  simp [execEbbWedgeEval, run_next, hruns, hfollow, hgroup, hout, hreason, seqs_cons, ebbShown]

/-- With a reason the group then enters ebb mode (R78). -/
theorem exec_ebbWedgeEval_enters (hreason : ebbReason s act.val group.val ≠ 0) {k : Nat}
    (hk : k = (bestSplit s act.val group.val).getD (leastSplit s act.val group.val)) :
    exec (.ebbWedgeEval act ⟨group, wedge, w⟩) s = .next (applyAll s (seqs [fun _ => [ebbShown s act.val group.val],
      ebbEnter s act.val group.val wedge.toNat w k] s)) := by
  subst hk
  change execEbbWedgeEval act ⟨group, wedge, w⟩ s = _
  simp [execEbbWedgeEval, run_next, hruns, hfollow, hgroup, hout, hreason, ebbShown, ebbEnter]

end WedgeEval

/-- A round that cannot end changes nothing (R79). -/
theorem exec_ebbRoundBoundary_unfinished {act group : Fin 4} {wedge : BitVec 10} {w : WriteRun} {s : State}
    (hdone : roundDone s act.val group.val wedge.toNat (ebbSets s act.val group.val
      (s.fld (Reg.EBB_STAT act.val group.val) 5 4) (ebbOf s act.val group.val).split) w = false) :
    exec (.ebbRoundBoundary act ⟨group, wedge, w⟩) s = .next s := by
  change execEbbRoundBoundary act ⟨group, wedge, w⟩ s = _
  simp [execEbbRoundBoundary, run_next, hdone]

/-- A round that ends is counted; with no reason left and the dwell long enough all four positions transfer again (R79, R80). -/
theorem exec_ebbRoundBoundary_releases {act group : Fin 4} {wedge : BitVec 10} {w : WriteRun} {s : State}
    (hruns : hlRuns s act.val = true) (hin : s.fld (Reg.EBB_STAT act.val group.val) 5 4 ≠ 0)
    (hreason : ebbReason s act.val group.val = 0)
    (hdone : roundDone s act.val group.val wedge.toNat (ebbSets s act.val group.val
      (s.fld (Reg.EBB_STAT act.val group.val) 5 4) (ebbOf s act.val group.val).split) w = true)
    (hdwell : 16 * max 1 (s.fld (Reg.EBB_CFG act.val) 23 16) ≤ (ebbOf s act.val group.val).dwell) {n : Nat}
    (hn : n = if (ebbOf s act.val group.val).revs = 0 then max 1 (s.fld (Reg.EBB_CFG act.val) 31 24)
      else max 1 (s.fld (Reg.EBB_CFG act.val) 31 24) + 1) :
    exec (.ebbRoundBoundary act ⟨group, wedge, w⟩) s = .next (applyAll s (seqs [
      fun _ => [.cnt (Reg.EBB_REVS act.val group.val) 31 0 n,
        updEbb act.val group.val (fun e => { e with revs := e.revs + n })],
      seqs [alignLog act.val group.val 2 4 0 ((ebbOf s act.val group.val).revs + n),
        ebbTake act.val group.val 4 0 [0, 1, 2, 3] 2 w]] s)) := by
  subst hn
  change execEbbRoundBoundary act ⟨group, wedge, w⟩ s = _
  simp [execEbbRoundBoundary, run_next, hruns, hin, hreason, hdone, hdwell]

/-- Settles O29: an evaluation shows the offset and enters for a reason alone; a boundary acts where the round can end. -/
theorem ebbMode : Obligations.EbbMode := by
  unfold Obligations.EbbMode
  intro act group wedge w s hruns
  obtain ⟨hregs, hmem, hdyn⟩ := frame_of_dest (e := ebbShown s act.val group.val) rfl s
  exact ⟨fun hfollow hgroup hout hreason =>
      ⟨_, exec_ebbWedgeEval_stays hruns hfollow hgroup hout hreason,
        fld_ebbShown act.isLt group.isLt s, hregs, hmem, hdyn, rfl⟩,
    fun hfollow hgroup hout hreason _ hk => exec_ebbWedgeEval_enters hruns hfollow hgroup hout hreason hk,
    fun hin hreason hdone hdwell _ hn => exec_ebbRoundBoundary_releases hruns hin hreason hdone hdwell hn,
    exec_ebbRoundBoundary_unfinished⟩

end Sys2Proof.Machine

/-! A lane's rate register (R86, R87). -/

namespace Sys2Proof.Machine

/-- A mask that covers a field has each of its bits. -/
theorem getLsbD_of_covers {m : Word} {hi lo i : Nat} (hc : m &&& fldMask hi lo = fldMask hi lo) (hhi : hi < 32)
    (hlo : lo ≤ i) (hi' : i < hi + 1) : m.getLsbD i = true := by
  have hb : (m &&& fldMask hi lo).getLsbD i = (fldMask hi lo).getLsbD i := by rw [hc]
  have h32 : i < 32 := by omega
  simpa [fldMask_getLsbD, hlo, hi', h32] using hb

/-- An RW field of a register without SQ fields takes its bits of a plain write. -/
theorem fld_plainWrite_rw {a : Nat} {d : RegDef} (hd : regDef a = some d) (hg : d.guarded = false) (hsq : d.tyMask .sq = 0)
    {hi lo : Nat} (hhi : hi < 32) (hrw : d.tyMask .rw &&& fldMask hi lo = fldMask hi lo)
    (hlive : liveMask a &&& fldMask hi lo = fldMask hi lo) (v : Word) (s : State) :
    (applyAll s (plainWrite a v s)).fld a hi lo = v.fld hi lo :=
  fld_congr _ _ _ _ fun _ hlo hi' =>
    bit_plainWrite_rw hd hg hsq (getLsbD_of_covers hrw hhi hlo hi') (getLsbD_of_covers hlive hhi hlo hi') v s

/-- A rate in force: LN_RATE takes it, and none is held back any longer. -/
def rateInForce (g : Nat) (w : Word) : Act := seqs [rateSet (Reg.LN_RATE g) w, fun _ => [rateTaken g]]

theorem applyAll_rateInForce (g : Nat) (w : Word) (s : State) :
    applyAll s (rateInForce g w s) = applyEff (applyAll s (rateSet (Reg.LN_RATE g) w s)) (rateTaken g) := by
  simp only [rateInForce, applyAll_seqs_cons, seqs_nil, applyAll_nil, applyAll_cons]

section LaneRate
variable {g : Nat} (hg : g < 16)
include hg

/-- LN_RATE shows LOCK and RATE_KHZ. -/
theorem liveMask_LN_RATE : liveMask (Reg.LN_RATE g) = 0x807FFFFF :=
  liveMask_of_regDef (regDef_LN_RATE hg)

/-- A new rate stores to LN_RATE alone. -/
theorem rateSet_dest (w : Word) (s : State) : ∀ e ∈ rateSet (Reg.LN_RATE g) w s, e.dest = some (Reg.LN_RATE g) := by
  rw [rateSet, plainWrite_unguarded (regDef_LN_RATE hg) rfl]
  split <;> simp [Eff.dest]

/-- A new rate is RATE_KHZ's value. -/
theorem fld_rateSet (w : Word) (s : State) :
    (applyAll s (rateSet (Reg.LN_RATE g) w s)).fld (Reg.LN_RATE g) 22 0 = w.fld 22 0 := by
  have hwrite := fld_plainWrite_rw (regDef_LN_RATE hg) rfl rfl (by decide : 22 < 32) (lo := 0) (by decide)
    (by rw [liveMask_LN_RATE hg]; decide) w s
  rw [rateSet, applyAll_append]
  split
  · rw [applyAll_nil, hwrite]
  · rw [applyAll_cons, applyAll_nil, fld_applyEff_fld_other _ _ 31 31 0 22 0 (.inr (by decide)), hwrite]

/-- A change of rate clears LOCK. -/
theorem lock_rateSet {w : Word} {s : State} (hne : w.fld 22 0 ≠ s.fld (Reg.LN_RATE g) 22 0) :
    (applyAll s (rateSet (Reg.LN_RATE g) w s)).bit (Reg.LN_RATE g) 31 = false := by
  rw [rateSet, if_neg hne, applyAll_append, applyAll_cons, applyAll_nil, State.bit_eq,
    fld_applyEff_fld _ _ 31 31 0 (by decide) (by rw [liveMask_LN_RATE hg]; decide)]
  rfl

/-- A rate that takes force is RATE_KHZ's value, clears LOCK where it is another, and leaves the rest. -/
theorem rateInForce_effect {w : Word} {s t : State} (ht : t = applyAll s (rateInForce g w s)) :
    t.fld (Reg.LN_RATE g) 22 0 = w.fld 22 0 ∧
    (w.fld 22 0 ≠ s.fld (Reg.LN_RATE g) 22 0 → t.bit (Reg.LN_RATE g) 31 = false) ∧
    sameRegsBut (fun a => a = Reg.LN_RATE g) s t ∧ sameMem s t ∧ t.dyn = (applyEff s (rateTaken g)).dyn := by
  have hdest := rateSet_dest hg w s
  obtain ⟨hdyn, hmem⟩ := applyAll_of_dest_isSome (fun e he => Option.isSome_of_eq_some (hdest e he)) s
  have hregs : sameRegsBut (fun a => a = Reg.LN_RATE g) s (applyAll s (rateSet (Reg.LN_RATE g) w s)) :=
    sameRegsBut_applyAll (fun e he a ha => Option.some.inj (ha.symm.trans (hdest e he))) s
  rw [applyAll_rateInForce] at ht
  subst ht
  refine ⟨?_, fun hne => ?_, fun a ha => (reg_upd _ _ _).trans (hregs a ha),
    sameMem_trans hmem (sameMem_applyEff rfl _), ?_⟩
  · exact (fld_upd _ _ _ _ _).trans (fld_rateSet hg w s)
  · exact (State.bit_congr (applyEff_upd_regs _ _) _ _).trans (lock_rateSet hg hne)
  · simp only [rateTaken, updLane, updCh, applyEff_upd_dyn, hdyn]

end LaneRate

/-- A write to an idle lane's LN_RATE takes force at once (R87). -/
theorem exec_lnRateWrite_idle {init : Initiator} {lane : Fin 16} {s : State}
    (hacc : accReady s init (Reg.LN_RATE lane.val) = true)
    (hidle : (s.lane lane.val).xfer = none) (data : Word) :
    exec (.lnRateWrite init lane data) s = .next (applyAll s (rateInForce lane.val data s)) := by
  refine run_of_effects ((wrAccess_ready s init _ _ hacc).trans ?_)
  simp [hLnRate, hidle, rateInForce]

/-- While the lane transfers the write is held back (R87). -/
theorem exec_lnRateWrite_transferring {init : Initiator} {lane : Fin 16} {s : State} {x : LaneXfer}
    (hacc : accReady s init (Reg.LN_RATE lane.val) = true) (hxfer : (s.lane lane.val).xfer = some x) (data : Word) :
    exec (.lnRateWrite init lane data) s =
      .next (applyAll s [updLane lane.val (fun l => { l with rateNew := some data })]) := by
  refine run_of_effects ((wrAccess_ready s init _ _ hacc).trans ?_)
  simp [hLnRate, hxfer]

/-- A rate held back takes force once the transfer has ended (R87). -/
theorem exec_lnRateApply_idle {lane : Fin 16} {s : State} {w : Word} (hheld : (s.lane lane.val).rateNew = some w)
    (hup : laneUp s lane.val = true) (hidle : (s.lane lane.val).xfer = none) :
    exec (.lnRateApply lane) s = .next (applyAll s (rateInForce lane.val w s)) := by
  change execLnRateApply lane s = _
  simp [execLnRateApply, run_next, hup, hidle, rateTake, hheld, rateInForce]

/-- A lane's synthesiser locks at a legal rate while it runs (R86). -/
theorem exec_synthLock_legal {lane : Fin 16} {s : State} (hsynth : s.up (64 + lane.val) = true)
    (hup : laneUp s lane.val = true) (hrate : rateOk (s.fld (Reg.LN_RATE lane.val) 22 0) = true) :
    exec (.synthLock false lane) s = .next (applyAll s [.fld (Reg.LN_RATE lane.val) 31 31 1]) := by
  have hdom : s.up (38 + lane.val) = true := hup
  change execSynthLock false lane s = _
  simp [execSynthLock, run_next, hsynth, hdom, hrate]

theorem exec_synthLock_illegal {lane : Fin 16} {s : State} (hrate : rateOk (s.fld (Reg.LN_RATE lane.val) 22 0) = false) :
    exec (.synthLock false lane) s = .next s := by
  change execSynthLock false lane s = _
  simp [execSynthLock, run_next, hrate]

/-- A lock sets LOCK and keeps the rate. -/
theorem synthLock_effect {g : Nat} (hg : g < 16) (s : State) :
    (applyAll s [.fld (Reg.LN_RATE g) 31 31 1]).bit (Reg.LN_RATE g) 31 = true ∧
      (applyAll s [.fld (Reg.LN_RATE g) 31 31 1]).fld (Reg.LN_RATE g) 22 0 = s.fld (Reg.LN_RATE g) 22 0 := by
  constructor
  · rw [applyAll_cons, applyAll_nil, State.bit_eq,
      fld_applyEff_fld _ _ 31 31 1 (by decide) (by rw [liveMask_LN_RATE hg]; decide)]
    rfl
  · exact fld_applyEff_fld_other _ _ 31 31 1 22 0 (.inr (by decide))

theorem rateOk_iff (k : Nat) : rateOk k = true ↔ 2200000 ≤ k ∧ k ≤ 5400000 := by
  simp [rateOk]

/-- Settles O17: a rate takes force at once or once the transfer has ended, and a legal one can be locked to. -/
theorem laneRates : Obligations.LaneRates := by
  unfold Obligations.LaneRates
  intro init lane data s
  refine ⟨fun hacc hidle => ⟨_, exec_lnRateWrite_idle hacc hidle data, rateInForce_effect lane.isLt rfl⟩,
    fun _ hacc hxfer => exec_lnRateWrite_transferring hacc hxfer data,
    fun w hheld hup hidle => ?_, fun hsynth hup hrate => ?_, exec_synthLock_illegal, rateOk_iff⟩
  · obtain ⟨hrate, -, hregs, hmem, -⟩ := rateInForce_effect lane.isLt (w := w) (s := s) rfl
    exact ⟨_, exec_lnRateApply_idle hheld hup hidle, hrate, hregs, hmem⟩
  · obtain ⟨hlock, hkept⟩ := synthLock_effect lane.isLt s
    exact ⟨_, exec_synthLock_legal hsynth hup hrate, hlock, hkept, frame_of_dest rfl s⟩

end Sys2Proof.Machine

/-! Frames of a transfer, from their arrival to their decision (R91, R95, R97). -/

namespace Sys2Proof.Machine

/-- With nothing in its output buffer a lane has nothing to deliver first. -/
theorem run_flushLane_empty {s : State} {g : Nat} (h : (s.lane g).outq = []) (act : Act) :
    run (seqs [flushLane g, act]) s = .next (applyAll s (act s)) := by
  have hnone : flushLane g s = [] := by simp [flushLane, h]
  simp [run_next, seqs_cons, hnone]

/-- A sequence at the end of another continues it. -/
theorem seqs_pair_seqs (a : Act) (as : List Act) : seqs [a, seqs as] = seqs (a :: as) := by
  funext s
  simp [seqs_cons]

/-- What the lane does with the next frame of its transfer: the values reached are shown, the frame is numbered, the transfer
moves on and the frame enters. -/
def takeFrame (g : Nat) (x : LaneXfer) (arr : Arrival) : Act :=
  seqs [adapt g arr, fun s => seqs [fun _ => [.draw, updCh (fun c => { c with frames := c.frames + 1 }), advance g],
    enterFrame g (mkFrame s g x arr)] s]

/-- The iteration is counted, and the oldest frame leaves the decode buffer, decided. -/
def iterationDecides (g : Nat) (o : LFrame) (rest : List LFrame) (reason : Nat) (code : List Byte) : Act :=
  seqs [fun _ => [.cnt (Reg.LN_ITER_CNT g) 31 0 1], fun _ => [updLane g (fun l => { l with frames := rest })],
    decide_ g { o with iter := o.iter + 1 } reason code]

section Frames
variable {lane : Fin 16} {s : State} (hout : (s.lane lane.val).outq = []) (hup : laneUp s lane.val = true)
include hout hup

theorem exec_frameArrival_next {arr : Arrival} {x : LaneXfer} (hxfer : (s.lane lane.val).xfer = some x)
    (hsector : arr.sector = (s.lane lane.val).next) :
    exec (.frameArrival lane arr) s = .next (applyAll s (takeFrame lane.val x arr s)) := by
  refine (run_flushLane_empty hout _).trans ?_
  simp only [hxfer, hup, hsector, decide_true, Bool.and_self, if_true, takeFrame]

section Iteration
variable {o : LFrame} {rest : List LFrame} (hframes : (s.lane lane.val).frames = o :: rest) {hard : List Byte}
include hframes

/-- A codeword that passes every check is a success (R97). -/
theorem exec_globalIteration_succeeds (hcode : isCodeword (fit 4608 hard) = true)
    (hchecks : frameChecks o.head o.band o.sector o.kind o.epoch (fit 4608 hard) = 0) :
    exec (.globalIteration lane hard) s = .next (applyAll s (iterationDecides lane.val o rest 0 (fit 4608 hard) s)) := by
  refine (run_flushLane_empty hout _).trans ?_
  simp [hframes, hup, hcode, hchecks, iterationDecides, seqs_pair_seqs]

/-- What is no codeword stays undecided while iterations remain (R95). -/
theorem exec_globalIteration_undecided (hcode : isCodeword (fit 4608 hard) = false) (hleft : o.iter + 1 < maxIter s lane.val) :
    exec (.globalIteration lane hard) s = .next (applyAll s [.cnt (Reg.LN_ITER_CNT lane.val) 31 0 1,
      updLane lane.val (fun l => { l with frames := { o with iter := o.iter + 1 } :: rest })]) := by
  refine (run_flushLane_empty hout _).trans ?_
  simp [hframes, hup, hcode, Nat.not_le.2 hleft, seqs_cons]

/-- At the limit it fails with reason ITER (R95). -/
theorem exec_globalIteration_limit (hcode : isCodeword (fit 4608 hard) = false) (hlimit : maxIter s lane.val ≤ o.iter + 1) :
    exec (.globalIteration lane hard) s = .next (applyAll s (iterationDecides lane.val o rest 1 (fit 4608 hard) s)) := by
  refine (run_flushLane_empty hout _).trans ?_
  simp [hframes, hup, hcode, hlimit, iterationDecides, seqs_pair_seqs]

end Iteration
end Frames

/-- Settles O19: the next frame is taken, and an iteration decides or keeps the oldest by its hard decisions and the limit. -/
theorem framesDecoded : Obligations.FramesDecoded := by
  unfold Obligations.FramesDecoded
  intro lane arr hard s hout hup
  exact ⟨fun _ hxfer hsector => exec_frameArrival_next hout hup hxfer hsector,
    fun _ _ hframes => ⟨exec_globalIteration_succeeds hout hup hframes, exec_globalIteration_undecided hout hup hframes,
      exec_globalIteration_limit hout hup hframes⟩⟩

end Sys2Proof.Machine

/-! A deep decoder's job (R106-R114). -/

namespace Sys2Proof.Machine

/-- The next job of the ring goes to the lowest-numbered idle decoder (R106). -/
theorem exec_ddJobTake_idle {s : State} {d n h : Nat} {b : List Byte} (hreq : reqReady s = true)
    (hn : n = decEntries (s.reg Reg.DEC_JQ_SIZE)) (hh : h = s.fld Reg.DEC_JQ_HEAD 9 0 % n) (hidle : ddIdle s = some d)
    (hwait : h ≠ s.fld Reg.DEC_JQ_TAIL 9 0 % n) (hdesc : reqRead s (s.pair Reg.DEC_JQ_BASE_LO + 64 * h) 64 = some b)
    (hgood : ddBadDesc b = false) :
    exec .ddJobTake s = .next (applyAll s (seqs [reqReadEv true (s.pair Reg.DEC_JQ_BASE_LO + 64 * h) 64 2, fun _ => [.draw,
      .reg Reg.DEC_JQ_HEAD (w32 ((h + 1) % n)), .reg (Reg.DEC_DD_STAT d) (w32 (2 ^ 31 + h)),
      updDec (fun c => { c with jobs := setAt c.jobs d (some { index := h, desc := b }) })]] s)) := by
  subst hn hh
  change execDdJobTake s = _
  simp [execDdJobTake, run_next, hidle, hwait, hreq, hdesc, hgood]

/-- The bytes of a job's erasure list that come with the record it is about to load: all of them with the last (R109). -/
def ddErasBytes (j : DdJob) : Nat :=
  if ddCaps j = j.heads.length + 1 ∧ leAt j.desc 40 8 ≠ 0 then 8 * leAt j.desc 52 2 else 0

/-- ABANDON_ITER in force (Table 4.6). -/
def abandonIter (j : DdJob) : Nat := if leAt j.desc 51 1 = 0 then 8 else leAt j.desc 51 1

/-- The hypothesis that ran like this was abandoned (R112). -/
def ddDropped (j : DdJob) (r : HypRun) : Bool :=
  !j.final && abandonIter j < leAt j.desc 48 1 &&
    !(1 ≤ r.iters && r.iters ≤ abandonIter j && unsatisfied (fit 4608 r.hard) = 0) && r.unsat1 ≤ 4 * r.unsatAb

/-- A hypothesis that satisfies every check was not abandoned if it is the final pass, its unsatisfied checks had fallen below a
quarter, or it came to its end within ABANDON_ITER iterations (R112). -/
theorem ddDropped_eq_false {j : DdJob} {r : HypRun} (hcode : unsatisfied (fit 4608 r.hard) = 0)
    (hkept : j.final = true ∨ 4 * r.unsatAb < r.unsat1 ∨
      ((1 ≤ r.iters ∧ r.iters ≤ abandonIter j) ∨ leAt j.desc 48 1 ≤ abandonIter j)) : ddDropped j r = false := by
  rcases hkept with hfinal | hfell | ⟨hone, hearly⟩ | hshort
  · simp [ddDropped, hfinal]
  · simp [ddDropped, Nat.not_le.2 hfell]
  · simp [ddDropped, hone, hearly, hcode]
  · simp [ddDropped, Nat.not_lt.2 hshort]

section Running
variable {dd : Fin 4} {j : DdJob} {s : State} (hjob : s.ddJob dd.val = some j) (hup : decUp s dd.val = true)
include hjob hup

/-- A record that memory gives is loaded, with the erasure list after the last one (R109). -/
theorem exec_ddRecordLoad_read {h l : List Byte} (hreq : reqReady s = true) (hopen : j.result = none)
    (hleft : j.heads.length < ddCaps j) (hhead : reqRead s (leAt j.desc (8 * j.heads.length) 8) 128 = some h)
    (hsamples : (reqRead s (leAt j.desc (8 * j.heads.length) 8 + 128) (2 * min 40960 (leAt h 28 2))).isSome = true)
    (heras : reqRead s (leAt j.desc 40 8) (ddErasBytes j) = some l) :
    exec (.ddRecordLoad dd) s = .next (applyAll s (seqs [
      reqReadEv false (leAt j.desc (8 * j.heads.length) 8) (128 + 2 * min 40960 (leAt h 28 2)) 2,
      reqReadEv false (leAt j.desc 40 8) (ddErasBytes j) 2,
      fun s => [updJob dd.val (fun j' => { j' with
        heads := j'.heads ++ [h], eras := j'.eras ++ eraList ((reqRead s (leAt j.desc 40 8) (ddErasBytes j)).getD []) })],
      if ddCaps j = j.heads.length + 1 then ddLoaded dd.val else skip] s)) := by
  have hbytes : (if (decide (ddCaps j = j.heads.length + 1) && decide (leAt j.desc 40 8 ≠ 0)) = true
      then 8 * leAt j.desc 52 2 else 0) = ddErasBytes j := by
    simp only [ddErasBytes, Bool.and_eq_true, decide_eq_true_eq]
  have hsome := Option.isSome_iff_ne_none.1 hsamples
  change execDdRecordLoad dd s = _
  simp only [execDdRecordLoad, run_next, hjob, hup, hreq, hopen, Nat.not_le.2 hleft, hhead, hbytes, heras]
  simp [hsome]

/-- The marks of a job that asks for it are searched for (R110). -/
theorem exec_ddSyncSearch_asked (hsearch : j.search = true) (hopen : j.result = none) (early : BitVec 224) :
    exec (.ddSyncSearch dd early) s = .next (applyAll s (ddBegin dd.val (ddSearch early ddWin) s)) := by
  change execDdSyncSearch dd early s = _
  simp [execDdSyncSearch, run_next, hjob, hup, hsearch, hopen]

/-- A hypothesis that is not abandoned and leaves a codeword that passes every check ends its job with success (R112, R113). -/
theorem exec_ddHypothesisEnd_succeeds {r : HypRun} {st : DdStart} (hcur : j.cur = some st) (hopen : j.result = none)
    (hcode : unsatisfied (fit 4608 r.hard) = 0) (hchecks : ddChecks j (fit 4608 r.hard) = 0)
    (hkept : j.final = true ∨ 4 * r.unsatAb < r.unsat1 ∨
      ((1 ≤ r.iters ∧ r.iters ≤ abandonIter j) ∨ leAt j.desc 48 1 ≤ abandonIter j)) :
    exec (.ddHypothesisEnd dd r) s = .next (applyAll s [
      .cnt Reg.DEC_ITER_CNT 31 0 (max 1 (min (leAt j.desc 48 1) r.iters)),
      .fld (Reg.DEC_DD_STAT dd.val) 30 24 (max 1 (min (leAt j.desc 48 1) r.iters)),
      updJob dd.val (fun j' => { j' with cur := none, result := some {
        status := 0, hyp := st.start - j.base, ref := st.ref, iters := max 1 (min (leAt j.desc 48 1) r.iters),
        corr := r.corrected, unsat := 0, check := 0, out := some (ddOut (fit 4608 r.hard)) } })]) := by
  have hrun := ddDropped_eq_false hcode hkept
  unfold ddDropped abandonIter at hrun
  change execDdHypothesisEnd dd r s = _
  simp only [execDdHypothesisEnd, run_next, hjob, hup, hcur, hopen, hrun]
  simp [hcode, hchecks]

section Completion
variable {res : DdResult} (hres : j.result = some res)
include hres

/-- A result is written where the completion ring has room (R114). -/
theorem exec_ddJobComplete_room (hreq : reqReady s = true) (hfree : j.stuck = false) (hroom : cqFull s = false) :
    exec (.ddJobComplete dd) s = .next (applyAll s (ddFinish dd.val j res s)) := by
  change execDdJobComplete dd s = _
  simp [execDdJobComplete, run_next, hjob, hup, hres, hreq, hfree, hroom]

/-- It is held where the completion ring is full (R114). -/
theorem exec_ddJobComplete_full (hreq : reqReady s = true) (hfree : j.stuck = false) (hfull : cqFull s = true) :
    exec (.ddJobComplete dd) s =
      .next (applyAll s [.sq Reg.DEC_STAT 2, updJob dd.val (fun j => { j with stuck := true })]) := by
  change execDdJobComplete dd s = _
  simp [execDdJobComplete, run_next, hjob, hup, hres, hreq, hfree, hfull]

/-- A result held is written once a slot has freed (R114). -/
theorem exec_ddResultRelease_room (hreq : reqReady s = true) (hheld : j.stuck = true) (hroom : cqFull s = false) :
    exec (.ddResultRelease dd) s = .next (applyAll s (ddFinish dd.val j res s)) := by
  change execDdResultRelease dd s = _
  simp [execDdResultRelease, run_next, hjob, hup, hres, hreq, hheld, hroom]

end Completion
end Running

/-- Settles O21: each command of a job whose conditions are met runs its action. -/
theorem deepDecoderJobs : Obligations.DeepDecoderJobs := by
  unfold Obligations.DeepDecoderJobs
  intro dd early r s hreq
  exact ⟨fun _ _ _ _ => exec_ddJobTake_idle hreq,
    fun _ _ _ hjob hup hopen hleft hhead hsamples heras =>
      exec_ddRecordLoad_read hjob hup hreq hopen hleft hhead hsamples heras,
    fun _ hjob hup hsearch hopen => exec_ddSyncSearch_asked hjob hup hsearch hopen early,
    fun _ _ hjob hcur hup hopen => exec_ddHypothesisEnd_succeeds hjob hup hcur hopen,
    fun _ _ hjob hres hup => exec_ddJobComplete_room hjob hup hres hreq,
    fun _ _ hjob hres hup => exec_ddJobComplete_full hjob hup hres hreq,
    fun _ _ hjob hres hup => exec_ddResultRelease_room hjob hup hres hreq⟩

end Sys2Proof.Machine

/-! Write paths and front ends: where their registers stand, and what counts and events leave. -/

namespace Sys2Proof.Machine

/-- An actuator's write block and its front-end block follow its engine's block and its lanes' (R23). -/
theorem blkOf_writeBlocks {a o : Nat} (ha : a < 4) (ho : o < 0x10000) :
    blkOf (actAddr a (0x20000 + o)) = (.wr a, o) ∧ blkOf (actAddr a (0x30000 + o)) = (.fe a, o) := by
  have hplace {x n : Nat} (hx : x = a * 0x40000 + n) (hn : n < 0x40000) :
      x / 0x40000 = a ∧ x % 0x40000 = n ∧ x < 0x100000 := by omega
  obtain ⟨y, hy⟩ : ∃ y, y = a * 0x40000 + (0x20000 + o) := ⟨_, rfl⟩
  obtain ⟨z, hz⟩ : ∃ z, z = a * 0x40000 + (0x30000 + o) := ⟨_, rfl⟩
  have hwr : actAddr a (0x20000 + o) = 0x100000 + y := by unfold actAddr; omega
  have hfe : actAddr a (0x30000 + o) = 0x100000 + z := by unfold actAddr; omega
  obtain ⟨hyact, hyoff, hybar⟩ := hplace hy (by omega)
  obtain ⟨hzact, hzoff, hzbar⟩ := hplace hz (by omega)
  rw [hwr, hfe]
  unfold blkOf
  constructor
  · simp (disch := omega) only [if_neg, if_pos, Nat.add_sub_cancel_left, hyact, hyoff]
  · simp (disch := omega) only [if_neg, if_pos, Nat.add_sub_cancel_left, hzact, hzoff]

theorem regDef_wr {a o : Nat} (ha : a < 4) (ho : o < 0x10000) :
    regDef (actAddr a (0x20000 + o)) = wrRegs.find? (fun d => d.hit o) := by
  rw [regDef, (blkOf_writeBlocks ha ho).1]
  rfl

theorem regDef_fe {a o : Nat} (ha : a < 4) (ho : o < 0x10000) :
    regDef (actAddr a (0x30000 + o)) = feRegs.find? (fun d => d.hit o) := by
  rw [regDef, (blkOf_writeBlocks ha ho).2]
  rfl

theorem regDef_WA_KILL {a : Nat} (ha : a < 4) :
    regDef (Reg.WA_KILL a) = some ⟨"WA_KILL", 0x810, [], 0x0, .one, [fd .rw 0 0]⟩ := by
  have hx : Reg.WA_KILL a = actAddr a (0x20000 + 0x810) := by unfold Reg.WA_KILL actAddr; omega
  rw [hx, regDef_wr ha (by omega)]
  rfl

theorem regDef_FE_STAT {a : Nat} (ha : a < 4) : regDef (Reg.FE_STAT a) =
    some ⟨"FE_STAT", 0x4, [], 0x0, .one, [fd .sq 31 24, fd .sq 2 2, fd .sq 1 1, fd .sq 0 0]⟩ := by
  have hx : Reg.FE_STAT a = actAddr a (0x30000 + 4) := by unfold Reg.FE_STAT actAddr; omega
  rw [hx, regDef_fe ha (by omega)]
  rfl

theorem liveMask_FE_STAT {a : Nat} (ha : a < 4) : liveMask (Reg.FE_STAT a) = 0xFF000007 :=
  liveMask_of_regDef (regDef_FE_STAT ha)

theorem regDef_AS_STATE {a k : Nat} (ha : a < 4) (hk : k < 16) :
    regDef (Reg.AS_STATE a k) = some ⟨"AS_STATE", 0x100C, [(16, 0x10)], 0x0, .one, [fd .ro 1 0]⟩ := by
  have hx : Reg.AS_STATE a k = actAddr a (0x20000 + (0x100C + k * 0x10)) := by unfold Reg.AS_STATE actAddr; omega
  have hall : ∀ k : Fin 16, wrRegs.find? (fun d => d.hit (0x100C + k.val * 0x10)) =
      some ⟨"AS_STATE", 0x100C, [(16, 0x10)], 0x0, .one, [fd .ro 1 0]⟩ := by decide
  rw [hx, regDef_wr ha (by omega)]
  exact hall ⟨k, hk⟩

theorem regDef_AS_WARM_CNT {a k : Nat} (ha : a < 4) (hk : k < 16) :
    regDef (Reg.AS_WARM_CNT a k) = some ⟨"AS_WARM_CNT", 0x1008, [(16, 0x10)], 0x0, .one, [fdK .ct 31 0]⟩ := by
  have hx : Reg.AS_WARM_CNT a k = actAddr a (0x20000 + (0x1008 + k * 0x10)) := by unfold Reg.AS_WARM_CNT actAddr; omega
  have hall : ∀ k : Fin 16, wrRegs.find? (fun d => d.hit (0x1008 + k.val * 0x10)) =
      some ⟨"AS_WARM_CNT", 0x1008, [(16, 0x10)], 0x0, .one, [fdK .ct 31 0]⟩ := by decide
  rw [hx, regDef_wr ha (by omega)]
  exact hall ⟨k, hk⟩

theorem liveMask_AS_STATE {a k : Nat} (ha : a < 4) (hk : k < 16) : liveMask (Reg.AS_STATE a k) = 3 :=
  liveMask_of_regDef (regDef_AS_STATE ha hk)

theorem AS_STATE_injective (a : Nat) : Function.Injective (Reg.AS_STATE a) := by
  intro i j h
  unfold Reg.AS_STATE at h
  omega

/-- A count that a register shows rises, up to the field's largest value. -/
theorem fld_applyEff_cnt {a hi lo : Nat} (hhi : hi < 32) (hlive : liveMask a &&& fldMask hi lo = fldMask hi lo) (s : State)
    (n : Nat) : (applyEff s (.cnt a hi lo n)).fld a hi lo = min (s.fld a hi lo + n) (2 ^ (hi + 1 - lo) - 1) := by
  have hfits : min ((s.reg a).fld hi lo + n) (2 ^ (hi + 1 - lo) - 1) < 2 ^ (hi + 1 - lo) :=
    Nat.lt_of_le_of_lt (Nat.min_le_right _ _) (Nat.sub_one_lt_of_lt (Nat.two_pow_pos _))
  unfold State.fld
  rw [applyEff_cnt, State.reg_hwReg, if_pos rfl, fld_merge _ _ _ _ _ hhi hlive, ctAdd, fld_setFld _ _ _ _ hhi,
    Nat.mod_eq_of_lt hfits]

/-- An event clears no status bit (R34). -/
theorem bit_applyEff_sq_of_set {a i : Nat} (hi : i < 24) {s : State} (hset : s.bit a i = true) (bits : Word) :
    (applyEff s (.sq a bits)).bit a i = true := by
  unfold State.bit Word.bit at *
  rw [applyEff_sq, State.reg_hwReg, if_pos rfl, merge_getLsbD]
  split
  · rw [bit_sqEvent _ _ _ hi, hset, Bool.true_or]
  · exact hset

/-- A head whose state is stored is in that state. -/
theorem asState_applyEff_fld {a k v : Nat} (ha : a < 4) (hk : k < 16) (hv : v < 4) (s : State) :
    asState (applyEff s (.fld (Reg.AS_STATE a k) 1 0 v)) a k = v := by
  rw [asState, fld_applyEff_fld _ _ _ _ _ (by decide) (by rw [liveMask_AS_STATE ha hk]; decide)]
  exact Nat.mod_eq_of_lt hv

/-- With the link on, a write leaves as one frame, its address and data after the type, its CRC last (R135). -/
theorem feWrite_on {act : Nat} {s : State} (hon : feOn s act = true) (ty addr data : Nat) :
    ∃ tail, feWrite act ty addr data s = [.emit (.feFrame act (b8 (ty * 16) :: b8 addr :: tail))] := by
  simp only [feWrite, if_pos hon]
  exact ⟨_, rfl⟩

theorem feReadFrame_on {act : Nat} {s : State} (hon : feOn s act = true) (addr : Nat) :
    feReadFrame act addr s = [.emit (.feFrame act [0x80, b8 addr])] :=
  if_pos hon

end Sys2Proof.Machine

/-! Assist states of a head (R129-R134). -/

namespace Sys2Proof.Machine

section Head
variable {act : Fin 4} {slot : Fin 16} {s : State}

/-- A head in OFF with its warm-up grant takes it up, is sent BIAS and warms (R129). -/
theorem exec_assistBiasSend_granted (hon : feOn s act.val = true) (hoff : asState s act.val slot.val = 0)
    (hgrant : hasGrant s 1 (16 * act.val + slot.val) = true) :
    exec (.assistBiasSend act slot) s = .next (applyAll s (seqs [enableDrv act.val,
      fun _ => [useGrant 1 (16 * act.val + slot.val)], feAssist act.val 1 (2 ^ slot.val),
      fun _ => [.fld (Reg.AS_STATE act.val slot.val) 1 0 1]] s)) := by
  change execAssistBiasSend act slot s = _
  simp only [execAssistBiasSend, run_next, hon, hoff, hgrant, decide_true, Bool.and_self, if_true]

/-- A head that has warmed is in BIAS, and a warm-up is counted (R129). -/
theorem exec_assistWarmDone_warming (hup : feUp s act.val = true) (hwarm : asState s act.val slot.val = 1) :
    exec (.assistWarmDone act slot) s = .next (applyAll s
      [.fld (Reg.AS_STATE act.val slot.val) 1 0 2, .cnt (Reg.AS_WARM_CNT act.val slot.val) 31 0 1]) := by
  change execAssistWarmDone act slot s = _
  simp only [execAssistWarmDone, run_next, hup, hwarm, decide_true, Bool.and_self, if_true]

/-- Of the registers the end of a warm-up changes the head's state and its count alone. -/
theorem warmDone_effect {t : State} (ht : t = applyAll s
      [.fld (Reg.AS_STATE act.val slot.val) 1 0 2, .cnt (Reg.AS_WARM_CNT act.val slot.val) 31 0 1]) :
    asState t act.val slot.val = 2 ∧
    t.fld (Reg.AS_WARM_CNT act.val slot.val) 31 0 = min (s.fld (Reg.AS_WARM_CNT act.val slot.val) 31 0 + 1) 0xFFFFFFFF ∧
    sameRegsBut (fun a => a = Reg.AS_STATE act.val slot.val ∨ a = Reg.AS_WARM_CNT act.val slot.val) s t ∧
    sameMem s t ∧ t.dyn = s.dyn := by
  have hapart : Reg.AS_STATE act.val slot.val ≠ Reg.AS_WARM_CNT act.val slot.val := by
    unfold Reg.AS_STATE Reg.AS_WARM_CNT; omega
  have hlive : liveMask (Reg.AS_WARM_CNT act.val slot.val) &&& fldMask 31 0 = fldMask 31 0 := by
    rw [liveMask_of_regDef (regDef_AS_WARM_CNT act.isLt slot.isLt)]; decide
  subst ht
  refine ⟨?_, ?_, sameRegsBut_applyAll (by simp [Eff.dest]) s, sameMem_applyAll (by simp [Eff.stores]) s, rfl⟩
  · exact (fld_applyEff_cnt_ne _ _ _ _ _ _ _ _ hapart).trans (asState_applyEff_fld act.isLt slot.isLt (by decide) s)
  · have hwarms := fld_applyEff_fld_ne s _ _ 1 0 2 31 0 hapart.symm
    exact (fld_applyEff_cnt (by decide) hlive _ 1).trans (congrArg (fun n => min (n + 1) 0xFFFFFFFF) hwarms)

/-- A change of a head's state alone. -/
theorem asState_stored {v : Nat} (hv : v < 4) {t : State}
    (ht : t = applyAll s [.fld (Reg.AS_STATE act.val slot.val) 1 0 v]) : asState t act.val slot.val = v ∧
    sameRegsBut (fun a => a = Reg.AS_STATE act.val slot.val) s t ∧ sameMem s t ∧ t.dyn = s.dyn ∧ t.out = s.out := by
  obtain ⟨hregs, hmem, hdyn⟩ := frame_of_dest (e := .fld (Reg.AS_STATE act.val slot.val) 1 0 v) rfl s
  subst ht
  exact ⟨asState_applyEff_fld act.isLt slot.isLt hv s, hregs, hmem, hdyn, rfl⟩

/-- A head that stays in BIAS for BIAS_HOLD is sent OFF (R131). -/
theorem exec_assistBiasHoldExpiry_off (hon : feOn s act.val = true) (hbias : asState s act.val slot.val = 2)
    (hhold : s.fld (Reg.WA_ASSIST2 act.val) 15 8 ≠ 0) : ∃ tail, exec (.assistBiasHoldExpiry act slot) s =
      .next (applyAll s [.emit (.feFrame act.val (0x10 :: 4 :: tail)), .fld (Reg.AS_STATE act.val slot.val) 1 0 0]) := by
  obtain ⟨tail, hframe⟩ := feWrite_on hon 1 4 (2 ^ slot.val)
  refine ⟨tail, ?_⟩
  change execAssistBiasHoldExpiry act slot s = _
  simp only [execAssistBiasHoldExpiry, run_next, hon, hbias, hhold, ne_eq, not_false_eq_true, decide_true, Bool.and_self,
    if_true, seqs_cons, seqs_nil, feAssist, hframe]
  rfl

/-- With BIAS_HOLD 0 it stays in BIAS (R131). -/
theorem exec_assistBiasHoldExpiry_kept (hhold : s.fld (Reg.WA_ASSIST2 act.val) 15 8 = 0) :
    exec (.assistBiasHoldExpiry act slot) s = .next s := by
  change execAssistBiasHoldExpiry act slot s = _
  simp [execAssistBiasHoldExpiry, run_next, hhold]

/-- An ARMED head whose gate is low, or whose group does not transfer, is taken as back in BIAS (R134). -/
theorem exec_armIdleExpiry_low (hup : feUp s act.val = true) (harmed : asState s act.val slot.val = 3)
    (hlow : (s.path act.val (slot.val % 4)).wg = false ∨ slot.val / 4 ≠ (s.waD act.val).group) :
    exec (.armIdleExpiry act slot) s = .next (applyAll s [.fld (Reg.AS_STATE act.val slot.val) 1 0 2]) := by
  have hgate : ((s.path act.val (slot.val % 4)).wg && slot.val / 4 == (s.waD act.val).group) = false := by
    rcases hlow with hwg | hgroup
    · rw [hwg, Bool.false_and]
    · rw [beq_false_of_ne hgroup, Bool.and_false]
  change execArmIdleExpiry act slot s = _
  simp only [execArmIdleExpiry, run_next, hup, harmed, hgate, decide_true, Bool.and_self, Bool.not_false, if_true]

end Head

/-- One ARM frame names the started heads that are in BIAS, once none of the started heads is still to warm up and no inhibit
holds (R130). -/
theorem exec_assistArmSend_warm {act : Fin 4} {slots : List Nat} {s : State} (hdrv : enableDrv act.val s = [])
    (hon : feOn s act.val = true) (hfree : inhibited s act.val = false)
    (hslots : slots = ((List.range 4).filter (fun j => (s.path act.val j).on)).map (fun j => 4 * (s.waD act.val).group + j))
    (hwarm : slots.any (fun k => asState s act.val k < 2) = false)
    (hbias : slots.filter (fun k => asState s act.val k == 2) ≠ []) :
    exec (.assistArmSend act) s = .next (applyAll s (seqs [
      feAssist act.val 2 (maskOf (slots.filter (fun k => asState s act.val k == 2))),
      fun _ => (slots.filter (fun k => asState s act.val k == 2)).map (fun k => .fld (Reg.AS_STATE act.val k) 1 0 3)] s)) := by
  have hsome := List.isEmpty_eq_false_iff.2 hbias
  subst hslots
  change execAssistArmSend act s = _
  simp only [execAssistArmSend, run_next, seqs_cons _ _ s, hdrv, applyAll_nil, hon, hfree, hwarm, hsome, Bool.not_true,
    Bool.or_self, Bool.false_eq_true, if_false, List.nil_append, seqs_nil, List.append_nil]

/-- Settles O23: each command acts where its head's state lets it, and a state stored is the head's. -/
theorem assistHeads : Obligations.AssistHeads := by
  unfold Obligations.AssistHeads
  constructor
  · intro act slot s
    refine ⟨exec_assistBiasSend_granted,
      fun hup hwarm => ⟨_, exec_assistWarmDone_warming hup hwarm, warmDone_effect rfl⟩,
      fun hon hbias hhold => ?_, fun _ _ hhold => exec_assistBiasHoldExpiry_kept hhold,
      fun hup harmed hlow => ⟨_, exec_armIdleExpiry_low hup harmed hlow, asState_stored (by decide) rfl⟩⟩
    obtain ⟨tail, hexec⟩ := exec_assistBiasHoldExpiry_off hon hbias hhold
    obtain ⟨hstate, hregs, hmem, hdyn, hout⟩ := asState_stored (act := act) (slot := slot)
      (s := applyEff s (.emit (.feFrame act.val (0x10 :: 4 :: tail)))) (v := 0) (by decide) rfl
    exact ⟨_, hexec, hstate, ⟨_, hout, rfl⟩, hregs, hmem, hdyn⟩
  · intro init act slot zone data slots s
    exact ⟨exec_assistArmSend_warm, fun hacc => run_of_effects (wrAccess_ready s init _ _ hacc)⟩

end Sys2Proof.Machine

/-! The front-end link (R136, R138, R145, R149). -/

namespace Sys2Proof.Machine

/-- What a silent front end loses besides its heads' assist: its write drivers, and what it had been sent. -/
def driversLost (a : Nat) : List Eff :=
  (List.range 4).map (fun j => .fld (Reg.WP_CTL a j) 2 2 0) ++ [updWa a (fun w => { w with
    drv := 0, codes := List.replicate 16 none, headSel := none, paths := w.paths.map (fun p => { p with idleDrv := false }) })]

/-- A front end that falls silent first has every head in OFF (R131, R138). -/
theorem feSilent_eq (a : Nat) (s : State) :
    feSilent a s = (List.range 16).map (fun k => .fld (Reg.AS_STATE a k) 1 0 0) ++ driversLost a :=
  List.append_assoc _ _ _

theorem driversLost_dest {a b : Nat} {e : Eff} (he : e ∈ driversLost a) (hd : e.dest = some b) :
    ∃ j < 4, b = Reg.WP_CTL a j := by
  rcases List.mem_append.1 he with he | he
  · obtain ⟨j, hj, rfl⟩ := List.mem_map.1 he
    exact ⟨j, List.mem_range.1 hj, (Option.some.inj hd).symm⟩
  · rw [List.mem_singleton.1 he] at hd
    exact absurd hd nofun

theorem asState_feSilent {a k : Nat} (ha : a < 4) (hk : k < 16) (s t : State) :
    asState (applyAll s (feSilent a t)) a k = 0 := by
  have hdrv : ∀ e ∈ driversLost a, e.dest ≠ some (Reg.AS_STATE a k) := by
    intro e he hd
    obtain ⟨j, hj, hwp⟩ := driversLost_dest he hd
    unfold Reg.AS_STATE Reg.WP_CTL at hwp
    omega
  rw [asState, State.fld, feSilent_eq, applyAll_append, reg_applyAll_of_dest_ne hdrv]
  exact fld_applyAll_map_fld (AS_STATE_injective a) (fun _ => 0) List.nodup_range (List.mem_range.2 hk) (by decide)
    (by rw [liveMask_AS_STATE ha hk]; decide) s

/-- A front end falling silent leaves the events its link has shown. -/
theorem reg_FE_STAT_feSilent (a : Nat) (s t : State) :
    (applyAll s (feSilent a t)).reg (Reg.FE_STAT a) = s.reg (Reg.FE_STAT a) := by
  refine reg_applyAll_of_dest_ne (fun e he hd => ?_) s
  rw [feSilent_eq] at he
  rcases List.mem_append.1 he with he | he
  · obtain ⟨k, hk, rfl⟩ := List.mem_map.1 he
    have hslot := List.mem_range.1 hk
    have has := Option.some.inj hd
    unfold Reg.AS_STATE Reg.FE_STAT at has
    omega
  · obtain ⟨j, hj, hwp⟩ := driversLost_dest he hd
    unfold Reg.FE_STAT Reg.WP_CTL at hwp
    omega

section Link
variable {act : Fin 4} {s : State}

/-- A heartbeat that answers the front end's ID ends a run of bad ones (R136). -/
theorem exec_feHeartbeat_good {id : BitVec 16} (hon : feOn s act.val = true) (hid : id.toNat = (s.waD act.val).feId) :
    exec (.feHeartbeat act id true) s = .next (applyAll s [.emit (.feFrame act.val [0x80, 0]),
      updWa act.val (fun w => { w with bad := 0 })]) := by
  change execFeHeartbeat act id true s = _
  simp [execFeHeartbeat, run_next, hon, hid, seqs_cons, feReadFrame_on hon, b8]

/-- The heartbeat's read, the end of the run of bad answers, the CRC error and DOWN (R136). -/
def linkLost (act : Nat) : List Eff := [.emit (.feFrame act [0x80, 0]), updWa act (fun w => { w with bad := 0 }),
  .cnt (Reg.FE_CRC_CNT act) 31 0 1, .sq (Reg.FE_STAT act) 4, .sq (Reg.FE_STAT act) 1]

/-- The third heartbeat in a row that answers a bad CRC shows CRC_ERR and DOWN and silences the front end (R136, R138). -/
theorem exec_feHeartbeat_thirdBad (hon : feOn s act.val = true) (hbad : (s.waD act.val).bad = 2) (id : BitVec 16) :
    exec (.feHeartbeat act id false) s = .next (applyAll s (linkLost act.val ++ feSilent act.val s)) := by
  change execFeHeartbeat act id false s = _
  simp only [execFeHeartbeat, run_next, hon, hbad, Bool.not_true, Bool.not_false, Bool.true_or, if_true, seqs_cons, seqs_nil,
    feReadFrame_on hon]
  rfl

/-- A link lost has DOWN and CRC_ERR set and every head in OFF. -/
theorem linkLost_effect {t : State} (ht : t = applyAll s (linkLost act.val ++ feSilent act.val s)) :
    t.bit (Reg.FE_STAT act.val) 0 = true ∧ t.bit (Reg.FE_STAT act.val) 2 = true ∧
      ∀ k : Fin 16, asState t act.val k.val = 0 := by
  rw [applyAll_append] at ht
  subst ht
  refine ⟨?_, ?_, fun k => asState_feSilent act.isLt k.isLt _ s⟩
  · rw [State.bit, reg_FE_STAT_feSilent]
    exact bit_applyEff_sq (by decide) (by rw [liveMask_FE_STAT act.isLt]; decide) (by decide) _
  · rw [State.bit, reg_FE_STAT_feSilent]
    exact bit_applyEff_sq_of_set (by decide)
      (bit_applyEff_sq (by decide) (by rw [liveMask_FE_STAT act.isLt]; decide) (by decide) _) _

/-- Setting EN starts the link: the ID is read, ARM_IDLE written and the group's heads selected (R138, R149). -/
theorem hFeCtl_starts {a : Nat} {data : Word} (hset : data.bit 0 = true) (hoff : s.bit (Reg.FE_CTL a) 0 = false) (id : Nat)
    (crcOk : Bool) : hFeCtl a data id crcOk s = seqs [plainWrite (Reg.FE_CTL a) data,
      seqs [feReadFrame a 0, fun _ => [updWa a (fun w => { w with feId := if crcOk then id else 0, bad := 0, headSel := none })],
        if crcOk then skip else feCrcErr a,
        feWrite a 0 4 (s.fld (Reg.WA_ASSIST2 a) 7 0), fun s => selHeads a (groupOf s a) s]] s := by
  simp only [hFeCtl, hset, hoff, Bool.not_false, Bool.and_self, if_true]

/-- The fault ball's fall is kept and, while the block runs, shown as an event (R145). -/
theorem exec_feFaultAssert_falls (hup : feUp s act.val = true) (hhigh : (s.waD act.val).faultN = false) :
    exec (.feFaultAssert act) s =
      .next (applyAll s [updWa act.val (fun w => { w with faultN := true }), .sq (Reg.FE_STAT act.val) 2]) := by
  change execFeFaultAssert act s = _
  simp only [execFeFaultAssert, run_next, hup, hhigh, Bool.not_false, Bool.and_self, if_true]
  rfl

/-- A write of WA_KILL takes its value and changes nothing else (R145). -/
theorem exec_waKillWrite_ready {init : Initiator} (hacc : accReady s init (Reg.WA_KILL act.val) = true) (data : Word) :
    ∃ t, exec (.waKillWrite init act data) s = .next t ∧ t.bit (Reg.WA_KILL act.val) 0 = data.getLsbD 0 ∧
      sameRegsBut (fun a => a = Reg.WA_KILL act.val) s t ∧ sameMem s t ∧ t.dyn = s.dyn := by
  have hdef := regDef_WA_KILL act.isLt
  have hbit := bit_plainWrite_rw hdef rfl rfl (i := 0) (by decide) (by rw [liveMask_of_regDef hdef]; decide) data s
  refine ⟨_, run_of_effects (wrAccess_ready s init _ _ hacc), hbit, ?_⟩
  rw [plainWrite_unguarded hdef rfl]
  exact frame_of_dest rfl s

end Link

/-- Settles O24: a heartbeat's answer decides whether the link stays; the other commands run their actions. -/
theorem frontEndLink : Obligations.FrontEndLink := by
  unfold Obligations.FrontEndLink
  intro init act data id crcOk s
  have hset : (data ||| 1).bit 0 = true := by simp [Word.bit]
  exact ⟨exec_feHeartbeat_good, fun hon hbad => ⟨_, exec_feHeartbeat_thirdBad hon hbad id, linkLost_effect rfl⟩,
    fun hacc hoff => run_of_effects ((wrAccess_ready s init _ _ hacc).trans (hFeCtl_starts hset hoff _ crcOk)),
    exec_feFaultAssert_falls, rfl, fun hacc => exec_waKillWrite_ready hacc data⟩

end Sys2Proof.Machine

/-! Write inhibits (R145, R146). -/

namespace Sys2Proof.Machine

/-- A source that holds inhibits writing. -/
theorem inhibited_of_source {s : State} {a : Nat} {r : Inhibit} (h : inhibitOf s a r = true) : inhibited s a = true :=
  List.any_eq_true.2 ⟨r, by cases r <;> decide, h⟩

section Sources
variable {s : State} {a : Nat}

theorem inhibitOf_plaus_of_fail (h : s.bit (Reg.HL_FLAGS a) 5 = true) : inhibitOf s a .plaus = true := by
  rw [inhibitOf, h, Bool.or_true]

/-- A transferring head that has not been on its track for long enough holds OFFTRACK (R145). -/
theorem inhibitOf_offtrack_of_mem {j : Nat} (hj : j ∈ writing s a)
    (h : (s.hl a).onTrk.getD j 0 < max 1 (s.fld (Reg.WA_CFG a) 15 12)) : inhibitOf s a .offtrack = true :=
  List.any_eq_true.2 ⟨j, hj, decide_eq_true h⟩

/-- A transferring head that missed its wedge holds SERVO_MISS (R145). -/
theorem inhibitOf_servoMiss_of_mem {j : Nat} (hj : j ∈ writing s a) (h : (s.hl a).missed.getD j false = true) :
    inhibitOf s a .servoMiss = true :=
  List.any_eq_true.2 ⟨j, hj, h⟩

/-- With no head transferring neither holds. -/
theorem inhibitOf_of_writing_nil (h : writing s a = []) :
    inhibitOf s a .offtrack = false ∧ inhibitOf s a .servoMiss = false := by
  simp [inhibitOf, h]

/-- Without an inhibit the actuator's plausibility has not failed. -/
theorem plausFail_of_not_inhibited (h : inhibited s a = false) : s.bit (Reg.HL_FLAGS a) 5 = false :=
  Bool.eq_false_iff.2 fun hfail => Bool.eq_false_iff.1 h (inhibited_of_source (inhibitOf_plaus_of_fail hfail))

end Sources

section Course
variable {act : Fin 4} {s : State} (hup : feUp s act.val = true)
include hup

/-- A source that holds cuts off the paths that write and lowers gates and assist (R146). -/
theorem exec_writeInhibitBegin_cuts {reason : Inhibit} {js : List Nat} (hsource : inhibitOf s act.val reason = true)
    (hjs : js = (List.range 4).filter (fun j => pathState s act.val j == 2)) (hsome : js ≠ []) (wedge : BitVec 10)
    (head : Fin 64) (w : WriteRun) :
    exec (.writeInhibitBegin act reason wedge head w) s = .next (applyAll s (seqs [each js (cutPath act.val w),
      gatesLow act.val, disarm act.val, fun _ => [
        .reg (Reg.WA_INH_LAST act.val) (w32 (reason.code * 2 ^ 28 + wedge.toNat * 2 ^ 18 + head.val * 4096)),
        .cnt (Reg.WA_INH_CNT act.val) 31 0 1, .sq (Reg.WA_STAT act.val) 1,
        updWa act.val (fun w => { w with
          cut := true, verify := (reason == .plaus || reason == .offtrack) && s.bit (Reg.WA_CFG act.val) 11 })] ++
        (List.range 4).flatMap (fun j => if (s.path act.val j).on then [.fld (Reg.WP_CTL act.val j) 4 3 3] else []),
      fun s => if js.any (fun j => nextEnd s act.val j == .metaBad) then endAll act.val 16 s else [],
      trigger 2 act.val] s)) := by
  have hempty := List.isEmpty_eq_false_iff.2 hsome
  subst hjs
  change execWriteInhibitBegin act reason wedge head w s = _
  simp only [execWriteInhibitBegin, run_next, hup, hsource, hempty, Bool.not_true, Bool.or_self, Bool.false_eq_true, if_false]

variable (hcut : (s.waD act.val).cut = true)
include hcut

/-- A verify with no failed frame is over (R146). -/
theorem exec_inhibitVerifyRead_clean (hverify : (s.waD act.val).verify = true) :
    exec (.inhibitVerifyRead act []) s = .next (applyAll s [updWa act.val (fun w => { w with verify := false })]) := by
  change execInhibitVerifyRead act [] s = _
  simp [execInhibitVerifyRead, run_next, hup, hcut, hverify, seqs_cons, each]

variable (hverified : (s.waD act.val).verify = false)
include hverified

/-- With no source left and a retry to spend the cut paths wait to write on (R146). -/
theorem exec_inhibitRewrite_goesOn (hfree : inhibited s act.val = false)
    (hleft : (s.waD act.val).retry < s.fld (Reg.WA_CFG act.val) 10 8) :
    exec (.inhibitRewrite act) s = .next (applyAll s ([updWa act.val (fun w => { w with cut := false, retry := w.retry + 1 })] ++
      (List.range 4).flatMap (fun j => if (s.path act.val j).on then [.fld (Reg.WP_CTL act.val j) 4 3 1] else []))) := by
  change execInhibitRewrite act s = _
  simp only [execInhibitRewrite, run_next, hup, hcut, hverified, hfree, plausFail_of_not_inhibited hfree, Nat.not_le.2 hleft,
    decide_false, Bool.not_true, Bool.or_self, Bool.false_eq_true, if_false]

/-- With the retries spent the transfer ends with RETRY_EXH (R146). -/
theorem exec_inhibitRewrite_spent (hspent : s.fld (Reg.WA_CFG act.val) 10 8 ≤ (s.waD act.val).retry) :
    exec (.inhibitRewrite act) s = .next (applyAll s (endAll act.val 4 s)) := by
  change execInhibitRewrite act s = _
  simp [execInhibitRewrite, run_next, hup, hcut, hverified, hspent]

end Course

/-- Settles O25: every reason is a source; an inhibit's steps run in the order of its cut, its verify and its retries. -/
theorem writeInhibits : Obligations.WriteInhibits := by
  unfold Obligations.WriteInhibits
  constructor
  · intro act s
    exact ⟨fun hfail => inhibited_of_source (inhibitOf_plaus_of_fail hfail),
      inhibited_of_source (r := .feFault), inhibited_of_source (r := .link), inhibited_of_source (r := .kill),
      fun j hj hheld => hheld.elim (fun hmiss => inhibited_of_source (inhibitOf_servoMiss_of_mem hj hmiss))
        (fun hoff => inhibited_of_source (inhibitOf_offtrack_of_mem hj hoff)),
      inhibitOf_of_writing_nil⟩
  · intro act reason wedge head w s hup
    exact ⟨fun _ hsource hjs hsome => exec_writeInhibitBegin_cuts hup hsource hjs hsome wedge head w,
      exec_inhibitVerifyRead_clean hup,
      fun hcut hverified hfree hleft => exec_inhibitRewrite_goesOn hup hcut hverified hfree hleft,
      fun hcut hverified hspent => exec_inhibitRewrite_spent hup hcut hverified hspent⟩

end Sys2Proof.Machine

/-! Headland: an engine's own registers, and what plain writes and effects leave in them. -/

namespace Sys2Proof.Machine

/-- A bit that no plain write stores to keeps its value where the other fields of its register take theirs. -/
theorem getLsbD_stored_kept {d : RegDef} {i : Nat} (hkept : (d.tyMask .rw ||| d.tyMask .ct ||| d.tyMask .hw).getLsbD i = false)
    (on : Bool) (old v : Word) :
    (old.merge (d.tyMask .rw ||| d.tyMask .ct ||| if on then 0 else d.tyMask .hw) v).getLsbD i = old.getLsbD i := by
  simp only [BitVec.getLsbD_or, Bool.or_eq_false_iff] at hkept
  obtain ⟨⟨hrw, hct⟩, hhw⟩ := hkept
  cases on <;> simp [merge_getLsbD, hrw, hct, hhw]

/-- A bit that no plain write stores to keeps its value, in a register without SQ fields. -/
theorem getLsbD_wrWord_kept {d : RegDef} (hsq : d.tyMask .sq = 0) {i : Nat}
    (hkept : (d.tyMask .rw ||| d.tyMask .ct ||| d.tyMask .hw).getLsbD i = false) (on : Bool) (old v : Word) :
    (wrWord d on old v).getLsbD i = old.getLsbD i := by
  simpa [wrWord, hsq] using getLsbD_stored_kept hkept on old v

/-- A status bit clears where it is written as 1 and SEQ matches, and keeps its value otherwise (R35). -/
theorem getLsbD_wrWord_sq {d : RegDef} {i : Nat} (hi : i < 24) (hsq : (d.tyMask .sq).getLsbD i = true)
    (hkept : (d.tyMask .rw ||| d.tyMask .ct ||| d.tyMask .hw).getLsbD i = false) (on : Bool) (old v : Word) :
    (wrWord d on old v).getLsbD i = (old.getLsbD i && !(decide (v.fld 31 24 = old.fld 31 24) && v.getLsbD i)) := by
  have hstored := getLsbD_stored_kept hkept on old v
  have hsome : (d.tyMask .sq != 0) = true := bne_iff_ne.2 fun hzero => by simp [hzero] at hsq
  have hall : ∀ j : Fin 24, (0x00FFFFFF : Word).getLsbD j.val = true := by decide
  have hbelow : (0x00FFFFFF : Word).getLsbD i = true := hall ⟨i, hi⟩
  have h32 : i < 32 := by omega
  have hdec : decide (d.tyMask .sq ≠ 0) = true := decide_eq_true (bne_iff_ne.1 hsome)
  by_cases hseq : v.fld 31 24 = old.fld 31 24
  · simp only [wrWord, hdec, hseq, decide_true, Bool.and_self, if_true, BitVec.getLsbD_and, BitVec.getLsbD_not, hstored, h32,
      hsq, hbelow, Bool.and_true, Bool.true_and]
  · simp only [wrWord, hseq, decide_false, Bool.and_false, Bool.false_eq_true, if_false, hstored, Bool.false_and, Bool.not_false,
      Bool.and_true]

section PlainWrite
variable {a : Nat} {d : RegDef} (hd : regDef a = some d) (hg : d.guarded = false)
include hd hg

/-- A field that no plain write stores to keeps its value through one. -/
theorem fld_plainWrite_kept (hsq : d.tyMask .sq = 0) {hi lo : Nat}
    (hkept : (d.tyMask .rw ||| d.tyMask .ct ||| d.tyMask .hw) &&& fldMask hi lo = 0) (v : Word) (s : State) :
    (applyAll s (plainWrite a v s)).fld a hi lo = s.fld a hi lo := by
  rw [plainWrite_unguarded hd hg, applyAll_cons, applyAll_nil]
  refine fld_congr _ _ _ _ fun i hlo hi' => ?_
  rw [applyEff_reg, State.reg_hwReg, if_pos rfl, merge_getLsbD]
  split
  · next hlive =>
    have hout : ((d.tyMask .rw ||| d.tyMask .ct ||| d.tyMask .hw) &&& fldMask hi lo).getLsbD i = false := by
      rw [hkept]
      exact BitVec.getLsbD_zero
    rw [BitVec.getLsbD_and, fldMask_getLsbD, decide_eq_true (BitVec.lt_of_getLsbD hlive), decide_eq_true hlo,
      decide_eq_true hi', Bool.and_self, Bool.and_self, Bool.and_true] at hout
    exact getLsbD_wrWord_kept hsq hout _ _ _
  · rfl

theorem bit_plainWrite_sq {i : Nat} (hi : i < 24) (hsq : (d.tyMask .sq).getLsbD i = true)
    (hkept : (d.tyMask .rw ||| d.tyMask .ct ||| d.tyMask .hw).getLsbD i = false) (hlive : (liveMask a).getLsbD i = true)
    (v : Word) (s : State) :
    (applyAll s (plainWrite a v s)).bit a i = (s.bit a i && !(decide (v.fld 31 24 = s.fld a 31 24) && v.bit i)) := by
  rw [plainWrite_unguarded hd hg, applyAll_cons, applyAll_nil]
  unfold State.bit Word.bit
  rw [applyEff_reg, State.reg_hwReg, if_pos rfl, merge_getLsbD, if_pos hlive]
  exact getLsbD_wrWord_sq hi hsq hkept _ _ _

end PlainWrite

/-- A count leaves every other field of its register. -/
theorem fld_applyEff_cnt_other (s : State) (a hi lo n hi' lo' : Nat) (h : hi < lo' ∨ hi' < lo) :
    (applyEff s (.cnt a hi lo n)).fld a hi' lo' = s.fld a hi' lo' := by
  unfold State.fld
  rw [applyEff_cnt, State.reg_hwReg, if_pos rfl]
  refine fld_congr _ _ _ _ fun i hlo hi' => ?_
  rw [merge_getLsbD]
  split
  · rw [ctAdd, setFld_getLsbD, if_neg (by omega)]
  · rfl

/-- A register of an engine is defined in its block's table. -/
theorem regDef_engine {a x o : Nat} (ha : a < 4) (ho : o < 0x10000) (hx : x = 0x100000 + o + a * 0x40000) :
    regDef x = hlRegs.find? (fun d => d.hit o) := by
  have haddr : x = actAddr a o := by unfold actAddr; omega
  rw [haddr, regDef_actAddr ha ho]

section Engine
variable {a : Nat} (ha : a < 4)
include ha

theorem regDef_HL_CTL : regDef (Reg.HL_CTL a) = some ⟨"HL_CTL", 0x0, [], 0x0, .one, [fd .rw 16 16, fd .ro 14 12, fd .rw 11 10,
    fd .wo 9 9, fd .wo 8 8, fd .rw 3 3, fd .rw 2 2, fd .rw 1 1, fd .rw 0 0]⟩ :=
  regDef_engine (o := 0x0) ha (by decide) rfl

theorem regDef_HL_FLAGS : regDef (Reg.HL_FLAGS a) = some ⟨"HL_FLAGS", 0x4, [], 0x0, .one, [fd .sq 31 24, fd .sq 9 9, fd .sq 8 8,
    fd .sq 7 7, fd .sq 6 6, fd .sq 5 5, fd .sq 4 4, fd .sq 3 3, fd .sq 2 2, fd .sq 1 1, fd .sq 0 0]⟩ :=
  regDef_engine (o := 0x4) ha (by decide) rfl

theorem regDef_HL_FAIL : regDef (Reg.HL_FAIL a) =
    some ⟨"HL_FAIL", 0x8, [], 0x0, .one, [fd .ro 31 28, fd .ro 27 22, fd .ro 21 12]⟩ :=
  regDef_engine (o := 0x8) ha (by decide) rfl

theorem regDef_HL_CRC_CNT : regDef (Reg.HL_CRC_CNT a) =
    some ⟨"HL_CRC_CNT", 0x6C, [], 0x0, .one, [fdK .ct 31 16, fdK .ct 15 0]⟩ :=
  regDef_engine (o := 0x6C) ha (by decide) rfl

theorem regDef_HL_RAMP_CTL : regDef (Reg.HL_RAMP_CTL a) =
    some ⟨"HL_RAMP_CTL", 0x80, [], 0x400, .one, [fd .rw 20 16, fd .rw 15 4, fd .ro 1 1, fd .wo 0 0]⟩ :=
  regDef_engine (o := 0x80) ha (by decide) rfl

theorem regDef_HL_RAMP_STEP : regDef (Reg.HL_RAMP_STEP a) = some ⟨"HL_RAMP_STEP", 0x88, [], 0x0, .one, [fd .ro 11 0]⟩ :=
  regDef_engine (o := 0x88) ha (by decide) rfl

theorem liveMask_HL_CTL : liveMask (Reg.HL_CTL a) = 0x00017F0F := liveMask_of_regDef (regDef_HL_CTL ha)

theorem liveMask_HL_FLAGS : liveMask (Reg.HL_FLAGS a) = 0xFF0003FF := liveMask_of_regDef (regDef_HL_FLAGS ha)

/-- An event of HL_FLAGS that names a flag sets it (R34). -/
theorem flag_applyEff_sq {i : Nat} (hi : i < 10) {bits : Word} (hbit : bits.getLsbD i = true) (s : State) :
    (applyEff s (.sq (Reg.HL_FLAGS a) bits)).bit (Reg.HL_FLAGS a) i = true := by
  have hall : ∀ j : Fin 10, (0xFF0003FF : Word).getLsbD j.val = true := by decide
  exact bit_applyEff_sq (by omega) (by rw [liveMask_HL_FLAGS ha]; exact hall ⟨i, hi⟩) hbit s

/-- An engine whose STATE is stored is in that state while no later effect stores to HL_CTL. -/
theorem hlState_of_stored {v : Nat} (hv : v < 8) {es : List Eff} (hes : ∀ e ∈ es, e.dest ≠ some (Reg.HL_CTL a)) (s : State) :
    hlState (applyAll s (.fld (Reg.HL_CTL a) 14 12 v :: es)) a = v := by
  unfold hlState State.fld
  rw [applyAll_cons, reg_applyAll_of_dest_ne hes]
  refine (fld_applyEff_fld s _ 14 12 v (by decide) ?_).trans (Nat.mod_eq_of_lt hv)
  rw [liveMask_HL_CTL ha]
  decide

end Engine

/-- A bit of a register that no effect stores to. -/
theorem bit_applyAll_of_dest_ne {a : Nat} {es : List Eff} (h : ∀ e ∈ es, e.dest ≠ some a) (s : State) (i : Nat) :
    (applyAll s es).bit a i = s.bit a i :=
  congrArg (fun w : Word => w.bit i) (reg_applyAll_of_dest_ne h s)

/-- An engine's state is a field of HL_CTL. -/
theorem hlState_congr {s t : State} {act : Nat} (h : t.reg (Reg.HL_CTL act) = s.reg (Reg.HL_CTL act)) :
    hlState t act = hlState s act :=
  congrArg (fun w : Word => w.fld 14 12) h

/-- A frame of the microactuator stream stores to no register and no memory. -/
theorem msSend_stores_nothing {act ty slot : Nat} {v : Int} {s : State} :
    ∀ e ∈ msSend act ty slot v s, e.dest = none ∧ e.stores = false := by
  unfold msSend
  split
  · split <;> simp [accChars, updHl, Eff.dest, Eff.stores]
  · simp

theorem msSend_dest_ne {act ty slot : Nat} {v : Int} {s : State} (a : Nat) :
    ∀ e ∈ msSend act ty slot v s, e.dest ≠ some a := by
  intro e he
  rw [(msSend_stores_nothing e he).1]
  exact (Option.some_ne_none a).symm

/-- A trigger stores to the recorder's registers alone. -/
theorem trigger_dest {src act : Nat} {s : State} : ∀ e ∈ trigger src act s, ∀ b, e.dest = some b → 0x300000 ≤ b := by
  unfold trigger
  split
  · simp
  split
  · simp [Eff.dest, Reg.WRK_TRIG, Reg.WRK_TRIG_TICK, Reg.WRK_STAT]
  split <;> simp [updWrk, Eff.dest]

/-- No ramp runs, so none is finished at a stroke (R205). -/
theorem rampFinish_idle {act : Nat} {s : State} (h : s.bit (Reg.HL_RAMP_CTL act) 1 = false) : rampFinish act s = [] := by
  simp [rampFinish, h]

theorem rampAbort_idle {act : Nat} {s : State} (h : s.bit (Reg.HL_RAMP_CTL act) 1 = false) : rampAbort act s = [] := by
  simp [rampAbort, h]

end Sys2Proof.Machine

/-! LOAD and UNLOAD (R174, R175, R187). -/

namespace Sys2Proof.Machine

/-- The state in which the orders of a written HL_CTL act: the word stored, the heads of GROUP selected (R85). -/
def ctlWritten (act : Nat) (data : Word) (s : State) : State :=
  applyAll s (seqs [plainWrite (Reg.HL_CTL act) data, fun s => selHeads act (groupOf s act) s] s)

/-- Selecting heads changes nothing that an engine's load goes by. -/
theorem selHeads_dyn (act q : Nat) (s : State) : (applyAll s (selHeads act q s)).dyn.hl = s.dyn.hl ∧
    (applyAll s (selHeads act q s)).dyn.rst = s.dyn.rst ∧
    (applyAll s (selHeads act q s)).dyn.keepParked = s.dyn.keepParked := by
  rcases selHeads_cases act q s with h | ⟨o, h⟩ <;> rw [h] <;> exact ⟨rfl, rfl, rfl⟩

theorem reg_HL_CTL_ctlWritten (act : Nat) (data : Word) (s : State) : (ctlWritten act data s).reg (Reg.HL_CTL act) =
    (applyAll s (plainWrite (Reg.HL_CTL act) data s)).reg (Reg.HL_CTL act) := by
  have hregs := (selHeads_frame act (groupOf (applyAll s (plainWrite (Reg.HL_CTL act) data s)) act)
    (applyAll s (plainWrite (Reg.HL_CTL act) data s))).1
  rw [ctlWritten, applyAll_seqs_cons, applyAll_seqs_cons, seqs_nil, applyAll_nil, State.reg, hregs, State.reg]

section CtlWritten
variable {act : Nat} (hact : act < 4) (data : Word) (s : State)
include hact

/-- The write of HL_CTL changes no other register, no memory and nothing that a load goes by. -/
theorem ctlWritten_frame : sameRegsBut (fun a => a = Reg.HL_CTL act) s (ctlWritten act data s) ∧
    sameMem s (ctlWritten act data s) ∧ (ctlWritten act data s).dyn.hl = s.dyn.hl ∧
    (ctlWritten act data s).dyn.rst = s.dyn.rst ∧ (ctlWritten act data s).dyn.keepParked = s.dyn.keepParked := by
  simp only [ctlWritten, applyAll_seqs_cons, seqs_nil, applyAll_nil, plainWrite_unguarded (regDef_HL_CTL hact) rfl]
  obtain ⟨hregs, hmem, hdyn⟩ := frame_of_dest
    (e := .reg (Reg.HL_CTL act) (wrWord _ (hwEnabled s (Reg.HL_CTL act)) (s.reg (Reg.HL_CTL act)) data)) rfl s
  obtain ⟨kregs, kmem, -⟩ := selHeads_frame act (groupOf _ act) (applyAll s _)
  obtain ⟨khl, krst, kkeep⟩ := selHeads_dyn act (groupOf _ act) (applyAll s _)
  exact ⟨fun a ha => (congrArg (regsGet · a) kregs).trans (hregs a ha), sameMem_trans hmem kmem, khl, krst, kkeep⟩

/-- STATE is no field a write changes (Table 6.12). -/
theorem hlState_ctlWritten : hlState (ctlWritten act data s) act = hlState s act :=
  (hlState_congr (reg_HL_CTL_ctlWritten act data s)).trans
    (fld_plainWrite_kept (regDef_HL_CTL hact) rfl (by decide) (by decide) data s)

/-- EN takes the value written. -/
theorem en_ctlWritten : (ctlWritten act data s).bit (Reg.HL_CTL act) 0 = data.bit 0 := by
  unfold State.bit
  rw [reg_HL_CTL_ctlWritten act data s]
  exact bit_plainWrite_rw (regDef_HL_CTL hact) rfl (by decide) (by decide) (by rw [liveMask_HL_CTL hact]; decide) data s

end CtlWritten

/-- Actions in two parts: the second runs from the state the first leaves. -/
theorem applyAll_seqs_append (as bs : List Act) (s : State) : applyAll s (seqs (as ++ bs) s) =
    applyAll (applyAll s (seqs as s)) (seqs bs (applyAll s (seqs as s))) := by
  induction as generalizing s with
  | nil => rfl
  | cons a as ih => rw [List.cons_append, applyAll_seqs_cons, applyAll_seqs_cons, ih]

theorem seqs_skip_left (a : Act) (s : State) : seqs [skip, a] s = a s := by simp [seqs_cons]

theorem seqs_skip_right (a : Act) (s : State) : seqs [a, skip] s = a s := by simp [seqs_cons]

theorem seqs_skip_middle (a b c d : Act) (s : State) : seqs [a, b, skip, skip, c, d] s = seqs [a, b, c, d] s := by
  simp [seqs_cons]

/-- A write of HL_CTL that has COEF_HOLD and EN as they stand can only order a load or an unload. -/
theorem hHlCtl_orders {act : Nat} {data : Word} {s : State} (hhold : data.bit 16 = s.bit (Reg.HL_CTL act) 16)
    (hen : data.bit 0 = s.bit (Reg.HL_CTL act) 0) : applyAll s (hHlCtl act data s) =
      applyAll (ctlWritten act data s) (seqs [if data.bit 9 then startLoad act else skip,
        if data.bit 8 then startUnload act else skip] (ctlWritten act data s)) := by
  simp only [hHlCtl, hhold, hen, Bool.and_not_self, Bool.not_and_self, Bool.false_and, Bool.false_eq_true, if_false]
  exact (congrArg (applyAll s) (seqs_skip_middle _ _ _ _ s)).trans (applyAll_seqs_append [_, _] [_, _] s)

theorem hlLoadWord_bits (s : State) (act : Nat) :
    (hlCtlRw s act ||| 0x200).bit 16 = s.bit (Reg.HL_CTL act) 16 ∧ (hlCtlRw s act ||| 0x200).bit 0 = s.bit (Reg.HL_CTL act) 0 ∧
    (hlCtlRw s act ||| 0x200).bit 9 = true ∧ (hlCtlRw s act ||| 0x200).bit 8 = false := by
  simp [hlCtlRw, Word.bit, State.bit]

theorem hlUnloadWord_bits (s : State) (act : Nat) :
    (hlCtlRw s act ||| 0x100).bit 16 = s.bit (Reg.HL_CTL act) 16 ∧ (hlCtlRw s act ||| 0x100).bit 0 = s.bit (Reg.HL_CTL act) 0 ∧
    (hlCtlRw s act ||| 0x100).bit 9 = false ∧ (hlCtlRw s act ||| 0x100).bit 8 = true := by
  simp [hlCtlRw, Word.bit, State.bit]

/-- What a started load does: the state memory is cleared, the engine is LOADING and its own state starts anew (R174). -/
theorem startLoad_starts {act : Nat} {s : State} (hstate : hlState s act = 0) (hruns : hlRuns s act = true)
    (hfail : s.bit (Reg.HL_FLAGS act) 5 = false) (hkeep : s.dyn.keepParked.contains act = false) :
    ∃ (l : List Nat) (f : HlD → HlD), startLoad act s = l.map (fun a => .reg a 0) ++ [.fld (Reg.HL_CTL act) 14 12 1, updHl act f] := by
  refine ⟨(s.regs.filter (fun p => Reg.HL_STATE_RAM act 0 ≤ p.1 && p.1 < Reg.HL_STATE_RAM act 2048)).map Prod.fst, ?_⟩
  simp only [startLoad, hstate, hruns, hfail, hkeep, List.map_map, decide_true, Bool.not_false, Bool.and_self, if_true]
  exact ⟨_, rfl⟩

/-- After a failure of plausibility, or on an actuator kept parked, none starts (R187, R194). -/
theorem startLoad_refused {act : Nat} {s : State}
    (h : s.bit (Reg.HL_FLAGS act) 5 = true ∨ s.dyn.keepParked.contains act = true) : startLoad act s = [] := by
  rcases h with h | h <;> simp only [startLoad, h, Bool.not_true, Bool.and_false, Bool.false_and, Bool.false_eq_true, if_false]

/-- The engine is UNLOADING and waits for PARKED (R175, R185). -/
def unloadOrdered (act : Nat) (follows : Bool) : List Eff :=
  [.fld (Reg.HL_CTL act) 14 12 3, updHl act (fun h => { h with park := 1, unlNew := follows })]

/-- What a started unload does before it looks at a ramp: the engine is UNLOADING, and a frame says so (R175, R185). -/
def unloading (act : Nat) (s : State) : List Eff :=
  unloadOrdered act (hlState s act == 2) ++ msSend act 2 0 0 (applyAll s (unloadOrdered act (hlState s act == 2)))

theorem unloading_frame {act : Nat} {s : State} :
    ∀ e ∈ unloading act s, (∀ b, e.dest = some b → b = Reg.HL_CTL act) ∧ e.stores = false := by
  refine List.forall_mem_append.2 ⟨by simp [unloadOrdered, updHl, Eff.dest, Eff.stores], fun e he => ?_⟩
  obtain ⟨hdest, hstores⟩ := msSend_stores_nothing e he
  exact ⟨fun b hb => absurd (hdest.symm.trans hb) (Option.some_ne_none b).symm, hstores⟩

theorem hlState_unloading {act : Nat} (hact : act < 4) (s : State) : hlState (applyAll s (unloading act s)) act = 3 := by
  refine hlState_of_stored hact (by decide) ?_ s
  exact List.forall_mem_cons.2 ⟨by simp [updHl, Eff.dest], msSend_dest_ne _⟩

theorem startUnload_starts {act : Nat} {s : State} (hstate : hlState s act = 1 ∨ hlState s act = 2)
    (hramp : s.bit (Reg.HL_RAMP_CTL act) 1 = false) : startUnload act s = unloading act s := by
  have hstates : (decide (hlState s act = 1) || decide (hlState s act = 2)) = true := by simpa using hstate
  have hidle : rampFinish act (applyAll s (unloading act s)) = [] := rampFinish_idle (by
    rw [bit_applyAll_of_dest_ne fun e he hd => ?_, hramp]
    have hctl := (unloading_frame e he).1 _ hd
    unfold Reg.HL_RAMP_CTL Reg.HL_CTL at hctl
    omega)
  rw [unloading, applyAll_append] at hidle
  simp only [startUnload, hstates, if_true, seqs_cons, seqs_nil, List.append_nil]
  exact congrArg (_ ++ ·) ((congrArg (_ ++ ·) hidle).trans (List.append_nil _))

/-! The commands. -/

section Orders
variable {init : Initiator} {act : Fin 4} {s : State} (hacc : accReady s init (Reg.HL_CTL act.val) = true)
include hacc

/-- LOAD acts after the write it is in. -/
theorem exec_hlLoad_ready {u : State} (hu : u = ctlWritten act.val (hlCtlRw s act.val ||| 0x200) s) :
    exec (.hlLoad init act) s = .next (applyAll u (startLoad act.val u)) := by
  obtain ⟨hhold, hen, hload, hunload⟩ := hlLoadWord_bits s act.val
  refine (run_of_effects (wrAccess_ready s init _ _ hacc)).trans (congrArg Host.Outcome.next ?_)
  rw [hHlCtl_orders hhold hen, hload, hunload, if_pos rfl, if_neg Bool.false_ne_true, hu, seqs_skip_right]

/-- UNLOAD acts after the write it is in. -/
theorem exec_hlUnload_ready {u : State} (hu : u = ctlWritten act.val (hlCtlRw s act.val ||| 0x100) s) :
    exec (.hlUnload init act) s = .next (applyAll u (startUnload act.val u)) := by
  obtain ⟨hhold, hen, hload, hunload⟩ := hlUnloadWord_bits s act.val
  refine (run_of_effects (wrAccess_ready s init _ _ hacc)).trans (congrArg Host.Outcome.next ?_)
  rw [hHlCtl_orders hhold hen, hload, hunload, if_neg Bool.false_ne_true, if_pos rfl, hu, seqs_skip_left]

/-- A parked engine that may load is LOADING after LOAD, with the memories as they were (R174). -/
theorem hlLoad_loads (hstate : hlState s act.val = 0) (hen : s.bit (Reg.HL_CTL act.val) 0 = true)
    (hgoes : (s.hl act.val).stopped = false) (hfail : s.bit (Reg.HL_FLAGS act.val) 5 = false)
    (hup : s.up (34 + act.val) = true) (hkeep : s.dyn.keepParked.contains act.val = false) :
    ∃ t, exec (.hlLoad init act) s = .next t ∧ hlState t act.val = 1 ∧ sameMem s t := by
  obtain ⟨u, hu⟩ : ∃ u, u = ctlWritten act.val (hlCtlRw s act.val ||| 0x200) s := ⟨_, rfl⟩
  obtain ⟨hregs, hmem, hhl, hrst, hparked⟩ := ctlWritten_frame act.isLt (hlCtlRw s act.val ||| 0x200) s
  rw [← hu] at hregs hmem hhl hrst hparked
  have hruns : hlRuns u act.val = true := by
    have huen : u.bit (Reg.HL_CTL act.val) 0 = true := by
      rw [hu, en_ctlWritten act.isLt, (hlLoadWord_bits s act.val).2.1, hen]
    have huup : hlUp u act.val = true := by
      rw [← hup, hlUp, State.up, State.up, State.levelUp, State.levelUp, hrst]
    have hugoes : (u.hl act.val).stopped = false := by rw [State.hl, hhl]; exact hgoes
    simp only [hlRuns, huup, huen, hugoes, Bool.not_false, Bool.and_self]
  have hflags : u.reg (Reg.HL_FLAGS act.val) = s.reg (Reg.HL_FLAGS act.val) :=
    hregs _ (by unfold Reg.HL_FLAGS Reg.HL_CTL; omega)
  obtain ⟨l, f, hstart⟩ := startLoad_starts
    (by rw [hu, hlState_ctlWritten act.isLt, hstate]) hruns (by rw [State.bit, hflags]; exact hfail) (by rw [hparked]; exact hkeep)
  refine ⟨_, exec_hlLoad_ready hacc hu, ?_, sameMem_trans hmem (sameMem_applyAll ?_ u)⟩
  · rw [hstart, applyAll_append]
    exact hlState_of_stored act.isLt (by decide) (by simp [updHl, Eff.dest]) _
  · rw [hstart]
    exact List.forall_mem_append.2 ⟨List.forall_mem_map.2 fun _ _ => rfl, by simp [updHl, Eff.stores]⟩

/-- A parked engine that may not load stays PARKED (R187, R194). -/
theorem hlLoad_refused (hstate : hlState s act.val = 0)
    (hno : s.bit (Reg.HL_FLAGS act.val) 5 = true ∨ s.dyn.keepParked.contains act.val = true) :
    ∃ t, exec (.hlLoad init act) s = .next t ∧ hlState t act.val = 0 := by
  obtain ⟨u, hu⟩ : ∃ u, u = ctlWritten act.val (hlCtlRw s act.val ||| 0x200) s := ⟨_, rfl⟩
  obtain ⟨hregs, -, -, -, hparked⟩ := ctlWritten_frame act.isLt (hlCtlRw s act.val ||| 0x200) s
  rw [← hu] at hregs hparked
  have hflags : u.reg (Reg.HL_FLAGS act.val) = s.reg (Reg.HL_FLAGS act.val) :=
    hregs _ (by unfold Reg.HL_FLAGS Reg.HL_CTL; omega)
  have hnone : startLoad act.val u = [] := startLoad_refused (by rw [State.bit, hflags, hparked]; exact hno)
  refine ⟨_, exec_hlLoad_ready hacc hu, ?_⟩
  rw [hnone, applyAll_nil, hu, hlState_ctlWritten act.isLt, hstate]

/-- An engine that is loading or following is UNLOADING after UNLOAD; of the registers HL_CTL alone changes (R175). -/
theorem hlUnload_unloads (hstate : hlState s act.val = 1 ∨ hlState s act.val = 2)
    (hramp : s.bit (Reg.HL_RAMP_CTL act.val) 1 = false) :
    ∃ t, exec (.hlUnload init act) s = .next t ∧ hlState t act.val = 3 ∧ sameMem s t ∧
      sameRegsBut (fun a => a = Reg.HL_CTL act.val) s t := by
  obtain ⟨u, hu⟩ : ∃ u, u = ctlWritten act.val (hlCtlRw s act.val ||| 0x100) s := ⟨_, rfl⟩
  obtain ⟨hregs, hmem, -⟩ := ctlWritten_frame act.isLt (hlCtlRw s act.val ||| 0x100) s
  rw [← hu] at hregs hmem
  have hramps : u.reg (Reg.HL_RAMP_CTL act.val) = s.reg (Reg.HL_RAMP_CTL act.val) :=
    hregs _ (by unfold Reg.HL_RAMP_CTL Reg.HL_CTL; omega)
  have hstart := startUnload_starts (act := act.val) (s := u)
    (by rw [hu, hlState_ctlWritten act.isLt]; exact hstate) (by rw [State.bit, hramps]; exact hramp)
  rw [exec_hlUnload_ready hacc hu, hstart]
  refine ⟨_, rfl, ?_, sameMem_trans hmem (sameMem_applyAll (fun e he => (unloading_frame e he).2) u), fun a ha => ?_⟩
  · exact hlState_unloading act.isLt u
  · exact (sameRegsBut_applyAll (fun e he => (unloading_frame e he).1) u a ha).trans (hregs a ha)

end Orders

end Sys2Proof.Machine

/-! The end of an unload and the failure of an engine (R185). -/

namespace Sys2Proof.Machine

/-- The engine is PARKED, which HL_FLAGS shows, with PARK_UNCONF where no status came (R185). -/
def parkedEffects (act : Nat) (unconf : Bool) : List Eff :=
  [.fld (Reg.HL_CTL act) 14 12 0, updHl act (fun h => { h with park := 0 }),
    .sq (Reg.HL_FLAGS act) (if unconf then flParked ||| flUnconf else flParked)]

theorem parkedEffects_dest {act : Nat} {unconf : Bool} : ∀ e ∈ parkedEffects act unconf,
    ∀ b, e.dest = some b → b = Reg.HL_CTL act ∨ b = Reg.HL_FLAGS act := by
  simp [parkedEffects, updHl, Eff.dest]

theorem enterParked_idle {act : Nat} {s : State} (hramp : s.bit (Reg.HL_RAMP_CTL act) 1 = false) (unconf : Bool) :
    enterParked act unconf s = parkedEffects act unconf := by
  have hidle : rampFinish act (applyAll s (parkedEffects act unconf)) = [] := rampFinish_idle (by
    rw [bit_applyAll_of_dest_ne fun e he hd => ?_, hramp]
    have hplace := parkedEffects_dest e he _ hd
    unfold Reg.HL_RAMP_CTL Reg.HL_CTL Reg.HL_FLAGS at hplace
    omega)
  simp only [enterParked, seqs_cons, seqs_nil, List.append_nil]
  exact (congrArg (_ ++ ·) hidle).trans (List.append_nil _)

/-- An engine that enters PARKED changes no register but HL_CTL and HL_FLAGS and no memory. -/
theorem parkedEffects_parked {act : Nat} (hact : act < 4) (unconf : Bool) {s t : State}
    (ht : t = applyAll s (parkedEffects act unconf)) : hlState t act = 0 ∧ t.bit (Reg.HL_FLAGS act) 7 = true ∧
      (unconf = true → t.bit (Reg.HL_FLAGS act) 9 = true) ∧
      sameRegsBut (fun a => a = Reg.HL_CTL act ∨ a = Reg.HL_FLAGS act) s t ∧ sameMem s t := by
  have hflag {i : Nat} (hi : i < 10) (hbit : (if unconf then flParked ||| flUnconf else flParked).getLsbD i = true) :
      (applyAll s (parkedEffects act unconf)).bit (Reg.HL_FLAGS act) i = true := flag_applyEff_sq hact hi hbit _
  subst ht
  refine ⟨hlState_of_stored hact (by decide) ?_ s, hflag (by decide) ?_, fun hunconf => hflag (by decide) ?_,
    sameRegsBut_applyAll parkedEffects_dest s, sameMem_applyAll (by simp [parkedEffects, updHl, Eff.stores]) s⟩
  · simp [updHl, Eff.dest, Reg.HL_FLAGS, Reg.HL_CTL]
  · cases unconf <;> decide
  · rw [hunconf]
    decide

/-- The engine fails: PLAUS_FAIL and the cause are shown, STATE is FAILED and its microcode stops (R185, steps 1 and 2). -/
def failedEffects (act : Nat) (cause : Word) : List Eff :=
  [.sq (Reg.HL_FLAGS act) flFail, .reg (Reg.HL_FAIL act) cause, .fld (Reg.HL_CTL act) 14 12 4,
    updHl act (fun h => { h with stopped := true, park := 1 })]

theorem failedEffects_dest {act : Nat} {cause : Word} : ∀ e ∈ failedEffects act cause,
    ∀ b, e.dest = some b → b = Reg.HL_FLAGS act ∨ b = Reg.HL_FAIL act ∨ b = Reg.HL_CTL act := by
  simp [failedEffects, updHl, Eff.dest]

/-- Where no ramp runs, what follows in a failure stores to none of the engine's registers: an UNLOAD frame is sent, and the recorder
may trigger (R185, step 3). -/
theorem engFail_fails {act head wedge : Nat} {s : State} (cause : Nat) (hstate : hlState s act ≠ 4)
    (hramp : s.bit (Reg.HL_RAMP_CTL act) 1 = false) : ∃ es, engFail act cause head wedge s =
      failedEffects act (w32 (cause * 2 ^ 28 + head * 2 ^ 22 + wedge * 2 ^ 12)) ++ es ∧
      ∀ e ∈ es, ∀ b, e.dest = some b → 0x300000 ≤ b := by
  obtain ⟨u, hu⟩ : ∃ u, u = applyAll s (failedEffects act (w32 (cause * 2 ^ 28 + head * 2 ^ 22 + wedge * 2 ^ 12))) := ⟨_, rfl⟩
  have hidle : rampAbort act (applyAll u (msSend act 2 0 0 u)) = [] := rampAbort_idle (by
    rw [bit_applyAll_of_dest_ne (msSend_dest_ne _), hu, bit_applyAll_of_dest_ne fun e he hd => ?_, hramp]
    have hplace := failedEffects_dest e he _ hd
    unfold Reg.HL_RAMP_CTL Reg.HL_CTL Reg.HL_FLAGS Reg.HL_FAIL at hplace
    omega)
  refine ⟨msSend act 2 0 0 u ++ trigger 0 act (applyAll u (msSend act 2 0 0 u)), ?_,
    List.forall_mem_append.2 ⟨fun e he b hb => absurd hb (msSend_dest_ne b e he), trigger_dest⟩⟩
  have hsteps : engFail act cause head wedge s =
      seqs [fun _ => failedEffects act (w32 (cause * 2 ^ 28 + head * 2 ^ 22 + wedge * 2 ^ 12)), msSend act 2 0 0, rampAbort act,
        trigger 0 act] s := if_neg hstate
  simp only [hsteps, seqs_cons, seqs_nil, List.append_nil, ← hu, hidle, applyAll_nil, List.nil_append]

/-- A failed engine is FAILED and shows PLAUS_FAIL and its cause. -/
theorem failedEffects_failed {act : Nat} (hact : act < 4) {cause : Word} {es : List Eff}
    (hes : ∀ e ∈ es, ∀ b, e.dest = some b → 0x300000 ≤ b) {s t : State} (ht : t = applyAll s (failedEffects act cause ++ es)) :
    hlState t act = 4 ∧ t.bit (Reg.HL_FLAGS act) 5 = true ∧ t.fld (Reg.HL_FAIL act) 31 28 = cause.fld 31 28 := by
  have hrest {a : Nat} (ha : a < 0x300000) : ∀ e ∈ es, e.dest ≠ some a :=
    fun e he hd => absurd (hes e he a hd) (Nat.not_le.2 ha)
  subst ht
  refine ⟨?_, ?_, ?_⟩
  · exact hlState_of_stored hact (by decide)
      (List.forall_mem_cons.2 ⟨by simp [updHl, Eff.dest], hrest (by unfold Reg.HL_CTL; omega)⟩) _
  · refine (bit_applyAll_of_dest_ne (es := _ :: _ :: _ :: es) ?_ _ 5).trans (flag_applyEff_sq hact (by decide) (by decide) s)
    simpa [updHl, Eff.dest, Reg.HL_FAIL, Reg.HL_CTL, Reg.HL_FLAGS] using hrest (a := Reg.HL_FLAGS act) (by unfold Reg.HL_FLAGS; omega)
  · have hlive : liveMask (Reg.HL_FAIL act) = 0xFFFFF000 := liveMask_of_regDef (regDef_HL_FAIL hact)
    have hkept : ∀ e ∈ .fld (Reg.HL_CTL act) 14 12 4 :: updHl act (fun h => { h with stopped := true, park := 1 }) :: es,
        e.dest ≠ some (Reg.HL_FAIL act) := by
      simpa [updHl, Eff.dest, Reg.HL_FAIL, Reg.HL_CTL] using hrest (a := Reg.HL_FAIL act) (by unfold Reg.HL_FAIL; omega)
    have hshown := fld_applyEff_reg (applyEff s (.sq (Reg.HL_FLAGS act) flFail)) (Reg.HL_FAIL act) 31 28 cause (by decide)
      (by rw [hlive]; decide)
    exact (congrArg (fun w : Word => w.fld 31 28) (reg_applyAll_of_dest_ne hkept _)).trans hshown

end Sys2Proof.Machine

/-! The frames of the voice-coil and microactuator links (R170, R171, R173). -/

namespace Sys2Proof.Machine

section VoiceCoil
variable {act : Fin 4} {value : BitVec 16} {s : State} (hup : hlUp s act.val = true)
  (hlink : s.bit (Reg.HL_CTL act.val) 2 = true)
include hup hlink

theorem exec_vcCurrentFrame_good : exec (.vcCurrentFrame act value true) s = .next (applyAll s [
    updHl act.val (fun h => { h with current := sgn 16 value.toNat, curFresh := true })]) := by
  change execVcCurrentFrame act value true s = _
  simp only [execVcCurrentFrame, run_next, hup, hlink, Bool.not_true, Bool.or_self, Bool.false_eq_true, if_false]

theorem exec_vcCurrentFrame_bad : exec (.vcCurrentFrame act value false) s =
    .next (applyAll s [.cnt (Reg.HL_CRC_CNT act.val) 31 16 1]) := by
  change execVcCurrentFrame act value false s = _
  simp only [execVcCurrentFrame, run_next, hup, hlink, Bool.not_true, Bool.not_false, Bool.or_self, Bool.false_eq_true, if_false,
    if_true]

/-- RETRACTING or FAULT before any UNLOAD fails the engine with cause MPD (R185). -/
theorem exec_vcStatusFrame_mpd (hbad : value.getLsbD 2 = true ∨ value.getLsbD 3 = true)
    (hfirst : (s.hl act.val).sentUnload = false) :
    exec (.vcStatusFrame act value true) s = .next (applyAll s (engFail act.val 6 0 0 s)) := by
  have hstatus : (value.getLsbD 2 || value.getLsbD 3) = true := Bool.or_eq_true _ _ ▸ hbad
  change execVcStatusFrame act value true s = _
  simp only [execVcStatusFrame, run_next, hup, hlink, hstatus, hfirst, Bool.not_true, Bool.not_false, Bool.or_self, Bool.and_self,
    Bool.false_eq_true, if_false, if_true]

/-- PARKED ends an unload (R185). -/
theorem exec_vcStatusFrame_parked (hparked : value.getLsbD 0 = true) (hretract : value.getLsbD 2 = false)
    (hfault : value.getLsbD 3 = false) (hstate : hlState s act.val = 3) (hwaits : (s.hl act.val).park ≠ 0) :
    exec (.vcStatusFrame act value true) s = .next (applyAll s (enterParked act.val false s)) := by
  change execVcStatusFrame act value true s = _
  simp only [execVcStatusFrame, run_next, hup, hlink, hparked, hretract, hfault, hstate, hwaits, ne_eq, not_false_eq_true,
    decide_true, Bool.not_true, Bool.or_self, Bool.true_or, Bool.and_self, Bool.false_and, Bool.false_eq_true, if_false, if_true]

end VoiceCoil

section Microactuators
variable {act : Fin 4} {slot : Fin 16} {value : BitVec 16} {s : State} (hup : hlUp s act.val = true)
  (hlink : s.bit (Reg.HL_CTL act.val) 1 = true)
include hup hlink

theorem exec_msSenseFrame_good : exec (.msSenseFrame act slot value true) s = .next (applyAll s [
    updHl act.val (fun h => { h with sense := setAt h.sense slot.val (sgn 16 value.toNat) })]) := by
  change execMsSenseFrame act slot value true s = _
  simp only [execMsSenseFrame, run_next, hup, hlink, Bool.not_true, Bool.or_self, Bool.false_eq_true, if_false]

theorem exec_msSenseFrame_bad : exec (.msSenseFrame act slot value false) s =
    .next (applyAll s [.cnt (Reg.HL_CRC_CNT act.val) 15 0 1]) := by
  change execMsSenseFrame act slot value false s = _
  simp only [execMsSenseFrame, run_next, hup, hlink, Bool.not_true, Bool.not_false, Bool.or_self, Bool.false_eq_true, if_false,
    if_true]

end Microactuators

/-- A bad frame of either link is counted in its half of HL_CRC_CNT, up to the half's largest value. -/
theorem fld_crcCounted {act hi lo : Nat} (hact : act < 4) (hhi : hi < 32) (s : State) :
    (applyAll s [.cnt (Reg.HL_CRC_CNT act) hi lo 1]).fld (Reg.HL_CRC_CNT act) hi lo =
      min (s.fld (Reg.HL_CRC_CNT act) hi lo + 1) (2 ^ (hi + 1 - lo) - 1) := by
  have hlive : liveMask (Reg.HL_CRC_CNT act) = BitVec.allOnes 32 := liveMask_of_regDef (regDef_HL_CRC_CNT hact)
  exact fld_applyEff_cnt hhi (by rw [hlive, BitVec.allOnes_and]) s 1

section ParkTimeout
variable {act : Fin 4} {s : State} (hup : hlUp s act.val = true) (hstate : hlState s act.val = 4)
include hup hstate

/-- The first time-out of a failed engine has it wait for the second (R185, step 5). -/
theorem exec_parkTimeout_first (hpark : (s.hl act.val).park = 1) : exec (.parkTimeout act) s =
    .next (applyAll s [updHl act.val (fun h => { h with park := 2 })]) := by
  change execParkTimeout act s = _
  simp [execParkTimeout, run_next, hup, hstate, hpark]

/-- The second has it PARKED without the driver's word (R185, step 6). -/
theorem exec_parkTimeout_second (hpark : (s.hl act.val).park = 2) : exec (.parkTimeout act) s =
    .next (applyAll s (enterParked act.val true s)) := by
  change execParkTimeout act s = _
  simp [execParkTimeout, run_next, hup, hstate, hpark]

end ParkTimeout

end Sys2Proof.Machine

/-! Writes of HL_FLAGS (R35, R182, R187). -/

namespace Sys2Proof.Machine

/-- SAT_SRC clears with SAT_OUT, and with nothing else. -/
def satSrcCleared (act : Nat) (s : State) : Act := fun s' =>
  if s.bit (Reg.HL_FLAGS act) 1 && !s'.bit (Reg.HL_FLAGS act) 1 then [.reg (Reg.HL_SAT_SRC act) 0] else []

theorem satSrcCleared_dest {act : Nat} {s s' : State} : ∀ e ∈ satSrcCleared act s s', e.dest = some (Reg.HL_SAT_SRC act) := by
  unfold satSrcCleared
  split <;> simp [Eff.dest]

section FlagsWrite
variable {act : Nat} (hact : act < 4) (data : Word) (s : State)
include hact

/-- A write of HL_FLAGS stores to HL_FLAGS and HL_SAT_SRC alone. -/
theorem hHlFlags_dest : ∀ e ∈ hHlFlags act data s,
    e.dest = some (Reg.HL_FLAGS act) ∨ e.dest = some (Reg.HL_SAT_SRC act) := by
  unfold hHlFlags
  split
  · exact fun e he => absurd he List.not_mem_nil
  · rw [seqs_cons, plainWrite_unguarded (regDef_HL_FLAGS hact) rfl, seqs_cons, seqs_nil, List.append_nil]
    exact List.forall_mem_cons.2 ⟨.inl rfl, fun e he => .inr (satSrcCleared_dest (act := act) (s := s) e he)⟩

/-- A flag after a write that is not ignored. -/
theorem flag_hHlFlags (hwrites : (decide (hlState s act ≠ 0) && data.bit 5 && s.bit (Reg.HL_FLAGS act) 5) = false) {i : Nat}
    (hi : i < 10) : (applyAll s (hHlFlags act data s)).bit (Reg.HL_FLAGS act) i =
      (s.bit (Reg.HL_FLAGS act) i && !(decide (data.fld 31 24 = s.fld (Reg.HL_FLAGS act) 31 24) && data.bit i)) := by
  have hstatus : ∀ j : Fin 10, (0xFF0003FF : Word).getLsbD j.val = true := by decide
  have heffects : hHlFlags act data s = seqs [plainWrite (Reg.HL_FLAGS act) data, satSrcCleared act s] s :=
    if_neg (by rw [hwrites]; exact Bool.false_ne_true)
  have hapart : some (Reg.HL_SAT_SRC act) ≠ some (Reg.HL_FLAGS act) := by simp [Reg.HL_SAT_SRC, Reg.HL_FLAGS]
  rw [heffects, applyAll_seqs_cons, applyAll_seqs_cons, seqs_nil, applyAll_nil,
    bit_applyAll_of_dest_ne fun e he => by rw [satSrcCleared_dest e he]; exact hapart]
  exact bit_plainWrite_sq (regDef_HL_FLAGS hact) rfl (by omega) (hstatus ⟨i, hi⟩) BitVec.getLsbD_zero
    (by rw [liveMask_HL_FLAGS hact]; exact hstatus ⟨i, hi⟩) data s

/-- Unless the engine is PARKED a write leaves PLAUS_FAIL (R187). -/
theorem plausFail_kept (hstate : hlState s act ≠ 0) :
    (applyAll s (hHlFlags act data s)).bit (Reg.HL_FLAGS act) 5 = s.bit (Reg.HL_FLAGS act) 5 := by
  by_cases hclears : (data.bit 5 && s.bit (Reg.HL_FLAGS act) 5) = true
  · have hnone : hHlFlags act data s = [] := if_pos (by rw [Bool.and_assoc, hclears, decide_eq_true hstate, Bool.and_self])
    rw [hnone, applyAll_nil]
  · have hwrites := Bool.eq_false_iff.2 hclears
    rw [flag_hHlFlags hact data s (by rw [Bool.and_assoc, hwrites, Bool.and_false]) (by decide)]
    rcases Bool.and_eq_false_iff.1 hwrites with hdata | hclear
    · rw [hdata, Bool.and_false, Bool.not_false, Bool.and_true]
    · rw [hclear, Bool.false_and]

/-- A parked engine's PLAUS_FAIL clears where it is written as 1 and SEQ matches (R35, R187). -/
theorem plausFail_cleared (hstate : hlState s act = 0) (hseq : data.fld 31 24 = s.fld (Reg.HL_FLAGS act) 31 24)
    (hdata : data.getLsbD 5 = true) : (applyAll s (hHlFlags act data s)).bit (Reg.HL_FLAGS act) 5 = false := by
  have hbit : data.bit 5 = true := hdata
  rw [flag_hHlFlags hact data s (by simp [hstate]) (by decide), decide_eq_true hseq, hbit, Bool.and_self, Bool.not_true,
    Bool.and_false]

end FlagsWrite

/-- Settles O27: a load and an unload act after the write that orders them; a failure and the end of an unload come of the
effects they begin with. -/
theorem headlandStatesAndLinks : Obligations.HeadlandStatesAndLinks := by
  unfold Obligations.HeadlandStatesAndLinks
  constructor
  · intro init act value s
    refine ⟨fun hacc hstate hen hgoes hfail _ hup hkeep => hlLoad_loads hacc hstate hen hgoes hfail hup hkeep,
      hlLoad_refused, hlUnload_unloads, fun hup hlink hparked hretract hfault hstate hwaits hramp => ?_,
      exec_parkTimeout_first, fun hup hstate hpark hramp => ?_⟩
    · obtain ⟨hends, hflag, -, hregs, hmem⟩ := parkedEffects_parked act.isLt false (s := s) rfl
      exact ⟨_, (exec_vcStatusFrame_parked hup hlink hparked hretract hfault hstate hwaits).trans
        (by rw [enterParked_idle hramp]), hends, hflag, hregs, hmem⟩
    · obtain ⟨hends, hflag, hunconf, hregs, hmem⟩ := parkedEffects_parked act.isLt true (s := s) rfl
      exact ⟨_, (exec_parkTimeout_second hup hstate hpark).trans (by rw [enterParked_idle hramp]), hends, hflag, hunconf rfl,
        hregs, hmem⟩
  · intro init act slot value data s
    refine ⟨fun hup hlink => ⟨exec_vcCurrentFrame_good hup hlink, ?_⟩, fun hup hlink => ⟨exec_msSenseFrame_good hup hlink, ?_⟩,
      fun hup hlink hbad hfirst hstate hramp => ?_, fun hacc => ?_⟩
    · exact ⟨_, exec_vcCurrentFrame_bad hup hlink, fld_crcCounted act.isLt (by decide) s,
        fld_applyEff_cnt_other s _ 31 16 1 15 0 (by decide), frame_of_dest rfl s⟩
    · exact ⟨_, exec_msSenseFrame_bad hup hlink, fld_crcCounted act.isLt (by decide) s, frame_of_dest rfl s⟩
    · obtain ⟨es, hfails, hes⟩ := engFail_fails (head := 0) (wedge := 0) 6 hstate hramp
      obtain ⟨hfailed, hflag, hcause⟩ := failedEffects_failed act.isLt hes (s := s) rfl
      exact ⟨_, (exec_vcStatusFrame_mpd hup hlink hbad hfirst).trans (by rw [hfails]), hfailed, hflag, hcause.trans (by decide)⟩
    · have hdest := hHlFlags_dest act.isLt data s
      obtain ⟨hdyn, hmem⟩ := applyAll_of_dest_isSome
        (fun e he => (hdest e he).elim Option.isSome_of_eq_some Option.isSome_of_eq_some) s
      refine ⟨_, run_of_effects (wrAccess_ready s init _ _ hacc), plausFail_kept act.isLt data s,
        plausFail_cleared act.isLt data s, sameRegsBut_applyAll (fun e he b hb => ?_) s, hmem, hdyn⟩
      exact (hdest e he).imp (fun h => Option.some.inj (hb.symm.trans h)) (fun h => Option.some.inj (hb.symm.trans h))

end Sys2Proof.Machine

/-! Tokens (R157, R158, R202). -/

namespace Sys2Proof.Machine

/-- What a token runs, its body told whether it found the queue full (R157). -/
theorem takeToken_eq {act : Nat} {full : Bool} {s : State} (hfull : full = decide (32 ≤ (s.hl act).queue.length))
    (body : Bool → Act) : takeToken act body s = seqs [drainCfg act, fun _ => [nextTok act], body full,
      fun _ => [updHl act (fun h => { h with unlNew := false })]] s := by
  rw [hfull]
  rfl

section Runs
variable {act : Fin 4} {full : Bool} {s : State} (hfull : full = decide (32 ≤ (s.hl act.val).queue.length))
  (hup : hlUp s act.val = true) (hlive : hlReplay s act.val = false)
include hfull hup hlive

theorem exec_curTokenRun_live (tick : Fin 8) (ecc : Option Nat) (rec : Bool) : exec (.curTokenRun act tick ecc rec) s =
    .next (applyAll s (seqs [drainCfg act.val, fun _ => [nextTok act.val],
      fun s => seqs [flushLoop act.val rec, beginLoop act.val tick.val (s.hl act.val).curFresh (s.hl act.val).current,
        curBody act.val tick.val (s.hl act.val).curFresh (s.hl act.val).current (theProg ecc) full] s,
      fun _ => [updHl act.val (fun h => { h with unlNew := false })]] s)) := by
  change execCurTokenRun act tick ecc rec s = _
  simp only [execCurTokenRun, run_next, hup, hlive, Bool.not_true, Bool.or_self, Bool.false_eq_true, if_false, takeToken_eq hfull]

theorem exec_prfTokenRun_live (wedge : BitVec 10) (ecc : Option Nat) : exec (.prfTokenRun act wedge ecc) s =
    .next (applyAll s (seqs [drainCfg act.val, fun _ => [nextTok act.val], prfBody act.val wedge.toNat (theProg ecc) full,
      fun _ => [updHl act.val (fun h => { h with unlNew := false })]] s)) := by
  change execPrfTokenRun act wedge ecc s = _
  simp only [execPrfTokenRun, run_next, hup, hlive, Bool.not_true, Bool.or_self, Bool.false_eq_true, if_false, takeToken_eq hfull]

/-- The pulse of SRV_TRIG before an SRV token changes nothing of the engine, its queue least of all (R489). -/
theorem exec_srvTokenRun_enabled {tok : SrvToken} (hlane : (enabledPos s act.val).contains tok.pos.val = true)
    (ecc : Option Nat) : exec (.srvTokenRun act tok ecc) s =
    .next (applyAll s (seqs [srvPulse act.val, drainCfg act.val, fun _ => [nextTok act.val],
      fun s => srvBody act.val tok (srvBytes (s.hl act.val).tokNo tok) (theProg ecc) full s,
      fun _ => [updHl act.val (fun h => { h with unlNew := false })]] s)) := by
  have hpulsed : full = decide (32 ≤ ((applyAll s (srvPulse act.val s)).hl act.val).queue.length) := hfull
  change execSrvTokenRun act tok ecc s = _
  simp only [execSrvTokenRun, run_next, hup, hlive, hlane, Bool.not_true, Bool.or_self, Bool.false_eq_true, if_false,
    seqs_cons _ _ s, seqs_cons (takeToken _ _), seqs_nil, List.append_nil, takeToken_eq hpulsed]

end Runs

/-- An engine that replays runs no token of its own (R472). -/
theorem exec_tokenRuns_replay {act : Fin 4} {s : State} (hreplay : hlReplay s act.val = true) (tick : Fin 8) (tok : SrvToken)
    (wedge : BitVec 10) (ecc : Option Nat) (rec : Bool) : exec (.curTokenRun act tick ecc rec) s = .next s ∧
      exec (.srvTokenRun act tok ecc) s = .next s ∧ exec (.prfTokenRun act wedge ecc) s = .next s := by
  refine ⟨?_, ?_, ?_⟩
  · change execCurTokenRun act tick ecc rec s = _
    simp only [execCurTokenRun, run_next, hreplay, Bool.or_true, if_true, applyAll_nil]
  · change execSrvTokenRun act tok ecc s = _
    simp only [execSrvTokenRun, run_next, hreplay, Bool.or_true, Bool.true_or, if_true, applyAll_nil]
  · change execPrfTokenRun act wedge ecc s = _
    simp only [execPrfTokenRun, run_next, hreplay, Bool.or_true, if_true, applyAll_nil]

/-- With COEF_HOLD at 1 a running ramp takes no step (R203). -/
theorem rampStep_held {act : Nat} {s : State} (hhold : s.bit (Reg.HL_CTL act) 16 = true) : rampStep act s = [] := by
  simp only [rampStep, hhold, Bool.or_true, if_true]

end Sys2Proof.Machine

/-! The start of a ramp (R202, R206). -/

namespace Sys2Proof.Machine

/-- A ramp begins: BUSY is 1, it stands at its first step, and its entries are the engine's. -/
def rampStarted (act : Nat) (entries : List RampEnt) (steps : Nat) : List Eff :=
  [.fld (Reg.HL_RAMP_CTL act) 1 1 1, .reg (Reg.HL_RAMP_STEP act) 0,
    updHl act (fun h => { h with ramp := entries, rampK := 0, rampN := steps })]

theorem rampStarted_runs {act : Nat} (hact : act < 4) (entries : List RampEnt) (steps : Nat) {s t : State}
    (ht : t = applyAll s (rampStarted act entries steps)) :
    t.bit (Reg.HL_RAMP_CTL act) 1 = true ∧ t.fld (Reg.HL_RAMP_STEP act) 11 0 = 0 := by
  have hctl : liveMask (Reg.HL_RAMP_CTL act) = 0x001FFFF3 := liveMask_of_regDef (regDef_HL_RAMP_CTL hact)
  have hstep : liveMask (Reg.HL_RAMP_STEP act) = 0xFFF := liveMask_of_regDef (regDef_HL_RAMP_STEP hact)
  have hapart : Reg.HL_RAMP_CTL act ≠ Reg.HL_RAMP_STEP act := by unfold Reg.HL_RAMP_CTL Reg.HL_RAMP_STEP; omega
  subst ht
  constructor
  · have hbusy := fld_applyEff_fld s (Reg.HL_RAMP_CTL act) 1 1 1 (by decide) (by rw [hctl]; decide)
    rw [State.bit_eq, rampStarted, applyAll_cons, applyAll_cons, applyAll_cons, applyAll_nil, updHl, fld_upd,
      fld_applyEff_reg_ne _ _ _ _ _ _ hapart, hbusy]
    rfl
  · rw [rampStarted, applyAll_cons, applyAll_cons, applyAll_cons, applyAll_nil, updHl, fld_upd,
      fld_applyEff_reg _ _ _ _ _ (by decide) (by rw [hstep]; decide)]
    rfl

/-- The words a ramp would target come of its own registers. -/
theorem rampEntry_off_congr {s t : State} {act : Nat} (h : sameRegsBut (fun a => a = Reg.HL_RAMP_CTL act) s t) (e : Nat) :
    (rampEntry t act e).off = (rampEntry s act e).off := by
  have haddr : t.reg (Reg.HL_RAMP_ADDR act e) = s.reg (Reg.HL_RAMP_ADDR act e) :=
    h _ (by unfold Reg.HL_RAMP_ADDR Reg.HL_RAMP_CTL; omega)
  simp only [rampEntry, haddr]

/-- GO in FOLLOWING, with no ramp running and every word one that a ramp may target, starts a ramp after the write it is in. -/
theorem hRamp_starts {act : Nat} (hact : act < 4) {data : Word} {s : State} (hgo : data.bit 0 = true)
    (hidle : s.bit (Reg.HL_RAMP_CTL act) 1 = false) (hfollow : hlState s act = 2)
    (hoffs : ((List.range (min 16 (data.fld 20 16))).map (rampEntry s act)).any (fun e => !rampOffOk e.off) = false) :
    ∃ entries, hRamp act data s = plainWrite (Reg.HL_RAMP_CTL act) data s ++
      rampStarted act entries (max 1 (data.fld 15 4)) := by
  obtain ⟨u, hu⟩ : ∃ u, u = applyAll s (plainWrite (Reg.HL_RAMP_CTL act) data s) := ⟨_, rfl⟩
  have hregs : sameRegsBut (fun a => a = Reg.HL_RAMP_CTL act) s u := by
    rw [hu, plainWrite_unguarded (regDef_HL_RAMP_CTL hact) rfl]
    exact (frame_of_dest rfl s).1
  have hstate : hlState u act = 2 :=
    (hlState_congr (hregs _ (by unfold Reg.HL_CTL Reg.HL_RAMP_CTL; omega))).trans hfollow
  have huoffs : ((List.range (min 16 (data.fld 20 16))).map (rampEntry u act)).any (fun e => !rampOffOk e.off) = false := by
    rw [← hoffs]
    simp only [List.any_map, Function.comp_def, rampEntry_off_congr hregs]
  refine ⟨(List.range (min 16 (data.fld 20 16))).map (rampEntry u act), ?_⟩
  have hbusy : (hlState u act != 2) = false := by rw [hstate]; rfl
  simp only [hRamp, hidle, hgo, seqs_cons, seqs_nil, ← hu, huoffs, hbusy, Bool.not_true, Bool.false_eq_true, if_false,
    List.append_nil]
  rfl

/-- Settles O28: a token of a live engine runs what its body says; a ramp starts as the last effects of the write with GO. -/
theorem tokensRun : Obligations.TokensRun := by
  unfold Obligations.TokensRun
  intro init act tick tok wedge ecc rec data full s hfull
  refine ⟨fun hup hlive => exec_curTokenRun_live hfull hup hlive tick ecc rec,
    fun hup hlive hlane => exec_srvTokenRun_enabled hfull hup hlive hlane ecc,
    fun hup hlive => exec_prfTokenRun_live hfull hup hlive wedge ecc,
    fun hreplay => exec_tokenRuns_replay hreplay tick tok wedge ecc rec, rampStep_held,
    fun hacc hidle hfollow hoffs => ?_⟩
  obtain ⟨entries, hstart⟩ := hRamp_starts act.isLt (data := data ||| 1) (by simp [Word.bit]) hidle hfollow hoffs
  rw [plainWrite_unguarded (regDef_HL_RAMP_CTL act.isLt) rfl] at hstart
  obtain ⟨hbusy, hstep⟩ := rampStarted_runs act.isLt entries (max 1 ((data ||| 1).fld 15 4)) rfl
  refine ⟨_, run_of_effects ((wrAccess_ready s init _ _ hacc).trans hstart), hbusy, hstep, sameRegsBut_applyAll ?_ s,
    sameMem_applyAll ?_ s, rfl⟩
  · simp [rampStarted, updHl, Eff.dest]
  · simp [rampStarted, updHl, Eff.stores]

end Sys2Proof.Machine

/-! Calibration runs (R193-R201, R316). -/

namespace Sys2Proof.Machine

/-! The start of a run. -/

section Calibrate
variable {cmd : CmdRef} {c : HCmd} {s : State} (hr : cmdReady s cmd true 0xC0 c = true) (hup : s.up 19 = true)
  (hrun : calRun s = none) (hitems : (c.cdw 10).fld 5 0 ≠ 0)
include hr hup hrun hitems

/-- CALIBRATE starts its run where a set is in force, or where a native run covers every item of every actuator (R194). -/
theorem exec_calibrate_starts (hset : (calCurrent s).isSome = true ∨ ((c.cdw 10).bit 8 = false ∧ (c.cdw 10).fld 5 0 = 0x3F ∧
    ((c.cdw 10).fld 19 16 = 0 ∨ (c.cdw 10).fld 19 16 = 15))) :
    exec (.calibrate cmd) s = .next (applyAll s [updCmd c.no (fun x => { x with work := .cal }),
      .upd (fun y => { y with cal := some {
        no := c.no, items := (c.cdw 10).fld 5 0, compat := (c.cdw 10).bit 8,
        acts := if (c.cdw 10).fld 19 16 = 0 then 15 else (c.cdw 10).fld 19 16 } })]) := by
  refine run_withCmd _ hr ?_
  obtain hset | ⟨hnative, hall, hacts | hacts⟩ := hset
  · simp [hup, hrun, hitems, Option.isSome_iff_ne_none.1 hset]
  · simp [hup, hrun, hnative, hall, hacts]
  · simp [hup, hrun, hnative, hall, hacts]

/-- With no set in force there is nothing a compatibility run could keep (R197). -/
theorem exec_calibrate_compat_first (hset : calCurrent s = none) (hcompat : (c.cdw 10).bit 8 = true) :
    exec (.calibrate cmd) s = .next (applyAll s (finish c (status 0 0x0C) s)) := by
  refine run_withCmd _ hr ?_
  simp [hup, hrun, hitems, hset, hcompat]

end Calibrate

/-! The units of a run. -/

/-- The stripe group a unit is of: KT is measured once for an actuator (R195). -/
def unitGroup (act : Fin 4) (unit : CalUnit) : Nat := if unit.item.val = 1 then 4 * act.val else unit.head.val / 4

/-- The recording zone or segment a unit is of (Table 7.2). -/
def unitPlace (unit : CalUnit) : Nat := if calPlaces unit.item.val = 1 then 0 else unit.unit % calPlaces unit.item.val

/-- The measurement a unit is of. -/
def unitMeas (r : CalRun) (act : Fin 4) (unit : CalUnit) : CalMeas := r.at unit.item.val (unitGroup act unit) (unitPlace unit)

/-- The run has no use for a unit on the actuator, or the actuator no gap for it (R198, R201). -/
def unitRefused (s : State) (r : CalRun) (act : Fin 4) (unit : CalUnit) : Bool :=
  !(bitsOf 6 r.items).contains unit.item.val || !(r.groups unit.item.val).contains (unitGroup act unit) ||
    unitGroup act unit / 4 ≠ act.val || (unitMeas r act unit).done || !hlUp s act.val || !actIdle s act.val || atCritical s

/-- A unit ends: its measurement is now `m`, and its temperature counts towards the run's mean. -/
def unitEnds (act : Fin 4) (unit : CalUnit) (m : CalMeas) : Eff := updCal (fun r => { r with
  meas := m :: r.meas.filter (fun x =>
    !(x.item == unit.item.val && x.group == unitGroup act unit && x.idx == unitPlace unit))
  temp := r.temp + unit.temp, temps := r.temps + 1 })

section Units
variable {act : Fin 4} {unit : CalUnit} {s : State} {r : CalRun} (hrun : calRun s = some r)
include hrun

/-- What a unit of a run does: nothing where it is refused; its measurement goes on until its last unit, which ends it. -/
theorem exec_calMeasureUnit_running : exec (.calMeasureUnit act unit) s = .next (applyAll s (
    if unitRefused s r act unit then [] else [unitEnds act unit (
      if (unitMeas r act unit).units + 1 < calUnits unit.item.val then
        { unitMeas r act unit with units := (unitMeas r act unit).units + 1 }
      else calTake r.compat (unitMeas r act unit) (unit.values.map (calStore s act.val unit.item.val unit.temp)))])) := by
  change execCalMeasureUnit act unit s = _
  simp only [execCalMeasureUnit, run_next, hrun]
  rfl

/-- A unit short of its measurement's end is counted. -/
theorem exec_calMeasureUnit_short (haccept : unitRefused s r act unit = false)
    (hshort : (unitMeas r act unit).units + 1 < calUnits unit.item.val) :
    exec (.calMeasureUnit act unit) s = .next (applyAll s
      [unitEnds act unit { unitMeas r act unit with units := (unitMeas r act unit).units + 1 }]) := by
  rw [exec_calMeasureUnit_running hrun, haccept, if_neg Bool.false_ne_true, if_pos hshort]

theorem exec_calMeasureUnit_critical (hcrit : atCritical s = true) : exec (.calMeasureUnit act unit) s = .next s := by
  have hrefused : unitRefused s r act unit = true := by unfold unitRefused; rw [hcrit, Bool.or_true]
  rw [exec_calMeasureUnit_running hrun, if_pos hrefused, applyAll_nil]

end Units

/-! The commit of a run. -/

/-- A half that reads back right takes force: its COMMIT is written, the other half is erased, and its exclusions and write power
hold from now on (R193, R194, R196). -/
def halfTakesForce (k : Nat) (b : List Byte) : Act :=
  seqs [fun _ => [.nor (calHalf k + 60) (zeros 4)], calErase (1 - k), calExclude b, calAssist b]

/-- The run's command ends with the run's result (R316). -/
def runReported (r : CalRun) (ok : Bool) : Act := fun s =>
  match s.dyn.hq.cmds.find? (fun c => c.no == r.no) with
  | some c => finish c (calCpl r ok) s
  | none => []

section Commit
variable {ok : Bool} {s : State} {r : CalRun} (hrun : calRun s = some r)
include hrun

/-- A run that is not done, or that CRITICAL holds, does not commit. -/
theorem exec_calCommit_held (hheld : r.done = false ∨ atCritical s = true) : exec (.calCommit ok) s = .next s := by
  change execCalCommit ok s = _
  obtain hdone | hcrit := hheld
  · simp [execCalCommit, run_next, hrun, hdone]
  · simp [execCalCommit, run_next, hrun, hcrit]

/-- The first set goes to half 0. -/
theorem exec_calCommit_first (hdone : r.done = true) (hup : s.up 19 = true) (hcrit : atCritical s = false)
    (hset : calCurrent s = none) : exec (.calCommit true) s = .next (applyAll s (seqs [
      calErase 0, fun _ => [.nor (calHalf 0) (calBuild s r none)], halfTakesForce 0 (calBuild s r none),
      fun _ => [.upd (fun d => { d with cal := none })], runReported r true] s)) := by
  change execCalCommit true s = _
  simp only [execCalCommit, run_next, hrun, hdone, hup, hcrit, hset, Bool.not_true, Bool.or_self, Bool.false_eq_true, if_false,
    if_true, Option.map_none]
  rfl

end Commit

/-- Settles O30: a run starts, counts its units and commits by the equations of its commands; what it may not do leaves the
state. -/
theorem calibrationRuns : Obligations.CalibrationRuns := by
  unfold Obligations.CalibrationRuns
  intro cmd act unit ok c s
  refine ⟨exec_calibrate_starts, exec_calibrate_compat_first, rfl, ?shortUnit,
    fun _ hrun hdone => exec_calCommit_held hrun (.inl hdone), ?critical, ?commit⟩
  case shortUnit =>
    rintro r _ _ _ _ hrun rfl rfl rfl rfl hitem hgroup hact hdone hup hidle hcrit hshort
    have haccept : unitRefused s r act unit = false := by
      simp only [unitRefused, unitGroup, unitPlace, unitMeas, hitem, hgroup, hact, hdone, hup, hidle, hcrit, ne_eq,
        not_true_eq_false, decide_false, Bool.not_true, Bool.or_self]
    exact exec_calMeasureUnit_short hrun haccept hshort
  case critical =>
    intro hsome hcrit
    obtain ⟨r, hrun⟩ := Option.ne_none_iff_exists'.1 hsome
    exact ⟨exec_calCommit_held hrun (.inr hcrit), exec_calMeasureUnit_critical hrun hcrit⟩
  case commit =>
    rintro r _ hrun hdone hup hcrit hset rfl
    exact exec_calCommit_first hrun hdone hup hcrit hset

end Sys2Proof.Machine

/-! The recovery ladder (R211-R218). -/

namespace Sys2Proof.Machine

/-! The end of a step. -/

/-- A step that has not recovered the sector is the last one ended, and the ladder goes to the next, or fails (R211). -/
def stepFails (l : Ladder) (k : Nat) : Act :=
  seqs [fun _ => [putLadder { l with step := k }], ladderGo { l with step := k }]

theorem stepEnd_false (l : Ladder) (k : Nat) (s : State) : stepEnd l k false s = stepFails l k s := rfl

/-- A decode of a stored frame that passes R97 ends the ladder with that frame. -/
theorem stepEnd_true_of_infoOk {l : Ladder} {s : State} {info : List Byte} (k : Nat)
    (hstored : storedInfo s l.head l.band l.sector = some info) (hok : infoOk s l.head l.band l.sector info = true) :
    stepEnd l k true s = ladderWin l k info s := by
  simp only [stepEnd, hstored, hok, if_true]

/-- Step 1's mask holds the reference start alone. -/
theorem deepJob_mask_testBit (hyp : Fin 7) : deepJob.mask.testBit hyp.val = true ↔ hyp.val = 0 :=
  Nat.testBit_one_eq_true_iff_self_eq_zero

/-- Step 1 recovers the sector by the reference start alone, in at most 64 iterations, at no start found in the samples (Table 8.2). -/
theorem deepJob_wins_iff (r : DeepRun) :
    deepJob.wins r = true ↔ r.ok = true ∧ r.hyp.val = 0 ∧ 1 ≤ r.iters ∧ r.iters ≤ 64 ∧ r.soft = false := by
  have hlimit : deepJob.maxIter = 64 := rfl
  have hsearch : deepJob.soft = false := rfl
  simp only [LadderJob.wins, Bool.and_eq_true, deepJob_mask_testBit, hlimit, hsearch, Bool.or_false, Bool.not_eq_true',
    decide_eq_true_eq, and_assoc]

/-! Each step of a ladder that runs. -/

section Steps
variable {head : Fin 64} {band sector : Nat} {l : Ladder} {s : State}
  (hladder : ladderOf s head.val band sector = some l) (hready : mediaReady s = true)
include hladder hready

/-- A step whose turn it is runs; one that reads has the actuator (R14). -/
theorem run_ladderStep {k : Nat} {reads : Bool} (go : Ladder → Act) (hnext : nextStep s l = some k)
    (hfree : reads = true → actFree s (head.val / 16) = true) :
    run (ladderStep head band sector k reads go) s = .next (applyAll s (go l s)) := by
  have hact : (!reads || actFree s (head.val / 16)) = true := by
    cases reads with
    | false => rfl
    | true => exact hfree rfl
  apply run_of_effects
  simp only [ladderStep, hladder, hready, hact, hnext, BEq.rfl, Bool.and_self, if_true]

theorem exec_ladderDeep_step (r : DeepRun) (hnext : nextStep s l = some 1) :
    exec (.ladderDeep head band sector r) s = .next (applyAll s (stepEnd l 1 (deepJob.wins r) s)) :=
  run_ladderStep hladder hready _ hnext nofun

theorem exec_ladderReread_step (passes : List SectorOutcome) (hnext : nextStep s l = some 2)
    (hfree : actFree s (head.val / 16) = true) :
    exec (.ladderReread head band sector passes) s = .next (applyAll s (seqs [armedReads head.val sector (optRereads s - 1),
      stepEnd { l with caps := l.caps + ((passes.take (optRereads s)).filter (fun p => p.captured)).length } 2
        ((passes.take (optRereads s)).any (fun p => p.reason == 0))] s)) :=
  run_ladderStep hladder hready _ hnext fun _ => hfree

theorem exec_ladderShift_step (r : DeepRun) (hnext : nextStep s l = some 3) :
    exec (.ladderShift head band sector r) s = .next (applyAll s (stepEnd l 3 ((shiftJob l.caps).wins r) s)) :=
  run_ladderStep hladder hready _ hnext nofun

/-! Step 4 (R215-R217). -/

/-- The places of a sector's run that the rebuild lacks. -/
def sectorGone (s : State) (head band sector : Nat) (lost : List Nat) : List Nat :=
  runGone s head band (sector - sector % 66) (sector % 66) lost

/-- The sector as the rebuild gives it from the rest of its run. -/
def rebuiltSector (s : State) (head band sector : Nat) (lost : List Nat) : List Byte :=
  rebuiltInfo (fun k => runInfo s head band (sector - sector % 66 + k)) (sectorGone s head band sector lost) (sector % 66) head band
    (sector - sector % 66) (sectKind s (zoneOf s head band) sector) (epochOf s (zoneOf s head band))

/-- Step 4 recovers the sector where at most two of its run are lost and what the rebuild gives passes R97. -/
theorem exec_ladderParity_step (lost : List Nat) (crcOk : Bool) (hnext : nextStep s l = some 4)
    (hfree : actFree s (head.val / 16) = true) :
    exec (.ladderParity head band sector lost crcOk) s = .next (applyAll s (
      if 2 < (sectorGone s head.val band sector lost).length || !crcOk then stepFails l 4 s
      else if infoOk s head.val band sector (rebuiltSector s head.val band sector lost) then
        ladderWin l 4 (rebuiltSector s head.val band sector lost) s
      else stepFails l 4 s)) :=
  run_ladderStep hladder hready _ hnext fun _ => hfree

theorem exec_ladderParity_rebuilds {lost : List Nat} (hnext : nextStep s l = some 4) (hfree : actFree s (head.val / 16) = true)
    (hfew : (sectorGone s head.val band sector lost).length ≤ 2)
    (hok : infoOk s head.val band sector (rebuiltSector s head.val band sector lost) = true) :
    exec (.ladderParity head band sector lost true) s = .next (applyAll s
      (ladderWin l 4 (rebuiltSector s head.val band sector lost) s)) := by
  rw [exec_ladderParity_step hladder hready lost true hnext hfree, hok]
  simp [Nat.not_lt.2 hfew]

theorem exec_ladderParity_tooManyLost {lost : List Nat} (hnext : nextStep s l = some 4)
    (hfree : actFree s (head.val / 16) = true) (hmany : 2 < (sectorGone s head.val band sector lost).length) :
    exec (.ladderParity head band sector lost true) s = .next (applyAll s (stepFails l 4 s)) := by
  rw [exec_ladderParity_step hladder hready lost true hnext hfree]
  simp [hmany]

/-! Step 5 (R218). -/

/-- The twin recovers the sector: at line rate, by step 1 or its one reread, or by step 3 on the captures it then has. -/
def twinWins (t : TwinRun) : Bool :=
  let caps := (if t.line.captured then 1 else 0) + (if t.reread.captured then 1 else 0)
  t.line.reason == 0 || (t.line.captured && deepJob.wins t.deep) || t.reread.reason == 0 ||
    (caps ≠ 0 && (shiftJob caps).wins t.shift)

/-- Step 5 waits for the twin actuator and its lane; then the twin's reads end it. -/
theorem exec_ladderTwin_step (t : TwinRun) (hnext : nextStep s l = some 5) :
    exec (.ladderTwin head band sector t) s = .next (applyAll s (
      if !actFree s (twin head.val / 16) || !laneUp s (headLane (twin head.val)) then []
      else seqs [armedReads (twin head.val) sector 0, stepEnd l 5 (twinWins t)] s)) :=
  run_ladderStep hladder hready _ hnext nofun

theorem exec_ladderTwin_lineRate {t : TwinRun} (hnext : nextStep s l = some 5)
    (hfree : actFree s (twin head.val / 16) = true) (hlane : laneUp s (headLane (twin head.val)) = true)
    (hread : t.line.reason = 0) :
    exec (.ladderTwin head band sector t) s =
      .next (applyAll s (seqs [armedReads (twin head.val) sector 0, stepEnd l 5 true] s)) := by
  have hwins : twinWins t = true := by simp [twinWins, hread]
  rw [exec_ladderTwin_step hladder hready t hnext, hfree, hlane, hwins]
  rfl

theorem exec_ladderTwin_waits (t : TwinRun) (hnext : nextStep s l = some 5)
    (hbusy : actFree s (twin head.val / 16) = false) : exec (.ladderTwin head band sector t) s = .next s := by
  rw [exec_ladderTwin_step hladder hready t hnext, hbusy]
  rfl

end Steps

/-- Settles O31: each command runs its step when the step's turn has come, and a step's end recovers the sector or hands it on. -/
theorem ladderSteps : Obligations.LadderSteps := by
  unfold Obligations.LadderSteps
  intro head band sector passes lost r r2 o o2 l info s hladder hready
  refine ⟨fun hstored hok k => ⟨stepEnd_true_of_infoOk k hstored hok, stepEnd_false l k s⟩, deepJob_wins_iff r,
    exec_ladderDeep_step hladder hready r, exec_ladderReread_step hladder hready passes,
    exec_ladderShift_step hladder hready r, exec_ladderTwin_lineRate hladder hready (t := ⟨o, r, o2, r2⟩),
    exec_ladderTwin_waits hladder hready _, ?rebuilds, ?tooManyLost⟩
  case rebuilds =>
    rintro _ _ hnext hfree rfl hfew rfl hok
    exact exec_ladderParity_rebuilds hladder hready hnext hfree hfew hok
  case tooManyLost =>
    rintro _ hnext hfree rfl hmany
    exact exec_ladderParity_tooManyLost hladder hready hnext hfree hmany

end Sys2Proof.Machine

/-! Traffic that arrives: what it counts, and what it leaves (R43, R257, R259). -/

namespace Sys2Proof.Machine

/-- An effect that stores to a register or draws a free value, so that it shows in no other part of the state. -/
def Eff.onlyCounts : Eff → Bool
  | .reg _ _ | .fld _ _ _ _ | .sq _ _ | .cnt _ _ _ _ | .draw => true
  | .dram _ _ | .fill _ _ _ | .wipe | .nor _ _ | .emit _ | .upd _ => false

theorem applyEff_of_onlyCounts {e : Eff} (h : e.onlyCounts = true) (s : State) :
    (applyEff s e).dyn = s.dyn ∧ (applyEff s e).out = s.out ∧ sameMem s (applyEff s e) := by
  cases e with
  | reg | fld | sq | cnt | draw => exact ⟨rfl, rfl, fun _ => rfl, fun _ => rfl⟩
  | _ => exact Bool.noConfusion h

theorem applyAll_of_onlyCounts {es : List Eff} (h : ∀ e ∈ es, e.onlyCounts = true) (s : State) :
    (applyAll s es).dyn = s.dyn ∧ (applyAll s es).out = s.out ∧ sameMem s (applyAll s es) := by
  induction es generalizing s with
  | nil => exact ⟨rfl, rfl, fun _ => rfl, fun _ => rfl⟩
  | cons e es ih =>
    obtain ⟨he, hes⟩ := List.forall_mem_cons.1 h
    obtain ⟨hdyn, hout, hmem⟩ := applyEff_of_onlyCounts he s
    obtain ⟨kdyn, kout, kmem⟩ := ih hes (applyEff s e)
    exact ⟨kdyn.trans hdyn, kout.trans hout, sameMem_trans hmem kmem⟩

/-- A received frame is counted, with the codewords corrected since the last one (log 43). -/
theorem frameIn_eq (port : Nat) (s : State) : frameIn port s =
    [.cnt (Reg.NET_RXF_CNT port) 31 0 1, .draw, .cnt (Reg.NET_FEC_CNT port) 31 0 (s.fresh % 2 ^ 32)] := rfl

/-- Traffic of a link that arrives shows in the counts alone. -/
theorem linkIn_frame (pcie : Bool) (port : Nat) (s : State) : (applyAll s (linkIn pcie port s)).dyn = s.dyn ∧
    (applyAll s (linkIn pcie port s)).out = s.out ∧ sameMem s (applyAll s (linkIn pcie port s)) := by
  refine applyAll_of_onlyCounts ?_ s
  cases pcie with
  | true => simp [linkIn, pciErrs, Eff.onlyCounts]
  | false => simp [linkIn, frameIn_eq, Eff.onlyCounts]

/-- A sequence of two actions comes of what the second does where the first leaves off. -/
theorem seqs_pair_congr {a b c : Act} {s : State} (h : b (applyAll s (a s)) = c (applyAll s (a s))) :
    seqs [a, b] s = seqs [a, c] s := by
  simp [seqs_cons, h]

theorem State.link?_congr {s t : State} (h : t.dyn = s.dyn) (l : Nat) : t.link? l = s.link? l := by
  simp only [State.link?, h]

end Sys2Proof.Machine

/-! Doorbells (R246, R247, R255). -/

namespace Sys2Proof.Machine

/-- A queue has 16 bytes of the space: its tail's doorbell, then its head's (Table 9.2). -/
theorem doorbellOff_split (qid : Nat) (cq : Bool) :
    doorbellOff qid cq / 16 = qid ∧ doorbellOff qid cq % 16 = if cq then 8 else 0 := by
  cases cq <;> simp only [doorbellOff, Bool.false_eq_true, if_false, if_true] <;> omega

/-- The doorbells of a link's queues lie within its space. -/
theorem doorbellOff_lt {pcie : Bool} {qid : Nat} (h : qid < if pcie then 1024 else 64) (cq : Bool) :
    doorbellOff qid cq < if pcie then 0x4000 else 0x400 := by
  have hlt : doorbellOff qid cq < 16 * (if pcie then 1024 else 64) := by
    obtain ⟨hqid, -⟩ := doorbellOff_split qid cq
    omega
  cases pcie <;> exact hlt

/-- Every doorbell stands at its own offset of its link's space (Table 9.2, R255). -/
theorem doorbellAt_doorbellOff {pcie : Bool} {qid : Nat} (h : qid < if pcie then 1024 else 64) (cq : Bool) :
    doorbellAt pcie (doorbellOff qid cq) = some (qid, cq) := by
  obtain ⟨hqid, hhalf⟩ := doorbellOff_split qid cq
  have halign : doorbellOff qid cq % 8 = 0 := by
    split at hhalf <;> omega
  simp [doorbellAt, doorbellOff_lt h, halign, hqid, hhalf]

/-- Doorbells read zero (R246). -/
theorem barWord_doorbellOff {pcie : Bool} {qid : Nat} (h : qid < if pcie then 1024 else 64) (cq : Bool) (s : State) (link : Nat) :
    barWord s link pcie (doorbellOff qid cq) = 0 := by
  cases pcie with
  | false => rfl
  | true =>
    have hlow : doorbellOff qid cq < 0x8000 := Nat.lt_trans (doorbellOff_lt h cq) (by decide)
    simp [barWord, hlow]

/-- What a doorbell takes of a write: the low 16 bits of 4 or 8 bytes (R246). -/
def takesValue (acc : BarAccess) (v : Nat) : Prop :=
  (∃ w : BitVec 64, acc = .write8 w ∧ v = w.toNat % 65536) ∨ (∃ w : BitVec 32, acc = .write4 w ∧ v = w.toNat % 65536)

section Doorbells
variable {link : Fin 512} {qid : Nat} {l : Link} {s : State} (hreach : dbReaches s link.val = true)
  (hl : s.link? link.val = some l) (hqid : qid < if l.pcie then 1024 else 64)
include hreach hl hqid

/-- A write that reaches a doorbell rings it. -/
theorem barAccess_write {acc : BarAccess} {v : Nat} (hacc : takesValue acc v) (cq : Bool) (ring : Nat → Bool → Nat → Act) :
    barAccess link.val (doorbellOff qid cq) acc ring s = seqs [linkIn l.pcie l.port, ring qid cq v] s := by
  obtain ⟨w, rfl, rfl⟩ | ⟨w, rfl, rfl⟩ := hacc <;> simp [barAccess, hreach, hl, doorbellAt_doorbellOff hqid]

theorem barAccess_read (cq : Bool) (ring : Nat → Bool → Nat → Act) :
    barAccess link.val (doorbellOff qid cq) .read ring s =
      seqs [linkIn l.pcie l.port, fun _ => [.emit (.barData link.val (doorbellOff qid cq) 0)]] s := by
  simp [barAccess, hreach, hl, barWord_doorbellOff hqid]

/-- A read answers zero and shows nowhere else but in the counts. -/
theorem exec_doorbell_read (cq : Bool) : ∃ t, exec (.sqTailDoorbell link (doorbellOff qid cq) .read) s = .next t ∧
    (∃ k, t.out = .barData link.val (doorbellOff qid cq) 0 :: k) ∧ sameMem s t ∧ t.dyn = s.dyn := by
  obtain ⟨hdyn, -, hmem⟩ := linkIn_frame l.pcie l.port s
  refine ⟨_, run_of_effects (barAccess_read hreach hl hqid cq _), ?_⟩
  rw [applyAll_seqs_cons]
  exact ⟨⟨_, rfl⟩, hmem, hdyn⟩

/-- A tail doorbell whose effect is known in every state that the arriving write can leave. -/
theorem exec_sqTailDoorbell_rings {acc : BarAccess} {v : Nat} (hacc : takesValue acc v) {act : Act}
    (hring : ∀ t : State, t.link? link.val = some l → sqTail link.val qid v t = act t) :
    exec (.sqTailDoorbell link (doorbellOff qid false) acc) s =
      .next (applyAll s (seqs [linkIn l.pcie l.port, act] s)) := by
  have hthere := (State.link?_congr (linkIn_frame l.pcie l.port s).1 link.val).trans hl
  exact run_of_effects ((barAccess_write hreach hl hqid hacc false _).trans (seqs_pair_congr (hring _ hthere)))

theorem exec_cqHeadDoorbell_rings {acc : BarAccess} {v : Nat} (hacc : takesValue acc v) {act : Act}
    (hring : ∀ t : State, t.link? link.val = some l → cqHead link.val qid v t = act t) :
    exec (.cqHeadDoorbell link (doorbellOff qid true) acc) s =
      .next (applyAll s (seqs [linkIn l.pcie l.port, act] s)) := by
  have hthere := (State.link?_congr (linkIn_frame l.pcie l.port s).1 link.val).trans hl
  exact run_of_effects ((barAccess_write hreach hl hqid hacc true _).trans (seqs_pair_congr (hring _ hthere)))

end Doorbells

section Values
variable {link qid v : Nat} {l : Link} {t : State} (hl : t.link? link = some l)
include hl

theorem sqTail_unknown (hq : l.sqs.find? (fun q => q.qid == qid) = none) : sqTail link qid v t = dbError link 0 t := by
  simp only [sqTail, hl, Option.bind_some, hq]

theorem sqTail_inside {q : SubQ} (hq : l.sqs.find? (fun q => q.qid == qid) = some q) (hv : v < q.size) :
    sqTail link qid v t = [updSq link qid (fun x => { x with tail := v })] := by
  simp only [sqTail, hl, Option.bind_some, hq, if_neg (Nat.not_le.2 hv)]

theorem sqTail_outside {q : SubQ} (hq : l.sqs.find? (fun q => q.qid == qid) = some q) (hv : q.size ≤ v) :
    sqTail link qid v t = dbError link 1 t := by
  simp only [sqTail, hl, Option.bind_some, hq, if_pos hv]

theorem cqHead_unknown (hq : l.cqs.find? (fun q => q.qid == qid) = none) : cqHead link qid v t = dbError link 0 t := by
  simp only [cqHead, hl, Option.bind_some, hq]

/-- A head that does not pass the tail is taken. -/
theorem cqHead_inside {q : CplQ} (hq : l.cqs.find? (fun q => q.qid == qid) = some q) (hv : v < q.size)
    (hbefore : (v + q.size - q.head) % q.size ≤ (q.tail + q.size - q.head) % q.size) :
    cqHead link qid v t = [updCq link qid (fun x => { x with head := v })] := by
  simp only [cqHead, hl, Option.bind_some, hq, decide_eq_false (Nat.not_le.2 hv), decide_eq_false (Nat.not_lt.2 hbefore),
    Bool.or_self, Bool.false_eq_true, if_false]

theorem cqHead_outside {q : CplQ} (hq : l.cqs.find? (fun q => q.qid == qid) = some q) (hv : q.size ≤ v) :
    cqHead link qid v t = dbError link 1 t := by
  simp only [cqHead, hl, Option.bind_some, hq, decide_eq_true hv, Bool.true_or, if_true]

end Values

/-! Fetch, completion and the coalescer (R244, R248, R258, R263). -/

/-- A turn of arbitration that every waiting queue has a slot for (R263). -/
theorem exec_sqFetch_turn {entries : Option (List (List Byte))} {s : State} {k : Nat} {left : List Nat} {l : Link} {q : SubQ}
    (hfetch : mayFetch s = true) (hslots : (waitingSqs s).length = (readySqs s).length)
    (harb : arbitrate s = some (k, left)) (hturn : turnOf s k = some (l, q)) :
    exec (.sqFetch entries) s = .next (applyAll s (seqs [fun _ => [updHq (fun h => { h with
        rr := setAt h.rr k (l.id, q.qid), left := left })], ringReads l q (turnLen s l q),
      each ((entries.getD []).take (turnLen s l q)) (fetchOne l q.qid)] s)) := by
  apply run_of_effects
  rw [hfetch, Bool.not_true, if_neg Bool.false_ne_true, seqs_cons, if_neg (not_not_intro hslots), applyAll_nil, seqs_cons]
  simp only [harb, hturn, List.nil_append, seqs_nil, List.append_nil]

section Completion
variable {cmd : CmdRef} {l : Link} {c : HCmd} {r : Cpl} {q : CplQ} {s : State}
  (hc : s.cmdBy cmd (fun c => c.done.isSome && !c.orphan) = some c) (hl : s.link? cmd.link.val = some l) (hdone : c.done = some r)
  (hq : cqOf l c = some q) (hup : hqUp s = true) (hserves : linkServes s l.id = true) (hturn : mustWait s c = false)
include hc hl hdone hq hup hserves hturn

/-- A completion whose ring is full waits (R244). -/
theorem exec_completionPost_full (hfull : (q.tail + 1) % q.size = q.head) :
    exec (.completionPost cmd) s = .next (applyAll s [.sq Reg.HQE_STAT 4]) := by
  apply run_of_effects
  simp [hc, hl, hdone, hq, hup, hserves, hturn, hfull]

theorem exec_completionPost_room {h : Nat} {b : List Byte}
    (hh : h = ((l.sqs.find? (fun x => x.qid == c.sqid)).map (fun x => x.head)).getD 0) (hb : b = cqeBytes c r h q.phase s.fresh)
    (hroom : (q.tail + 1) % q.size ≠ q.head) (hidle : c.work = .idle) :
    exec (.completionPost cmd) s = .next (applyAll s (seqs [
      linkOut l (.cqe l.id q.qid (q.base + 16 * q.tail) (ringKey l) b), linkFrames l, fun _ => [.draw, .cnt Reg.HQE_CQE_CNT 31 0 1,
        updCq l.id q.qid (fun x => { x with
          tail := (x.tail + 1) % x.size, phase := if x.tail + 1 = x.size then !x.phase else x.phase }), freeSlotOf c.no],
      journal l.id c.sqid c.cid 1 b [], coalesce l.id q.qid, discEnd l.id] s)) := by
  subst hb hh
  apply run_of_effects
  simp only [hc, hl, hdone, hq, hup, hserves, hturn, hroom, hidle, Bool.not_true, Bool.or_self, Bool.false_eq_true, if_false,
    List.append_nil]

end Completion

/-- A Mornis link's timer runs for a completion queue, whose identifier is its key (R258). -/
theorem exec_coalesceTimerExpiry_mornis {link : Fin 512} {cqid : Nat} {l : Link} {s : State} (hl : s.link? link.val = some l)
    (hup : hqUp s = true) (hserves : linkServes s l.id = true) (hmornis : l.pcie = false)
    (hcounts : l.coal.any (fun c => c.key == cqid) = true) :
    exec (.coalesceTimerExpiry link cqid) s = .next (applyAll s (signal l cqid s)) := by
  apply run_of_effects
  simp [hl, hup, hserves, hmornis, hcounts]

/-- Settles O33: a doorbell that is reached takes its value or reports why not; a turn, a completion and a time-out run their
actions. -/
theorem doorbellsAndRings : Obligations.DoorbellsAndRings := by
  unfold Obligations.DoorbellsAndRings
  constructor
  · intro link qid v acc l s hreach hl hqid hacc
    refine ⟨fun q hq => ⟨fun hv => ?_, fun hv => ?_⟩, fun hq => ?_, fun q hq => ⟨fun hv hbefore => ?_, fun hv => ?_⟩, fun hq => ?_,
      ?reads⟩
    · exact exec_sqTailDoorbell_rings hreach hl hqid hacc fun _ ht => sqTail_inside ht hq hv
    · exact exec_sqTailDoorbell_rings hreach hl hqid hacc fun _ ht => sqTail_outside ht hq hv
    · exact exec_sqTailDoorbell_rings hreach hl hqid hacc fun _ ht => sqTail_unknown ht hq
    · exact exec_cqHeadDoorbell_rings hreach hl hqid hacc fun _ ht => cqHead_inside ht hq hv hbefore
    · exact exec_cqHeadDoorbell_rings hreach hl hqid hacc fun _ ht => cqHead_outside ht hq hv
    · exact exec_cqHeadDoorbell_rings hreach hl hqid hacc fun _ ht => cqHead_unknown ht hq
    case reads => exact exec_doorbell_read hreach hl hqid
  · intro cmd link entries l s
    refine ⟨fun _ _ _ hfetch hslots harb hturn => exec_sqFetch_turn hfetch hslots harb hturn, ?posts,
      fun _ hl hup hserves hmornis hcounts => exec_coalesceTimerExpiry_mornis hl hup hserves hmornis hcounts⟩
    intro c r q h b hc hl hdone hq hup hserves hturn hh hb
    exact ⟨exec_completionPost_full hc hl hdone hq hup hserves hturn,
      exec_completionPost_room hc hl hdone hq hup hserves hturn hh hb⟩

end Sys2Proof.Machine

/-! Controllers and the ports of the PCIe functions (R249, R270, R303, R304). -/

namespace Sys2Proof.Machine

section Controller
variable {fn : Nat} {data : Word} {s : State}

/-- CC.EN from 0 to 1, with no shutdown asked for, enables the controller (R270). -/
theorem hCc_enables (hset : data.bit 0 = true) (hoff : (s.reg (Reg.CC fn)).bit 0 = false) (hshn : data.fld 15 14 = 0) :
    hCc fn data s = seqs [plainWrite (Reg.CC fn) data, ccEnable fn data, skip] s := by
  simp [hCc, hset, hoff, hshn]

/-- CC.EN from 1 to 0 makes the controller's reset due (R303). -/
theorem hCc_resets (hclear : data.bit 0 = false) (hon : (s.reg (Reg.CC fn)).bit 0 = true) (hshn : data.fld 15 14 = 0)
    (hlink : (s.link? fn).isSome = true) :
    hCc fn data s = seqs [plainWrite (Reg.CC fn) data, fun _ => [updLink fn (fun l => { l with resetDue := true })]] s := by
  simp [hCc, hclear, hon, hshn, hlink, seqs_cons]

/-- With CC.EN as it was, a new CC.SHN of 01b or 10b starts a shutdown (R304). -/
theorem hCc_shutsDown (hen : data.bit 0 = (s.reg (Reg.CC fn)).bit 0) (hshn : data.fld 15 14 = 1 ∨ data.fld 15 14 = 2)
    (hnew : data.fld 15 14 ≠ (s.reg (Reg.CC fn)).fld 15 14) :
    hCc fn data s = seqs [plainWrite (Reg.CC fn) data, shutdown fn] s := by
  have hasked : (decide (data.fld 15 14 = 1) || decide (data.fld 15 14 = 2)) = true := by simpa using hshn
  simp [hCc, hen, hasked, hnew, seqs_cons]

end Controller

theorem exec_controllerReset_pcie {link : Fin 512} {k : Link} {s : State} (hup : hqUp s = true)
    (hl : s.link? link.val = some k) (hdue : k.resetDue = true) (hpcie : k.pcie = true) :
    exec (.controllerReset link) s = .next (applyAll s (seqs [dropCmds false link.val, fun _ => [
      updHq (fun h => { h with links := h.links.filter (fun x => x.id != link.val) }), .fld (Reg.CC link.val) 0 0 0,
      .reg (Reg.CSTS link.val) 0]] s)) := by
  apply run_of_effects
  simp only [ctrlReset, hup, hl, hdue, hpcie, Option.any_some, Bool.and_self, if_true]

/-- A link down of a function that exists (R249). -/
theorem linkDown_existing {port : Nat} {s : State} (hfn : pcieFn s port = true) (hup : hqUp s = true) :
    linkDown port s = seqs [fun _ => [.sq Reg.PCI_STAT 2, .fld Reg.PCI_STAT (4 + port) (4 + port) 0] ++
      (if port = 0 then [.fld Reg.PCI_STAT 11 6 0] else []), portReset port 3] s := by
  simp only [linkDown, hfn, hup, Bool.not_true, Bool.or_self, Bool.false_eq_true, if_false]

theorem exec_pcieHotReset_existing {port : Fin 2} {s : State} (hfn : pcieFn s port.val = true) (hup : hqUp s = true)
    (hbeached : s.dyn.rst.beached = false) : exec (.pcieHotReset port) s =
      .next (applyAll s (seqs [fun _ => [.sq Reg.PCI_STAT 1], portReset port.val 1] s)) := by
  apply run_of_effects
  simp [hfn, hup, hbeached, seqs_cons]

/-- Settles O34: a write of CC runs what the change of its bits asks for; a reset and a port's events run their actions. -/
theorem controllerControl : Obligations.ControllerControl := by
  unfold Obligations.ControllerControl
  intro init fn port link data k s
  refine ⟨?enables, ?resets, ?shutsDown, exec_controllerReset_pcie, exec_pcieHotReset_existing,
    fun hfn hup => run_of_effects (linkDown_existing hfn hup), fun hfn hup => run_of_effects (linkDown_existing hfn hup)⟩
  case enables =>
    intro hacc hset hoff hshn
    exact run_of_effects ((wrAccess_ready s init _ _ hacc).trans (hCc_enables hset hoff hshn))
  case resets =>
    intro hacc hclear hon hshn hlink
    exact run_of_effects ((wrAccess_ready s init _ _ hacc).trans (hCc_resets hclear hon hshn hlink))
  case shutsDown =>
    intro hacc hen hshn hnew
    exact run_of_effects ((wrAccess_ready s init _ _ hacc).trans (hCc_shutsDown hen hshn hnew))

end Sys2Proof.Machine

/-! Ethernet ports: their registers, frames and links (R259, R261, R269). -/

namespace Sys2Proof.Machine

theorem liveMask_NET_STAT : ∀ port : Fin 2, liveMask (Reg.NET_STAT port.val) = 0xFF008007 := by decide

theorem liveMask_NET_DROP_CNT : ∀ port : Fin 2, liveMask (Reg.NET_DROP_CNT port.val) = BitVec.allOnes 32 := by decide

/-- An event leaves the status bits that it does not name (R34). -/
theorem bit_applyEff_sq_kept {a i : Nat} (hi : i < 24) {bits : Word} (hout : bits.getLsbD i = false) (s : State) :
    (applyEff s (.sq a bits)).bit a i = s.bit a i := by
  unfold State.bit Word.bit
  rw [applyEff_sq, State.reg_hwReg, if_pos rfl, merge_getLsbD, bit_sqEvent _ _ _ hi, hout, Bool.or_false, ite_self]

/-- A field of one bit that hardware stores. -/
theorem bit_applyEff_fld {a i v : Nat} (hi : i < 32) (hlive : liveMask a &&& fldMask i i = fldMask i i) (s : State) :
    (applyEff s (.fld a i i v)).bit a i = (v % 2 == 1) := by
  have hwidth : i + 1 - i = 1 := Nat.add_sub_cancel_left i 1
  simp only [State.bit_eq, fld_applyEff_fld s a i i v hi hlive, hwidth, Nat.pow_one]

/-- A frame that is lost counts as received and as dropped (R259). -/
theorem frameLost_eq (port : Nat) (s : State) : frameLost port s = [.cnt (Reg.NET_RXF_CNT port) 31 0 1, .draw,
    .cnt (Reg.NET_FEC_CNT port) 31 0 (s.fresh % 2 ^ 32), .cnt (Reg.NET_DROP_CNT port) 31 0 1] := rfl

/-- What comes before the count of a frame dropped: the draw that says whether FEC corrected it, and the counts of its receipt. -/
def dropCounts (port : Nat) (s : State) : List Eff :=
  let flag : List Eff := if s.fresh % 2 == 1 then [.sq (Reg.NET_STAT port) 4] else []
  .draw :: flag ++ frameIn port (applyAll s (.draw :: flag))

theorem dropCounts_cases {port : Nat} {s : State} {e : Eff} (h : e ∈ dropCounts port s) :
    e = .draw ∨ e = .sq (Reg.NET_STAT port) 4 ∨ e = .cnt (Reg.NET_RXF_CNT port) 31 0 1 ∨
      ∃ n, e = .cnt (Reg.NET_FEC_CNT port) 31 0 n := by
  simp only [dropCounts, frameIn_eq, List.cons_append, List.mem_cons, List.mem_append, List.not_mem_nil, or_false] at h
  obtain rfl | hflag | rfl | rfl | rfl := h
  · exact .inl rfl
  · split at hflag
    · exact .inr (.inl (List.mem_singleton.1 hflag))
    · exact absurd hflag List.not_mem_nil
  · exact .inr (.inr (.inl rfl))
  · exact .inl rfl
  · exact .inr (.inr (.inr ⟨_, rfl⟩))

theorem dropCounts_onlyCounts {port : Nat} {s : State} : ∀ e ∈ dropCounts port s, e.onlyCounts = true := by
  intro e he
  obtain rfl | rfl | rfl | ⟨n, rfl⟩ := dropCounts_cases he <;> rfl

theorem dropCounts_dest {port : Nat} {s : State} : ∀ e ∈ dropCounts port s, ∀ a, e.dest = some a →
    a = Reg.NET_RXF_CNT port ∨ a = Reg.NET_FEC_CNT port ∨ a = Reg.NET_STAT port := by
  intro e he a ha
  obtain rfl | rfl | rfl | ⟨n, rfl⟩ := dropCounts_cases he
  · exact absurd ha (Option.some_ne_none a).symm
  · exact .inr (.inr (Option.some.inj ha).symm)
  · exact .inl (Option.some.inj ha).symm
  · exact .inr (.inl (Option.some.inj ha).symm)

/-- The count of frames dropped is none of them. -/
theorem dropCounts_dest_ne {port : Nat} {s : State} : ∀ e ∈ dropCounts port s, e.dest ≠ some (Reg.NET_DROP_CNT port) := by
  intro e he ha
  have hdest := dropCounts_dest e he _ ha
  unfold Reg.NET_RXF_CNT Reg.NET_FEC_CNT Reg.NET_STAT Reg.NET_DROP_CNT at hdest
  omega

/-- A change of an Ethernet link shows in NET_STAT: LINK holds the new state, and the event sets its bit (R269). -/
theorem linkChange_shows (port : Fin 2) {v i : Nat} (hi : i < 3) {bits : Word} (hevent : bits.getLsbD i = true)
    (hlink : bits.getLsbD 15 = false) {s t : State}
    (ht : t = applyAll s [.fld (Reg.NET_STAT port.val) 15 15 v, .sq (Reg.NET_STAT port.val) bits]) :
    t.bit (Reg.NET_STAT port.val) 15 = (v % 2 == 1) ∧ t.bit (Reg.NET_STAT port.val) i = true ∧
      sameRegsBut (fun a => a = Reg.NET_STAT port.val) s t ∧ sameMem s t ∧ t.dyn = s.dyn := by
  subst ht
  have hlive : ∀ j : Fin 3, (0xFF008007 : Word).getLsbD j.val = true := by decide
  obtain ⟨hregs₁, hmem₁, hdyn₁⟩ := frame_of_dest (e := .fld (Reg.NET_STAT port.val) 15 15 v) rfl s
  obtain ⟨hregs₂, hmem₂, hdyn₂⟩ := frame_of_dest (e := .sq (Reg.NET_STAT port.val) bits) rfl
    (applyEff s (.fld (Reg.NET_STAT port.val) 15 15 v))
  refine ⟨?_, bit_applyEff_sq (by omega) (by rw [liveMask_NET_STAT]; exact hlive ⟨i, hi⟩) hevent _,
    fun a ha => (hregs₂ a ha).trans (hregs₁ a ha), sameMem_trans hmem₁ hmem₂, hdyn₂.trans hdyn₁⟩
  exact (bit_applyEff_sq_kept (by decide) hlink _).trans
    (bit_applyEff_fld (by decide) (by rw [liveMask_NET_STAT]; decide) s)

section Port
variable {port : Fin 2} {s : State} (hon : portOn s port.val = true)
include hon

/-- A frame that is none of Table 9.5 is dropped, whether or not FEC could correct it. -/
theorem exec_frameDrop_uncarried {frame : List Byte} (hnone : carried s port.val frame = false) :
    exec (.frameDrop port frame) s =
      .next (applyAll s (dropCounts port.val s ++ [.cnt (Reg.NET_DROP_CNT port.val) 31 0 1])) := by
  apply run_of_effects
  simp [hon, hnone, seqs_cons, dropCounts, frameLost_eq, frameIn_eq]

theorem exec_frameDrop_counts {frame : List Byte} (hnone : carried s port.val frame = false) :
    ∃ t, exec (.frameDrop port frame) s = .next t ∧
      t.fld (Reg.NET_DROP_CNT port.val) 31 0 = min (s.fld (Reg.NET_DROP_CNT port.val) 31 0 + 1) 0xFFFFFFFF ∧
      sameRegsBut (fun a => a = Reg.NET_RXF_CNT port.val ∨ a = Reg.NET_DROP_CNT port.val ∨ a = Reg.NET_FEC_CNT port.val ∨
        a = Reg.NET_STAT port.val) s t ∧ sameMem s t ∧ t.dyn = s.dyn ∧ t.out = s.out := by
  have hcounts : ∀ e ∈ dropCounts port.val s ++ [.cnt (Reg.NET_DROP_CNT port.val) 31 0 1], e.onlyCounts = true :=
    List.forall_mem_append.2 ⟨dropCounts_onlyCounts, List.forall_mem_singleton.2 rfl⟩
  obtain ⟨hdyn, hout, hmem⟩ := applyAll_of_onlyCounts hcounts s
  refine ⟨_, exec_frameDrop_uncarried hon hnone, ?count, sameRegsBut_applyAll ?dests s, hmem, hdyn, hout⟩
  case count =>
    rw [applyAll_append, applyAll_cons, applyAll_nil,
      fld_applyEff_cnt (by decide) (by rw [liveMask_NET_DROP_CNT]; decide)]
    exact congrArg (fun w : Word => min (w.fld 31 0 + 1) 0xFFFFFFFF) (reg_applyAll_of_dest_ne dropCounts_dest_ne s)
  case dests =>
    refine List.forall_mem_append.2 ⟨fun e he a ha => ?_, List.forall_mem_singleton.2 fun a ha => ?_⟩
    · obtain hrxf | hfec | hstat := dropCounts_dest e he a ha
      · exact .inl hrxf
      · exact .inr (.inr (.inl hfec))
      · exact .inr (.inr (.inr hstat))
    · exact .inr (.inl (Option.some.inj ha).symm)

theorem exec_ethLinkUp_granted (hdown : s.bit (Reg.NET_STAT port.val) 15 = false)
    (hgrants : (ethLanes s port.val).all (fun i => hasGrant s 3 i) = true) : exec (.ethLinkUp port) s =
      .next (applyAll s [.fld (Reg.NET_STAT port.val) 15 15 1, .sq (Reg.NET_STAT port.val) 1]) := by
  apply run_of_effects
  simp only [hon, hdown, hgrants, Bool.not_false, Bool.and_self, if_true]

theorem exec_ethLinkDown_up (hlink : s.bit (Reg.NET_STAT port.val) 15 = true) : exec (.ethLinkDown port) s =
    .next (applyAll s [.fld (Reg.NET_STAT port.val) 15 15 0, .sq (Reg.NET_STAT port.val) 2]) := by
  have hup : hqUp s = true := by
    simp only [portOn, Bool.and_eq_true] at hon
    exact hon.1.1
  apply run_of_effects
  simp only [hup, hlink, Bool.and_self, if_true]

theorem exec_pfcPauseSend_lossless (hpfc : s.bit Reg.NET_QOS 0 = true) (hidle : s.dyn.hq.pausing.getD port.val false = false) :
    exec (.pfcPauseSend port) s = .next (applyAll s [.emit (.pfc port.val (s.fld Reg.NET_QOS 26 24) true), frameOut port.val,
      updHq (fun h => { h with pausing := setAt h.pausing port.val true })]) := by
  apply run_of_effects
  simp only [hon, hpfc, hidle, Bool.not_false, Bool.and_self, if_true]

theorem exec_pfcPauseRelease_pausing (hpausing : s.dyn.hq.pausing.getD port.val false = true) :
    exec (.pfcPauseRelease port) s = .next (applyAll s [.emit (.pfc port.val (s.fld Reg.NET_QOS 26 24) false), frameOut port.val,
      updHq (fun h => { h with pausing := setAt h.pausing port.val false })]) := by
  apply run_of_effects
  simp only [hon, hpausing, Bool.and_self, if_true]

theorem exec_pfcFrameReceive_on (prios : BitVec 8) (pause : Bool) {p : Nat}
    (hp : p = Nat.land prios.toNat (s.fld Reg.NET_QOS 15 8)) :
    exec (.pfcFrameReceive port prios pause) s = .next (applyAll s (seqs [frameIn port.val, fun _ => [.cnt Reg.NET_PFC_CNT 31 0 1,
      updHq (fun h => { h with paused := modAt h.paused port.val (fun x =>
        if pause then Nat.lor x p else Nat.land x (255 - p)) })], netRelease port.val] s)) := by
  subst hp
  apply run_of_effects
  rw [hon]
  rfl

variable {kind : Fin 4} {addr : BitVec 128} {frame : List Byte}

theorem exec_neighbourAnswer_foreign (haddr : hasAddr s port.val addr.toNat = false) :
    exec (.neighbourAnswer port kind addr frame) s = .next (applyAll s (frameLost port.val s)) := by
  apply run_of_effects
  simp [hon, haddr]

/-- An echo carries the request's own bytes (R259). -/
theorem exec_neighbourAnswer_echo (haddr : hasAddr s port.val addr.toNat = true) (hecho : kind.val ≥ 2) :
    exec (.neighbourAnswer port kind addr frame) s = .next (applyAll s (seqs [frameIn port.val,
      fun _ => [.emit (.answer port.val kind.val addr.toNat frame), frameOut port.val]] s)) := by
  apply run_of_effects
  simp [hon, haddr, Nat.not_lt.2 hecho]

end Port

/-- Settles O36: a frame of an enabled port runs its action; one that is dropped, and a change of the link, show in the port's
registers alone. -/
theorem networkFrames : Obligations.NetworkFrames := by
  unfold Obligations.NetworkFrames
  intro port prios pause kind addr frame s hon
  refine ⟨exec_pfcPauseSend_lossless hon, exec_pfcPauseRelease_pausing hon, fun _ => exec_pfcFrameReceive_on hon prios pause,
    exec_neighbourAnswer_foreign hon, exec_neighbourAnswer_echo hon, exec_frameDrop_counts hon, ?comesUp, ?goesDown⟩
  case comesUp =>
    intro hdown hgrants
    exact ⟨_, exec_ethLinkUp_granted hon hdown hgrants,
      linkChange_shows port (v := 1) (i := 0) (bits := 1) (by decide) (by decide) (by decide) rfl⟩
  case goesDown =>
    intro hlink
    exact ⟨_, exec_ethLinkDown_up hon hlink,
      linkChange_shows port (v := 0) (i := 1) (bits := 2) (by decide) (by decide) (by decide) rfl⟩

end Sys2Proof.Machine

/-! What a received frame leaves of the registers, and actions that leave the microsecond counter. -/

namespace Sys2Proof.Machine

/-- A received frame changes none of the registers below the counts of a port, in any port's window (Table 9.10). -/
theorem reg_frameIn {a : Nat} (h : a % 0x100 < 0x70) (port : Nat) (s : State) : (applyAll s (frameIn port s)).reg a = s.reg a := by
  refine reg_applyAll_of_dest_ne (fun e he => ?_) s
  have hapart : Reg.NET_RXF_CNT port ≠ a ∧ Reg.NET_FEC_CNT port ≠ a := by
    unfold Reg.NET_RXF_CNT Reg.NET_FEC_CNT
    omega
  simp only [frameIn_eq, List.mem_cons, List.not_mem_nil, or_false] at he
  obtain rfl | rfl | rfl := he <;> simp [Eff.dest, hapart]

theorem dyn_frameIn (port : Nat) (s : State) : (applyAll s (frameIn port s)).dyn = s.dyn := (linkIn_frame false port s).1

/-- An action that leaves the microsecond counter of AON. -/
def keepsClock (a : Act) : Prop := ∀ s : State, (applyAll s (a s)).dyn.us = s.dyn.us

theorem keepsClock_seqs {as : List Act} (h : ∀ a ∈ as, keepsClock a) : keepsClock (seqs as) := by
  induction as with
  | nil => exact fun _ => rfl
  | cons a as ih =>
    obtain ⟨ha, has⟩ := List.forall_mem_cons.1 h
    intro s
    rw [applyAll_seqs_cons]
    exact (ih has _).trans (ha s)

theorem keepsClock_each {α : Type} {l : List α} {g : α → Act} (h : ∀ x, keepsClock (g x)) : keepsClock (each l g) := by
  refine keepsClock_seqs fun a ha => ?_
  obtain ⟨x, -, rfl⟩ := List.mem_map.1 ha
  exact h x

theorem keepsClock_netRelease (port : Nat) : keepsClock (netRelease port) := by
  intro s
  unfold netRelease
  split
  · rfl
  · refine keepsClock_seqs ?_ s
    simp only [List.forall_mem_cons, List.not_mem_nil, false_implies, implies_true, and_true]
    exact ⟨keepsClock_each fun _ _ => rfl, fun _ => rfl⟩

/-- What a link sends takes no time of its own (log 2). -/
theorem keepsClock_linkOut (k : Link) (o : Output) : keepsClock (linkOut k o) := by
  unfold linkOut netSend
  split
  · exact fun _ => rfl
  · refine keepsClock_seqs ?_
    simp only [List.forall_mem_cons, List.not_mem_nil, false_implies, implies_true, and_true]
    refine ⟨keepsClock_netRelease k.port, fun s => ?_⟩
    simp only
    split <;> rfl

end Sys2Proof.Machine

/-! Mornis links: connecting (R250). -/

namespace Sys2Proof.Machine

/-- What a new CONNECT is answered with: REJECT with the status of its first failing check, or ACCEPT (Table 9.4, log 42). -/
def connectAnswer (s : State) (msg : ConnectMsg) : Act :=
  if msg.version ≠ 1 then reject msg 2
  else if connectOk msg = false then reject msg 3
  else (freeLinkNo s).elim (reject msg 1) (fun l => if 4096 ≤ pairsUsed s then reject msg 4 else accept msg l)

theorem mornisLinks_congr {s t : State} (h : t.dyn = s.dyn) : mornisLinks t = mornisLinks s := by
  rw [mornisLinks, h, mornisLinks]

theorem pairsUsed_congr {s t : State} (h : t.dyn = s.dyn) : pairsUsed t = pairsUsed s := by
  rw [pairsUsed, h, pairsUsed]

theorem pcieFn_congr {s t : State} (h : t.reg Reg.PCI_CTL = s.reg Reg.PCI_CTL) (f : Nat) : pcieFn t f = pcieFn s f := by
  have hfns : t.fld Reg.PCI_CTL 1 0 = s.fld Reg.PCI_CTL 1 0 := congrArg (fun w : Word => w.fld 1 0) h
  simp only [pcieFn, hfns]

/-- Which link is free comes of the links and commands, and of the fields that limit them. -/
theorem freeLinkNo_congr {s t : State} (hdyn : t.dyn = s.dyn) (hlinks : t.reg Reg.NET_MCTL = s.reg Reg.NET_MCTL)
    (hfns : t.reg Reg.PCI_CTL = s.reg Reg.PCI_CTL) : freeLinkNo t = freeLinkNo s := by
  have hmax : t.fld Reg.NET_MCTL 9 0 = s.fld Reg.NET_MCTL 9 0 := congrArg (fun w : Word => w.fld 9 0) hlinks
  simp only [freeLinkNo, hmax, mornisLinks_congr hdyn, pcieFn_congr hfns, State.link?_congr hdyn, hdyn]

section Connect
variable {msg : ConnectMsg} {s : State} (hup : hqUp s = true) (hnet : s.bit (Reg.NET_CTL msg.port.val) 0 = true)
include hup hnet

/-- A CONNECT with another tag, or to no address of the port, is lost (R259, R260). -/
theorem exec_connect_foreign (hforeign : tagOk s msg.port.val (msg.vlan.map (fun v => v.toNat)) = false ∨
      hasAddr s msg.port.val msg.dstAddr.toNat = false) :
    exec (.connect msg) s = .next (applyAll s (frameLost msg.port.val s)) := by
  have hlost : (!tagOk s msg.port.val (msg.vlan.map (fun v => v.toNat)) || !hasAddr s msg.port.val msg.dstAddr.toNat) = true := by
    simpa using hforeign
  apply run_of_effects
  simp only [hup, hnet, hlost, Bool.not_true, Bool.or_self, Bool.false_eq_true, if_false, if_true]

variable (htag : tagOk s msg.port.val (msg.vlan.map (fun v => v.toNat)) = true)
  (haddr : hasAddr s msg.port.val msg.dstAddr.toNat = true)
  (hnew : (mornisLinks s).find? (fun l => l.st == 1 && l.src == msg.srcAddr && l.udp == msg.srcPort.toNat &&
    l.nonce == msg.nonce.toNat) = none)
include htag haddr hnew

/-- The frame that brings a new CONNECT changes nothing that its checks look at. -/
theorem exec_connect_new {act : Act} (hact : connectAnswer s msg = act) :
    exec (.connect msg) s = .next (applyAll s (seqs [frameIn msg.port.val, act] s)) := by
  subst hact
  have hdyn := dyn_frameIn msg.port.val s
  have hfree := freeLinkNo_congr hdyn (reg_frameIn (by decide) msg.port.val s) (reg_frameIn (by decide) msg.port.val s)
  apply run_of_effects
  simp only [hup, hnet, htag, haddr, Bool.not_true, Bool.or_self, Bool.false_eq_true, if_false]
  apply seqs_pair_congr
  simp only [mornisLinks_congr hdyn, pairsUsed_congr hdyn, hfree, hnew, connectAnswer]
  split
  · rfl
  cases connectOk msg with
  | false => rfl
  | true =>
    cases freeLinkNo s with
    | none => rfl
    | some l => by_cases hfull : 4096 ≤ pairsUsed s <;> simp [hfull]

end Connect

section Answers
variable {msg : ConnectMsg} {s : State}

theorem connectAnswer_version (hversion : msg.version ≠ 1) : connectAnswer s msg = reject msg 2 := if_pos hversion

variable (hversion : msg.version = 1)
include hversion

theorem connectAnswer_fields (hok : connectOk msg = false) : connectAnswer s msg = reject msg 3 := by
  simp [connectAnswer, hversion, hok]

variable (hok : connectOk msg = true)
include hok

theorem connectAnswer_noLink (hl : freeLinkNo s = none) : connectAnswer s msg = reject msg 1 := by
  simp [connectAnswer, hversion, hok, hl]

theorem connectAnswer_noPair {l : Nat} (hl : freeLinkNo s = some l) (hfull : 4096 ≤ pairsUsed s) :
    connectAnswer s msg = reject msg 4 := by
  simp only [connectAnswer, hversion, hok, hl, ne_eq, not_true_eq_false, Bool.true_eq_false, Option.elim_some,
    if_pos hfull, if_false]

theorem connectAnswer_accepts {l : Nat} (hl : freeLinkNo s = some l) (hroom : pairsUsed s < 4096) :
    connectAnswer s msg = accept msg l := by
  simp only [connectAnswer, hversion, hok, hl, ne_eq, not_true_eq_false, Bool.true_eq_false, Option.elim_some,
    if_neg (Nat.not_le.2 hroom), if_false]

end Answers

end Sys2Proof.Machine

/-! Mornis links: opening, resetting, closing and congestion (R250-R254, R262). -/

namespace Sys2Proof.Machine

/-- READY with the nonce of a link that waits for it opens the link (R250). -/
theorem exec_ready_opens {link : Fin 512} {nonce : BitVec 32} {k : Link} {s : State}
    (hk : mornisIn s link.val 1 nonce = some k) : exec (.ready link nonce) s = .next (applyAll s (seqs [frameIn k.port,
      fun _ => [updLink k.id (fun l => { l with st := 2 }), .sq Reg.NET_GSTAT 1], sendMsg k (shortMsg 0x04 k.nonce)] s)) := by
  apply run_of_effects
  rw [hk]

theorem exec_readyTimeout_waiting {link : Fin 512} {k : Link} {s : State} (hup : hqUp s = true)
    (hl : s.link? link.val = some k) (hmornis : k.pcie = false) (hst : k.st = 1) :
    exec (.readyTimeout link) s = .next (applyAll s (freeLink link.val s)) := by
  apply run_of_effects
  simp [hup, hl, hmornis, hst]

section Open
variable {link : Fin 512} {nonce : BitVec 32} {k : Link} {s : State} (hk : mornisIn s link.val 2 nonce = some k)
include hk

theorem exec_reset_open : exec (.reset link nonce) s =
    .next (applyAll s (seqs [frameIn k.port, ctrlReset k.id, sendMsg k (shortMsg 0x08 k.nonce)] s)) := by
  apply run_of_effects
  rw [hk]

theorem exec_disconnect_received (reason : BitVec 8) : exec (.disconnect link ⟨false, reason⟩ nonce) s =
    .next (applyAll s (seqs [frameIn k.port, discLink k.id 2] s)) := by
  apply run_of_effects
  simp only [hk, Bool.false_eq_true, if_false]

theorem exec_disconnect_sent (reason : BitVec 8) : exec (.disconnect link ⟨true, reason⟩ nonce) s =
    .next (applyAll s (seqs [sendMsg k ([0x05, b8 reason.toNat, 0, 0] ++ leBytes 4 k.nonce), discLink k.id 1] s)) := by
  apply run_of_effects
  simp only [hk, if_true]

end Open

section InService
variable {link : Fin 512} {k : Link} {s : State} (hup : hqUp s = true) (hl : s.link? link.val = some k)
include hup hl

/-- The end of a DISCONNECT that the device has sent: its answer, or the time in which none came (R252). -/
theorem exec_discAck_answers (hsent : discSent k = true) {nonce : BitVec 32} (hnonce : k.nonce = nonce.toNat) :
    exec (.discAck link nonce) s =
      .next (applyAll s (seqs [frameIn k.port, freeLink k.id, fun _ => [.sq Reg.NET_GSTAT 2]] s)) := by
  apply run_of_effects
  simp [hup, hl, hsent, hnonce]

theorem exec_disconnectTimeout_sent (hsent : discSent k = true) : exec (.disconnectTimeout link) s =
    .next (applyAll s (seqs [freeLink link.val, fun _ => [.sq Reg.NET_GSTAT 2]] s)) := by
  apply run_of_effects
  simp only [hup, hl, hsent, Option.any_some, Bool.and_self, if_true]

variable (hmornis : k.pcie = false) (hopen : k.st = 2)
include hmornis hopen

theorem mornisLive_open : mornisLive s link.val = some k := by
  simp [mornisLive, hup, hl, hmornis, hopen]

theorem exec_keepalive_open : exec (.keepalive link) s = .next (applyAll s (sendMsg k (shortMsg 0x09 k.nonce) s)) := by
  apply run_of_effects
  simp [hup, hl, hmornis, hopen]

theorem exec_rcRetryExhausted_open : exec (.rcRetryExhausted link) s =
    .next (applyAll s (seqs [fun _ => [.sq Reg.NET_GSTAT 4], closeLink link.val] s)) := by
  apply run_of_effects
  simp [hup, hl, hmornis, hopen]

/-- A CNP goes out at most once in the time NET_CC gives, counted from when it is sent (R262). -/
theorem exec_cePacketReceive_answers (hdue : k.cnpAt.all (fun t => t + s.fld Reg.NET_CC 23 16 ≤ s.dyn.us) = true) :
    exec (.cePacketReceive link) s = .next (applyAll s (seqs [frameIn k.port, linkOut k (.cnp k.id),
      fun _ => [updLink k.id (fun l => { l with cnpAt := some s.dyn.us })]] s)) := by
  have hclock := (keepsClock_linkOut k (.cnp k.id) _).trans (congrArg Dyn.us (dyn_frameIn k.port s))
  apply run_of_effects
  simp only [mornisLive_open hup hl hmornis hopen, hdue, if_true, seqs_cons, hclock]

/-- A CNP halves the rate, down to the least that NET_CC allows (R262). -/
theorem exec_cnpReceive_halves : exec (.cnpReceive link) s = .next (applyAll s (seqs [frameIn k.port,
    fun _ => [.cnt Reg.NET_CNP_CNT 31 0 1, updLink k.id (fun l => { l with rate := max (l.rate / 2) (minRate s) })]] s)) := by
  have hmin : minRate (applyAll s (frameIn k.port s)) = minRate s :=
    congrArg (fun w : Word => max 1 (w.fld 7 0) * 2 ^ 64) (reg_frameIn (a := Reg.NET_CC) (by decide) k.port s)
  apply run_of_effects
  simp only [mornisLive_open hup hl hmornis hopen, seqs_cons, hmin]

theorem exec_rateRecoveryTimer_raises : exec (.rateRecoveryTimer link) s =
    .next (applyAll s [updLink k.id (fun l => { l with rate := min (100 * 2 ^ 64) (l.rate + 100 * 2 ^ 61) })]) := by
  apply run_of_effects
  rw [mornisLive_open hup hl hmornis hopen]

end InService

/-- Settles O35: a CONNECT is answered by its first failing check; each command of a link in its state runs its action. -/
theorem mornisLinks_holds : Obligations.MornisLinks := by
  unfold Obligations.MornisLinks
  constructor
  · intro msg link k nonce s
    refine ⟨exec_connect_foreign, fun hup hnet htag haddr hnew => ⟨?version, ?fields, ?noLink, ?noPair, ?accepts⟩, exec_ready_opens,
      exec_readyTimeout_waiting⟩
    case version => exact fun hversion => exec_connect_new hup hnet htag haddr hnew (connectAnswer_version hversion)
    case fields => exact fun hversion hok => exec_connect_new hup hnet htag haddr hnew (connectAnswer_fields hversion hok)
    case noLink => exact fun hversion hok hl => exec_connect_new hup hnet htag haddr hnew (connectAnswer_noLink hversion hok hl)
    case noPair =>
      exact fun _ hversion hok hl hfull => exec_connect_new hup hnet htag haddr hnew (connectAnswer_noPair hversion hok hl hfull)
    case accepts =>
      exact fun _ hversion hok hl hroom => exec_connect_new hup hnet htag haddr hnew (connectAnswer_accepts hversion hok hl hroom)
  · intro link reason nonce k s hup hl hmornis
    refine ⟨fun hsent => ⟨exec_discAck_answers hup hl hsent, exec_disconnectTimeout_sent hup hl hsent⟩, fun hopen => ?_⟩
    exact ⟨fun hk => ⟨exec_reset_open hk, exec_disconnect_received hk reason, exec_disconnect_sent hk reason⟩,
      exec_keepalive_open hup hl hmornis hopen, exec_rcRetryExhausted_open hup hl hmornis hopen,
      exec_cePacketReceive_answers hup hl hmornis hopen, exec_cnpReceive_halves hup hl hmornis hopen,
      exec_rateRecoveryTimer_raises hup hl hmornis hopen⟩

end Sys2Proof.Machine

/-! Queue commands, Abort and Asynchronous Event Request (Table 9.1, R241-R245, R266-R268, Table 10.2). -/

namespace Sys2Proof.Machine

section Queues
variable {cmd : CmdRef} {c : HCmd} {l : Link} {s : State} (hl : s.link? c.link = some l)
include hl

theorem exec_createIoCq_checked (hr : cmdReady s cmd true 0x05 c = true) (hok : cqCheck l c = none) :
    exec (.createIoCq cmd) s = .next (applyAll s (updLink l.id (fun k => { k with cqs := k.cqs ++ [({
      qid := (c.cdw 10).fld 15 0, base := leAt c.sqe 24 8, size := (c.cdw 10).fld 31 16 + 1, ien := (c.cdw 11).bit 1,
      iv := (c.cdw 11).fld 31 16 } : CplQ)] }) :: finish c okCpl s)) := by
  refine run_withCmd _ hr ?_
  simp only [hl, hok]

theorem exec_createIoCq_refused (hr : cmdReady s cmd true 0x05 c = true) {r : Cpl} (hbad : cqCheck l c = some r) :
    exec (.createIoCq cmd) s = .next (applyAll s (finish c r s)) := by
  refine run_withCmd _ hr ?_
  simp only [hl, hbad]

/-- A new submission queue takes its place in the order of the QIDs. -/
theorem exec_createIoSq_checked (hr : cmdReady s cmd true 0x01 c = true) (hok : sqCheck l c = none) :
    exec (.createIoSq cmd) s = .next (applyAll s (updLink l.id (fun k => { k with
      sqs := k.sqs.filter (fun x => x.qid < (c.cdw 10).fld 15 0) ++ [({
        qid := (c.cdw 10).fld 15 0, base := leAt c.sqe 24 8, size := (c.cdw 10).fld 31 16 + 1,
        cqid := (c.cdw 11).fld 31 16, prio := (c.cdw 11).fld 2 1 } : SubQ)] ++
        k.sqs.filter (fun x => (c.cdw 10).fld 15 0 < x.qid) }) :: finish c okCpl s)) := by
  refine run_withCmd _ hr ?_
  simp only [hl, hok]

theorem exec_createIoSq_refused (hr : cmdReady s cmd true 0x01 c = true) {r : Cpl} (hbad : sqCheck l c = some r) :
    exec (.createIoSq cmd) s = .next (applyAll s (finish c r s)) := by
  refine run_withCmd _ hr ?_
  simp only [hl, hbad]

theorem exec_deleteIoCq_unused (hr : cmdReady s cmd true 0x04 c = true) (hio : (c.cdw 10).fld 15 0 ≠ 0)
    (hthere : l.cqs.any (fun x => x.qid == (c.cdw 10).fld 15 0) = true)
    (hunused : l.sqs.any (fun x => x.cqid == (c.cdw 10).fld 15 0 && x.qid != 0) = false) :
    exec (.deleteIoCq cmd) s = .next (applyAll s (updLink l.id (fun k => { k with
      cqs := k.cqs.filter (fun x => x.qid != (c.cdw 10).fld 15 0),
      coal := if k.pcie then k.coal else k.coal.filter (fun x => x.key != (c.cdw 10).fld 15 0) }) :: finish c okCpl s)) := by
  refine run_withCmd _ hr ?_
  simp only [hl, hio, hthere, hunused, decide_false, Bool.not_true, Bool.or_self, Bool.false_eq_true, if_false]

theorem exec_deleteIoSq_open (hr : cmdReady s cmd true 0x00 c = true) (hio : (c.cdw 10).fld 15 0 ≠ 0)
    (hopen : l.sqs.any (fun x => x.qid == (c.cdw 10).fld 15 0 && !x.closing) = true) :
    exec (.deleteIoSq cmd) s = .next (applyAll s (seqs [
      fun _ => [updSq l.id ((c.cdw 10).fld 15 0) (fun x => { x with closing := true })],
      each (s.dyn.hq.cmds.filter (fun x => x.link == l.id && x.sqid == (c.cdw 10).fld 15 0 && x.done.isNone && !x.orphan))
        (fun x => if x.uncommitted then failWrite x (status 0 8) else finish x (status 0 8)),
      fun _ => [updCmd c.no (fun x => { x with work := .delSq ((c.cdw 10).fld 15 0), done := some okCpl })]] s)) := by
  refine run_withCmd _ hr ?_
  simp only [hl, hio, hopen, decide_false, Bool.not_true, Bool.or_self, Bool.false_eq_true, if_false]

end Queues

section Abort
variable {cmd : CmdRef} {c : HCmd} {s : State} (hr : cmdReady s cmd true 0x08 c = true)
  (hfew : (s.dyn.hq.cmds.filter (fun x => x.link == c.link && x.admin && x.op == 0x08 && x.no < c.no && !x.orphan)).length < 4)
include hr hfew

/-- An Abort of a command that is not there says so in Dword 0 (R266). -/
theorem exec_abort_notFound (hnone : s.dyn.hq.cmds.find? (fun x => x.link == c.link && x.sqid == (c.cdw 10).fld 15 0 &&
      x.cid == (c.cdw 10).fld 31 16 && !x.orphan) = none) :
    exec (.abort cmd) s = .next (applyAll s (finish c { dw0 := 1 } s)) := by
  refine run_withCmd _ hr ?_
  simp only [if_neg (Nat.not_le.2 hfew), hnone]

theorem exec_abort_found {t : HCmd} (hfind : s.dyn.hq.cmds.find? (fun x => x.link == c.link && x.sqid == (c.cdw 10).fld 15 0 &&
      x.cid == (c.cdw 10).fld 31 16 && !x.orphan) = some t) (hopen : pastAbort t = false) :
    exec (.abort cmd) s = .next (applyAll s (seqs [fun _ => .cnt Reg.HQE_ABORT_CNT 31 0 1 :: giveUp t,
      if t.uncommitted then failWrite t (status 0 7) else finish t (status 0 7),
      fun _ => [updCmd c.no (fun x => { x with work := .abt t.no, done := some okCpl })]] s)) := by
  refine run_withCmd _ hr ?_
  simp only [if_neg (Nat.not_le.2 hfew), hfind, hopen, Bool.false_eq_true, if_false]

end Abort

section Events
variable {cmd : CmdRef} {c : HCmd} {s : State} (hr : cmdReady s cmd true 0x0C c = true)
include hr

theorem exec_asyncEventRequest_waits (hfew : (s.dyn.hq.cmds.filter (fun x =>
      x.link == c.link && x.work == .aer && x.done.isNone && !x.orphan)).length < 4) :
    exec (.asyncEventRequest cmd) s = .next (applyAll s (seqs [fun _ => [updCmd c.no (fun x => { x with work := .aer })],
      takeWaiting c.link, raiseLoss] s)) :=
  run_withCmd _ hr (if_neg (Nat.not_le.2 hfew))

/-- The fifth outstanding request is refused (Table 10.2). -/
theorem exec_asyncEventRequest_fifth (hmany : 4 ≤ (s.dyn.hq.cmds.filter (fun x =>
      x.link == c.link && x.work == .aer && x.done.isNone && !x.orphan)).length) :
    exec (.asyncEventRequest cmd) s = .next (applyAll s (finish c (status 1 5) s)) :=
  run_withCmd _ hr (if_pos hmany)

end Events

/-- Settles O37: a command that may be worked on does what its checks find. -/
theorem queueAndAbortCommands : Obligations.QueueAndAbortCommands := by
  unfold Obligations.QueueAndAbortCommands
  constructor
  · intro cmd c l s hl
    exact ⟨fun hr => ⟨exec_createIoCq_checked hl hr, fun _ => exec_createIoCq_refused hl hr⟩,
      fun hr => ⟨exec_createIoSq_checked hl hr, fun _ => exec_createIoSq_refused hl hr⟩,
      exec_deleteIoCq_unused hl, exec_deleteIoSq_open hl⟩
  · intro cmd c s
    exact ⟨fun hr hfew => ⟨exec_abort_notFound hr hfew, fun _ => exec_abort_found hr hfew⟩,
      fun hr => ⟨exec_asyncEventRequest_waits hr, exec_asyncEventRequest_fifth hr⟩⟩

end Sys2Proof.Machine

/-! I/O commands are validated (R279, R284, R291, R296, R315). -/

namespace Sys2Proof.Machine

/-- A command of an I/O queue to a namespace in service goes on to its own checks. -/
theorem run_withNs {cmd : CmdRef} {op : Nat} {zoned : Bool} {c : HCmd} {l : Link} {x : Ns} {s : State}
    (k : HCmd → Link → Ns → Act) (hr : cmdReady s cmd false op c = true) (hl : s.link? c.link = some l)
    (hx : nsOf s c.nsid = some x) (hzoned : zoned = true → x.zoned = true) {es : List Eff} (hk : k c l x s = es) :
    run (withNs cmd op zoned k) s = .next (applyAll s es) := by
  have hkind : (zoned && !x.zoned) = false := by
    cases zoned with
    | false => rfl
    | true => simp [hzoned rfl]
  refine run_withCmd _ hr ?_
  simp only [hl, hx, hkind, Bool.false_eq_true, if_false, hk]

section Validation
variable {cmd : CmdRef} {list : Option (List Byte)} {c : HCmd} {l : Link} {x : Ns} {s : State}
  (hl : s.link? c.link = some l) (hx : nsOf s c.nsid = some x) (hfree : held s c (c.zonesOf s) = false)

/-- The checks of a write, in the order of R279. -/
def writeChecks (s : State) (c : HCmd) (l : Link) (x : Ns) (list : Option (List Byte)) : Option Cpl :=
  firstOf ([refuse ((c.cdw 12).fld 29 26 ≠ 0 || (c.cdw 12).fld 23 20 ≠ 0 || (c.cdw 12).bit 24) invField] ++
    rangeChecks x c ++ [dptrCheck l c ((c.nlb + 1) * 4096) list,
    if x.zoned then zoneCheck s x c.slba (c.nlb + 1) false else convCheck s x c.slba (c.nlb + 1), keyCheck s x])

/-- The checks of a read. -/
def readChecks (s : State) (c : HCmd) (l : Link) (x : Ns) (list : Option (List Byte)) : Option Cpl :=
  firstOf ([refuse ((c.cdw 12).fld 29 26 ≠ 0) invField] ++ rangeChecks x c ++
    [dptrCheck l c ((c.nlb + 1) * 4096) list, offlineCheck s x c.slba (c.nlb + 1), keyCheck s x])

/-- The checks of a derive read. -/
def deriveChecks (s : State) (c : HCmd) (l : Link) (x : Ns) (list : Option (List Byte)) : Option Cpl :=
  firstOf ([refuse (leAt c.sqe 16 8 % 64 ≠ 0 || (c.cdw 13).fld 15 0 = 0 || 1024 < (c.cdw 13).fld 15 0 ||
      (c.cdw 14).toNat = 0 || 8388608 < (c.cdw 14).toNat) invField] ++
    rangeChecks x c ++ [dptrCheck l c (c.cdw 14).toNat list, offlineCheck s x c.slba (c.nlb + 1), keyCheck s x])

include hl hx hfree

theorem exec_write_accepted (hr : cmdReady s cmd false 0x01 c = true) (hok : writeChecks s c l x list = none) :
    exec (.write cmd list) s =
      .next (applyAll s (acceptWrite c x false (dptrPieces l c ((c.nlb + 1) * 4096) list) s)) := by
  unfold writeChecks at hok
  refine run_withNs (zoned := false) _ hr hl hx nofun ?_
  simp only [hfree, hok, Bool.false_eq_true, if_false]

theorem exec_write_refused (hr : cmdReady s cmd false 0x01 c = true) {e : Cpl} (hbad : writeChecks s c l x list = some e) :
    exec (.write cmd list) s = .next (applyAll s (finish c e s)) := by
  unfold writeChecks at hbad
  refine run_withNs (zoned := false) _ hr hl hx nofun ?_
  simp only [hfree, hbad, Bool.false_eq_true, if_false]

theorem exec_zoneAppend_accepted (hr : cmdReady s cmd false 0x7D c = true) (hzoned : x.zoned = true)
    (hok : firstOf (rangeChecks x c ++ [dptrCheck l c ((c.nlb + 1) * 4096) list, zoneCheck s x c.slba (c.nlb + 1) true,
      keyCheck s x]) = none) :
    exec (.zoneAppend cmd list) s =
      .next (applyAll s (acceptWrite c x true (dptrPieces l c ((c.nlb + 1) * 4096) list) s)) := by
  refine run_withNs _ hr hl hx (fun _ => hzoned) ?_
  simp only [hfree, hok, Bool.false_eq_true, if_false]

theorem exec_read_accepted (hr : cmdReady s cmd false 0x02 c = true) (hok : readChecks s c l x list = none) :
    exec (.read cmd list) s = .next (applyAll s [updCmd c.no (fun k => { k with
      dptr := dptrPieces l c ((c.nlb + 1) * 4096) list, work := .rd x.nsid c.slba (c.nlb + 1) ((c.cdw 12).bit 31) })]) := by
  unfold readChecks at hok
  refine run_withNs (zoned := false) _ hr hl hx nofun ?_
  simp only [hfree, hok, Bool.false_eq_true, if_false]

theorem exec_read_refused (hr : cmdReady s cmd false 0x02 c = true) {e : Cpl} (hbad : readChecks s c l x list = some e) :
    exec (.read cmd list) s = .next (applyAll s (finish c e s)) := by
  unfold readChecks at hbad
  refine run_withNs (zoned := false) _ hr hl hx nofun ?_
  simp only [hfree, hbad, Bool.false_eq_true, if_false]

/-- A derive read whose recipe has come waits for its source (R315). -/
theorem exec_deriveRead_accepted (hr : cmdReady s cmd false 0x83 c = true) (hok : deriveChecks s c l x list = none)
    (recipe : List Byte) :
    exec (.deriveRead cmd list (some recipe)) s = .next (applyAll s (seqs [
      getHost l [⟨leAt c.sqe 16 8, ringKey l, 64 * (c.cdw 13).fld 15 0⟩],
      fun _ => [updCmd c.no (fun k => { k with
        dptr := dptrPieces l c (c.cdw 14).toNat list
        work := .drd x.nsid c.slba (c.nlb + 1) (fit (64 * (c.cdw 13).fld 15 0) recipe) (c.cdw 14).toNat })]] s)) := by
  unfold deriveChecks at hok
  refine run_withNs (zoned := false) _ hr hl hx nofun ?_
  simp only [hfree, hok, Bool.false_eq_true, if_false]

end Validation

end Sys2Proof.Machine

/-! The data of I/O commands (R257, R284, R285, R287, R291). -/

namespace Sys2Proof.Machine

section Data
variable {cmd : CmdRef} {c : HCmd} {l : Link} {x : Ns} {nsid lba n : Nat} {s : State}

/-- The data of an accepted write is pulled where the write buffer has room (R284). -/
theorem exec_writeDataPull_room {app fua : Bool} (d : List Byte) (hl : s.link? c.link = some l)
    (hc : s.cmdBy cmd (fun c => c.uncommitted && !c.orphan) = some c) (hwork : c.work = .wr nsid lba n app fua none)
    (hup : hqUp s = true) (hlive : linkLive s c.link = true) (hreq : reqReady s = true)
    (hroom : bufUsed s + 4096 * n ≤ optWbuf s * 1048576) :
    exec (.writeDataPull cmd (some d)) s = .next (applyAll s (seqs [getHost l c.dptr,
      fun _ => [updCmd c.no (fun k => { k with work := .wr nsid lba n app fua (some (fit (4096 * n) d)) })]] s)) := by
  apply run_of_effects
  simp only [hc, hwork, hl, hup, hlive, hreq, Nat.not_lt.2 hroom, decide_false, Bool.not_true, Bool.or_self, Bool.false_eq_true,
    if_false]

/-- With the volatile write cache on and FUA 0 the data joins the write buffer and the command completes (R285, R287). -/
theorem exec_writeCommit_cached {app : Bool} {d : List Byte} {a : Nat} (hx : nsAny s nsid = some x)
    (hc : s.cmdBy cmd (fun c => c.uncommitted && c.work.hasData) = some c) (hwork : c.work = .wr nsid lba n app false (some d))
    (hcache : s.dyn.zn.wce = true) (hreq : reqReady s = true)
    (hfirst : s.dyn.hq.cmds.any (fun y => y.no < c.no && y.uncommitted && (y.wzones s).any (fun z => (c.wzones s).contains z)) =
      false)
    (ha : a = if app then lba + (zoneAt s (nsZone x lba)).wp else lba) :
    exec (.writeCommit cmd) s = .next (applyAll s (seqs [
      fun s => [endHolds nsid a n, updZn (fun d' => { d' with buf := bufAdd s x a n d d'.buf, commits := d'.commits + 1 })],
      seqs [if x.zoned then advanceWp (nsZone x lba) n else skip,
        fun _ => [smartIo true d.length],
        finish c (if app then { dw0 := a % 2 ^ 32, dw1 := a / 2 ^ 32 } else {})]] s)) := by
  subst ha
  apply run_of_effects
  simp only [hc, hwork, hx, hcache, hreq, hfirst, Bool.not_true, Bool.not_false, Bool.or_self, Bool.false_eq_true, if_false, if_true]

/-- A range whose blocks are all at hand, and whose actuators are free, gives its data (R14, R291). -/
theorem readRange_atHand {lr : Bool} (k : List Byte → Act)
    (hblocks : ∀ i < n, (fromMedia s x (lba + i) = true → zoneFree s (nsZone x (lba + i)) = true) ∧
      (blockData s x (lba + i)).isSome = true) :
    readRange c x lba n lr [] k s = k ((List.range n).flatMap (fun i => (blockData s x (lba + i)).getD [])) s := by
  have hfree : (List.range n).any (fun i => fromMedia s x (lba + i) && !zoneFree s (nsZone x (lba + i))) = false := by
    refine List.any_eq_false.2 fun i hi => ?_
    obtain ⟨hact, -⟩ := hblocks i (List.mem_range.1 hi)
    simpa using hact
  have hnone : (List.range n).filterMap (fun i => if (blockData s x (lba + i)).isNone then some (lba + i) else none) = [] := by
    refine List.filterMap_eq_nil_iff.2 fun i hi => ?_
    obtain ⟨-, hdata⟩ := hblocks i (List.mem_range.1 hi)
    simp [Option.isSome_iff_ne_none.1 hdata]
  simp only [readRange, hfree, List.filter_nil, List.find?_nil, Option.map_none, Option.isSome_none, Bool.false_or, hnone,
    Bool.false_eq_true, if_false]

theorem exec_readDataPlace_atHand {lr : Bool} (hostOk : Bool) (hl : s.link? c.link = some l) (hx : nsAny s nsid = some x)
    (hc : s.cmdBy cmd (fun c => c.done.isNone && c.readSpan.isSome) = some c) (hwork : c.work = .rd nsid lba n lr)
    (hup : hqUp s = true) (hlive : linkLive s c.link = true) (hmedia : mediaReady s = true) (hkey : keyOk s x = true)
    (hblocks : ∀ i < n, (fromMedia s x (lba + i) = true → zoneFree s (nsZone x (lba + i)) = true) ∧
      (blockData s x (lba + i)).isSome = true) :
    exec (.readDataPlace cmd ⟨hostOk, []⟩ none) s = .next (applyAll s (placeData c l
      ((List.range n).flatMap (fun i => (blockData s x (lba + i)).getD [])) 0 hostOk s)) := by
  apply run_of_effects
  simp only [hc, hwork, hl, hx, hup, hlive, hmedia, hkey, readRange_atHand _ hblocks, Option.any_none, Bool.not_true, Bool.or_self,
    Bool.false_eq_true, if_false]

end Data

/-- Settles O40: a command's checks decide whether it is accepted; its data moves where what it waits for is there. -/
theorem ioCommands : Obligations.IoCommands := by
  unfold Obligations.IoCommands
  constructor
  · intro cmd list recipe c l x s hl hx hfree
    refine ⟨?writes, exec_zoneAppend_accepted hl hx hfree, ?reads, fun hr hok => exec_deriveRead_accepted hl hx hfree hr hok recipe⟩
    case writes =>
      rintro _ hr rfl
      exact ⟨exec_write_accepted hl hx hfree hr, fun _ => exec_write_refused hl hx hfree hr⟩
    case reads =>
      rintro _ hr rfl
      exact ⟨exec_read_accepted hl hx hfree hr, fun _ => exec_read_refused hl hx hfree hr⟩
  · intro cmd d hostOk c l x nsid lba n app s hl hx
    exact ⟨exec_writeDataPull_room d hl, fun _ => exec_writeCommit_cached hx, fun _ => exec_readDataPlace_atHand hostOk hl hx⟩

end Sys2Proof.Machine

/-! Namespace and key commands (R273, R274, R276, R318). -/

namespace Sys2Proof.Machine

/-! What a host's buffer sends while it is read leaves the namespaces and the format as they stand. -/

/-- An action leaves what `f` reads of the state. -/
def leaves {α : Type} (f : State → α) (a : Act) : Prop := ∀ s : State, f (applyAll s (a s)) = f s

section Leaves
variable {α : Type} {f : State → α}

theorem leaves_seqs {as : List Act} (h : ∀ a ∈ as, leaves f a) : leaves f (seqs as) := by
  induction as with
  | nil => exact fun _ => rfl
  | cons a as ih =>
    obtain ⟨ha, has⟩ := List.forall_mem_cons.1 h
    intro s
    rw [applyAll_seqs_cons]
    exact (ih has _).trans (ha s)

theorem leaves_seqs_pair {a b : Act} (ha : leaves f a) (hb : leaves f b) : leaves f (seqs [a, b]) :=
  leaves_seqs (List.forall_mem_cons.2 ⟨ha, List.forall_mem_singleton.2 hb⟩)

theorem leaves_each {β : Type} {l : List β} {g : β → Act} (h : ∀ x, leaves f (g x)) : leaves f (each l g) := by
  refine leaves_seqs fun a ha => ?_
  obtain ⟨x, -, rfl⟩ := List.mem_map.1 ha
  exact h x

end Leaves

/-- What tells which zones and which namespace identifiers are free (R65, R273): the namespaces and the format. -/
def nsView (s : State) : NsD × Word := (s.dyn.nsp, s.reg (Reg.GEO_FMT 0))

section View
variable {s t : State} (h : nsView t = nsView s)
include h

theorem freeZones_congr (csi : Nat) : freeZones t csi = freeZones s csi := by
  obtain ⟨hnsp, hfmt⟩ := Prod.mk.inj h
  have hfld (hi lo : Nat) : t.fld (Reg.GEO_FMT 0) hi lo = s.fld (Reg.GEO_FMT 0) hi lo := congrArg (·.fld hi lo) hfmt
  have hconv : isConvZone t = isConvZone s := by
    funext z
    rw [isConvZone, isConvZone, convZones, convZones, hfld]
  simp only [freeZones, zoneCount, bandIdx, convZones, hfld, hconv, hnsp]

theorem nsAny_congr (nsid : Nat) : nsAny t nsid = nsAny s nsid := by
  obtain ⟨hnsp, -⟩ := Prod.mk.inj h
  simp only [nsAny, hnsp]

end View

/-- A count of a port is not the format, and no effect on a register changes a namespace. -/
theorem nsView_portCount {a : Nat} (ha : a % 0x100 ≠ 0) (hi lo n : Nat) (s : State) :
    nsView (applyEff s (.cnt a hi lo n)) = nsView s :=
  Prod.ext rfl (reg_applyEff_cnt _ _ _ _ _ _ fun heq => ha (heq ▸ rfl))

theorem nsView_frameSent (port : Nat) (o : Output) (s : State) : nsView (applyAll s [.emit o, frameOut port]) = nsView s :=
  nsView_portCount (by unfold Reg.NET_TXF_CNT; omega) _ _ _ _

theorem leaves_nsView_frames (port : Nat) : leaves nsView (frames port) := by
  refine leaves_seqs ?_
  simp only [List.forall_mem_cons, List.not_mem_nil, false_implies, implies_true, and_true]
  refine ⟨fun s => ?sent, fun s => ?received, fun s => ?corrected⟩
  case sent => exact nsView_portCount (by unfold Reg.NET_TXF_CNT; omega) _ _ _ _
  case received => exact nsView_portCount (by unfold Reg.NET_RXF_CNT; omega) _ _ _ _
  case corrected => exact nsView_portCount (by unfold Reg.NET_FEC_CNT; omega) _ _ _ _

theorem leaves_nsView_netRelease (port : Nat) : leaves nsView (netRelease port) := by
  intro s
  unfold netRelease
  split
  · rfl
  · exact leaves_seqs_pair (leaves_each fun _ s => nsView_frameSent port _ s) (fun _ => rfl) s

theorem leaves_nsView_linkOut (l : Link) (o : Output) : leaves nsView (linkOut l o) := by
  unfold linkOut netSend
  split
  · exact fun _ => rfl
  · refine leaves_seqs_pair (leaves_nsView_netRelease l.port) fun s => ?_
    split
    · rfl
    · exact nsView_frameSent _ _ s

theorem leaves_nsView_getHost (l : Link) (ps : List Piece) : leaves nsView (getHost l ps) := by
  refine leaves_seqs_pair (leaves_each fun p => leaves_nsView_linkOut l _) ?_
  unfold linkFrames
  split
  · exact fun _ => rfl
  · exact leaves_nsView_frames l.port

section Namespaces
variable {cmd : CmdRef} {c : HCmd} {s : State}

/-- What making a zoned namespace of `n` blocks with index `i` does once its data is there (R273). -/
def zonedCreate (c : HCmd) (n i : Nat) (s : State) : Act :=
  seqs [fun _ => [updNsp (fun x => { x with ns := x.ns ++
      [⟨i + 1, 2, (c.cdw 11).bit 0, (freeZones s 2).take (n / zoneBlocks), 1⟩] })],
    each ((freeZones s 2).take (n / zoneBlocks)) (fun z => seqs [emptyZone z, saveZone z]), nsChanged (i + 1),
    finish c { dw0 := i + 1 }]

/-- The zones and the identifier are those free when the command is taken: reading its data changes neither. -/
theorem exec_namespaceCreate_zoned {list : Option (List Byte)} {data d : List Byte} {l : Link} {ps : List Piece} {n i : Nat}
    (hl : s.link? c.link = some l) (hr : cmdReady s cmd true 0x0D c = true) (hsel : (c.cdw 10).fld 3 0 = 0)
    (hup : s.up 63 = true) (hw : dptrWalk l c 4096 list = .inr ps) (hd : d = fit 4096 data) (hsize : n = leAt d 0 8)
    (hcap : n = leAt d 8 8) (hpos : n ≠ 0) (hwhole : n % zoneBlocks = 0) (hflbas : leAt d 26 1 = 0)
    (hcsi : (c.cdw 11).fld 31 24 = 2) (hfree : n / zoneBlocks ≤ (freeZones s 2).length)
    (hid : (List.range 64).find? (fun i => (nsAny s (i + 1)).isNone) = some i) :
    exec (.namespaceCreate ⟨cmd, list⟩ (some data)) s =
      .next (applyAll s (seqs [getHost l ps, zonedCreate c n i s] s)) := by
  have hview := leaves_nsView_getHost l ps s
  refine run_withCmd _ hr ?_
  subst hd
  simp only [hsel, hup, hcsi, withData_of_pieces data _ hl hw]
  refine seqs_pair_congr ?_
  simp [freeZones_congr hview, nsAny_congr hview, ← hsize, ← hcap, hpos, hwhole, hflbas, Nat.not_lt.2 hfree, hid, zonedCreate]

theorem exec_namespaceFormatDone_formatting {i : Nat} {n : Ns}
    (hc : s.dyn.hq.cmds.find? (fun c => c.work == .fmt i && c.done.isNone) = some c) (hn : nsAny s i = some n) (hst : n.st = 0)
    (hmedia : mediaReady s = true) :
    exec (.namespaceFormatDone i) s = .next (applyAll s (seqs [each n.zones zeroZone,
      fun _ => [updNsp (fun x => { x with ns := x.ns.map (fun m => if m.nsid = i then { m with st := 1 } else m) })],
      nsChanged i, finish c { dw0 := i }] s)) := by
  apply run_of_effects
  simp [hc, hn, hst, hmedia]

/-- A Delete that has begun ends once nothing is in flight to its namespaces (R276). -/
theorem exec_namespaceDelete_begun (hc : s.cmdBy cmd (fun c => c.done.isNone && c.work.isNsdel) = some c)
    (hup : s.up 63 = true) (hquiet : (delTargets s c.nsid).any (fun n => s.dyn.hq.cmds.any (inFlightOn n.nsid)) = false) :
    exec (.namespaceDelete cmd) s =
      .next (applyAll s (seqs [each (delTargets s c.nsid) nsRemove, finish c okCpl] s)) := by
  apply run_of_effects
  simp only [hc, hup, nsDelete, hquiet, Bool.false_eq_true, if_false, if_true]

end Namespaces

section Keys
variable {cmd : CmdRef} {c : HCmd} {s : State} (hr : cmdReady s cmd true 0xC5 c = true) (hup : s.up 100 = true)
include hr hup

/-- A namespace that encrypts takes a key of 32 or 64 bytes, bound to it (R318). -/
theorem exec_keyLoad_media {list : Option (List Byte)} {l : Link} {ps : List Piece} (data : List Byte)
    (hl : s.link? c.link = some l) (hlen : (c.cdw 11).fld 7 0 = 32 ∨ (c.cdw 11).fld 7 0 = 64)
    (hmedia : (c.cdw 11).bit 8 = true) (henc : (nsOf s c.nsid).any (fun n => n.enc) = true)
    (hw : dptrWalk l c 64 list = .inr ps) :
    exec (.keyLoad ⟨cmd, list⟩ (some data)) s = .next (applyAll s (seqs [getHost l ps,
      seqs [fun _ => [keyPut ((c.cdw 10).fld 9 0) ((fit 64 data).take ((c.cdw 11).fld 7 0)), updShl (fun x => { x with
          bound := ((c.cdw 10).fld 9 0, c.nsid) :: x.bound.filter (fun b => b.1 != (c.cdw 10).fld 9 0 && b.2 != c.nsid) })],
        finish c okCpl]] s)) := by
  have hthere : (nsOf s c.nsid).isNone = false := Option.isNone_eq_false_iff.2 (Option.isSome_of_any henc)
  refine run_withCmd _ hr ?_
  obtain hlen | hlen := hlen <;> simp [hthere, hlen, hup, hmedia, henc, withData_of_pieces data _ hl hw]

theorem exec_keyClear_slot (hlen : (c.cdw 11).fld 7 0 = 0) :
    exec (.keyClear cmd) s = .next (applyAll s (updShl (fun x => { x with
      keys := x.keys.filter (fun k => k.1 != (c.cdw 10).fld 9 0), bound := x.bound.filter (fun b => b.1 != (c.cdw 10).fld 9 0) }) ::
      finish c okCpl s)) := by
  refine run_withCmd _ hr ?_
  simp [hlen, hup]

end Keys

/-- Settles O39: a command whose checks pass does what they allow. -/
theorem namespaceAndKeyCommands : Obligations.NamespaceAndKeyCommands := by
  unfold Obligations.NamespaceAndKeyCommands
  constructor
  · intro cmd list data c l i s hl
    exact ⟨fun hr hsel hup _ hw _ _ hd hsize hcap hpos hwhole hflbas hcsi hfree hid =>
        exec_namespaceCreate_zoned hl hr hsel hup hw hd hsize hcap hpos hwhole hflbas hcsi hfree hid,
      fun _ => exec_namespaceFormatDone_formatting, fun _ hc _ => exec_namespaceDelete_begun hc⟩
  · intro cmd list data c l s hr hup hl
    exact ⟨fun hlen hmedia henc _ hw => exec_keyLoad_media hr hup data hl hlen hmedia henc hw, exec_keyClear_slot hr hup⟩

end Sys2Proof.Machine

/-! Flush, zone actions and zone reports (R289, R297, R298, R301). -/

namespace Sys2Proof.Machine

@[simp] theorem each_singleton {α : Type} (x : α) (g : α → Act) : each [x] g = g x := funext fun _ => List.append_nil _

section Validated
variable {cmd : CmdRef} {c : HCmd} {l : Link} {x : Ns} {s : State} (hl : s.link? c.link = some l) (hx : nsOf s c.nsid = some x)
include hx

theorem exec_flush_ready (hr : cmdReady s cmd false 0x00 c = true) : exec (.flush cmd) s =
    .next (applyAll s (seqs [fun _ => [updCmd c.no (fun k => { k with work := .fl c.nsid c.mark })], settle] s)) := by
  refine run_withCmd _ hr ?_
  simp [hx]

include hl

/-- A Zone Management Send of one legal zone waits for it, whichever its action (R297). -/
theorem run_zoneSend_one {op : Nat} (hr : cmdReady s cmd false 0x79 c = true) (hzoned : x.zoned = true) (hone : c.all = false)
    (hstart : c.slba % zoneBlocks = 0) (hin : c.slba < nsSize x) (hop : c.zsa = op) : run (zoneSend cmd op) s =
      .next (applyAll s [updCmd c.no (fun k => { k with work := .zact c.zsa [nsZone x c.slba] })]) := by
  refine run_withNs _ hr hl hx (fun _ => hzoned) ?_
  simp [hop, hone, hstart, Nat.not_le.2 hin]

/-- The checks of a zone report (R301). -/
def reportChecks (c : HCmd) (l : Link) (x : Ns) (list : Option (List Byte)) : Option Cpl :=
  firstOf [refuse ((c.cdw 13).fld 7 0 ≠ 0 || 7 < (c.cdw 13).fld 15 8 || 8388608 < 4 * ((c.cdw 12).toNat + 1)) invField,
    refuse (nsSize x ≤ c.slba) (status 0 0x80), dptrCheck l c (4 * ((c.cdw 12).toNat + 1)) list]

/-- A full report counts every zone it selects, those it has no room for among them (R301). -/
theorem exec_zoneMgmtReceive_full {list : Option (List Byte)} {is : List Nat} (hr : cmdReady s cmd false 0x7A c = true)
    (hzoned : x.zoned = true) (hok : reportChecks c l x list = none)
    (hfree : held s c (x.zones.drop (c.slba / zoneBlocks)) = false) (hfull : (c.cdw 13).bit 16 = false)
    (his : is = (List.range x.zones.length).filter (fun i => c.slba / zoneBlocks ≤ i &&
      zrasf ((c.cdw 13).fld 15 8) (zoneAt s (x.zones.getD i 0)).st)) :
    exec (.zoneMgmtReceive cmd list) s = .next (applyAll s (reply c list (fit (4 * ((c.cdw 12).toNat + 1))
      (leBytes 8 is.length ++ zeros 56 ++
        (is.take ((4 * ((c.cdw 12).toNat + 1) - 64) / 64)).flatMap (zoneDesc s x))) s)) := by
  subst his
  unfold reportChecks at hok
  refine run_withNs _ hr hl hx (fun _ => hzoned) ?_
  simp only [hok, hfree, hfull, Bool.false_eq_true, if_false]

end Validated

section Effect
variable {cmd : CmdRef} {c : HCmd} {s : State} {op z : Nat}
  (hc : s.cmdBy cmd (fun c => c.done.isNone && c.work.isZact) = some c) (hwork : c.work = .zact op [z]) (hup : s.up 63 = true)
  (hfirst : earlier s c [z] (fun _ => true) = false) (hladder : zoneLadder s z = false) (hscan : scanDue s z = false)
include hc hwork hup hfirst hladder hscan

/-- An action that its zone's state permits takes effect, and the command completes (R298); an Open meets limits (R292, R293), and
a Finish needs its data to go to the media (R290, R319). -/
theorem exec_zoneActionEffect_permitted (hfrom : fromOk op (zoneAt s z).st = true)
    (hfinish : op = 2 → zoneReady s z = true ∧ (zoneKeyOk s z = true ∨ bufChunks s z = []))
    (hopen : op = 3 → openLimit s [z] = none) :
    exec (.zoneActionEffect cmd) s = .next (applyAll s (seqs [zoneAction op z, finish c okCpl, waitEnds] s)) := by
  apply run_of_effects
  by_cases hop : op = 3
  · subst hop
    simp [hc, hwork, hup, hfirst, hladder, hscan, hfrom, hopen rfl, refuse]
  · have hready : (op == 2 && !zoneReady s z) = false := by
      simpa using fun h => (hfinish h).1
    have hkept : (op == 2 && !([z].filter (fun z => !zoneKeyOk s z && !(bufChunks s z).isEmpty)).isEmpty) = false := by
      by_cases hfin : op = 2
      · obtain hkey | hempty := (hfinish hfin).2
        · simp [hkey]
        · simp [hempty]
      · simp [hfin]
    simp [hc, hwork, hup, hfirst, hladder, hscan, hfrom, hop, hready, hkept, refuse]

/-- An Open past the limits ends with their status (R292, R293). -/
theorem exec_zoneActionEffect_overLimit {r : Cpl} (hop : op = 3) (hfrom : fromOk 3 (zoneAt s z).st = true)
    (hover : openLimit s [z] = some r) : exec (.zoneActionEffect cmd) s = .next (applyAll s (finish c r s)) := by
  subst hop
  apply run_of_effects
  simp [hc, hwork, hup, hfirst, hladder, hscan, hfrom, hover, refuse]

/-- A zone in none of the action's From states (Table 10.7). -/
theorem exec_zoneActionEffect_refused (hfrom : fromOk op (zoneAt s z).st = false) (hone : c.all = false) :
    exec (.zoneActionEffect cmd) s = .next (applyAll s (finish c (status 1 0xBF) s)) := by
  apply run_of_effects
  simp [hc, hwork, hup, hfirst, hladder, hscan, hfrom, hone]

end Effect

/-- Settles O41: a validated command waits for its zones or its data, and its action or its report follows. -/
theorem flushAndZoneActions : Obligations.FlushAndZoneActions := by
  unfold Obligations.FlushAndZoneActions
  intro cmd list c l x s hl hx
  refine ⟨exec_flush_ready hx, ?sends, ?effects, fun _ => exec_zoneMgmtReceive_full hl hx⟩
  case sends =>
    rintro hr hzoned hone hstart hin _ rfl
    have hsend {op : Nat} (hop : c.zsa = op) := run_zoneSend_one hl hx hr hzoned hone hstart hin hop
    exact ⟨hsend, hsend, hsend, hsend, hsend⟩
  case effects =>
    intro op z hc hwork hup hfirst hladder hscan
    exact ⟨exec_zoneActionEffect_permitted hc hwork hup hfirst hladder hscan,
      fun _ => exec_zoneActionEffect_overLimit hc hwork hup hfirst hladder hscan,
      exec_zoneActionEffect_refused hc hwork hup hfirst hladder hscan⟩

end Sys2Proof.Machine


/-! Buffer memory: what a run of bytes stored leaves, and the words read and written (R355-R366). -/

namespace Sys2Proof.Machine

theorem cellGet_eq_map (l : List Host.Cell) (b : Nat) : cellGet l b = (l.find? (fun p => p.1 == b)).map Prod.snd := by
  unfold cellGet
  cases l.find? (fun p => p.1 == b) <;> rfl

theorem cellGet_append (l m : List Host.Cell) (b : Nat) : cellGet (l ++ m) b = (cellGet l b).or (cellGet m b) := by
  simp only [cellGet_eq_map, List.find?_append, Option.map_or]

theorem cellGet_of_forall_ne {l : List Host.Cell} {b : Nat} (h : ∀ c ∈ l, c.1 ≠ b) : cellGet l b = none := by
  rw [cellGet_eq_map, List.find?_eq_none.2 (fun c hc => by simpa using h c hc), Option.map_none]

/-- Cells whose addresses a predicate keeps read as before, where it keeps the address read. -/
theorem cellGet_filter_keep {p : Nat → Bool} {b : Nat} (l : List Host.Cell) (h : p b = true) :
    cellGet (l.filter (fun c => p c.1)) b = cellGet l b := by
  rw [cellGet_eq_map, cellGet_eq_map, find_filter_keep p b l h]

theorem cellGet_filter_drop {p : Nat → Bool} {b : Nat} (l : List Host.Cell) (h : p b = false) :
    cellGet (l.filter (fun c => p c.1)) b = none := by
  rw [cellGet_eq_map, find_filter_drop p b l h, Option.map_none]

/-- A byte of a run reads as itself, whether it is listed or is what an unlisted address reads as. -/
theorem cellGet_cellsOf_or (bg : Nat → Option Byte) (a : Nat) (bs : List Byte) (i : Nat) (hi : i < bs.length) :
    (cellGet ((cellsOf a bs).filter (fun p => bg p.1 != some p.2)) (a + i)).or (bg (a + i)) = some (bs.getD i 0) := by
  induction bs generalizing a i with
  | nil => exact absurd hi (Nat.not_lt_zero i)
  | cons x xs ih =>
    have hrest (c) (hc : c ∈ (cellsOf (a + 1) xs).filter (fun p => bg p.1 != some p.2)) : c.1 ≠ a := by
      have := (cellsOf_mem (a + 1) xs c (List.mem_filter.1 hc).1).1
      omega
    have hsplit : (cellsOf a (x :: xs)).filter (fun p => bg p.1 != some p.2) =
        [(a, x)].filter (fun p => bg p.1 != some p.2) ++ (cellsOf (a + 1) xs).filter (fun p => bg p.1 != some p.2) :=
      List.filter_append (l₁ := [(a, x)]) _
    rw [hsplit, cellGet_append]
    cases i with
    | zero =>
      rw [Nat.add_zero, cellGet_of_forall_ne hrest]
      by_cases hbg : bg a = some x <;> simp [hbg, cellGet_eq_map]
    | succ i =>
      have hfirst : cellGet ([(a, x)].filter (fun p => bg p.1 != some p.2)) (a + (i + 1)) = none := by
        refine cellGet_of_forall_ne fun c hc => ?_
        rw [List.mem_singleton.1 (List.mem_filter.1 hc).1]
        omega
      have hnext := ih (a + 1) i (Nat.lt_of_succ_lt_succ hi)
      rw [hfirst, Option.none_or, ← Nat.add_assoc, Nat.add_right_comm]
      simpa using hnext

/-- A run of bytes stored in a memory is read back, and every other address reads as before. -/
theorem cellGet_cellsPut_or (bg : Nat → Option Byte) (l : List Host.Cell) (a : Nat) (bs : List Byte) (b : Nat) :
    (cellGet (cellsPut bg l a bs) b).or (bg b) =
      if a ≤ b ∧ b < a + bs.length then some (bs.getD (b - a) 0) else (cellGet l b).or (bg b) := by
  unfold cellsPut
  rw [cellGet_append, cellGet_append]
  have hrun (hout : ¬ (a ≤ b ∧ b < a + bs.length)) :
      cellGet ((cellsOf a bs).filter (fun p => bg p.1 != some p.2)) b = none :=
    cellGet_of_forall_ne fun c hc hcb => hout (hcb ▸ cellsOf_mem a bs c (List.mem_filter.1 hc).1)
  rcases Nat.lt_or_ge b a with hlt | hge
  · have hout : ¬ (a ≤ b ∧ b < a + bs.length) := by omega
    rw [cellGet_filter_keep (p := fun x => decide (x < a)) l (by simpa using hlt), hrun hout,
      cellGet_filter_drop (p := fun x => decide (a + bs.length ≤ x)) l (by simp; omega), if_neg hout,
      Option.or_none, Option.or_none]
  · rw [cellGet_filter_drop (p := fun x => decide (x < a)) l (by simpa using hge), Option.none_or]
    by_cases hin : b < a + bs.length
    · have hbyte := cellGet_cellsOf_or bg a bs (b - a) (by omega)
      rw [Nat.add_sub_cancel' hge] at hbyte
      rw [cellGet_filter_drop (p := fun x => decide (a + bs.length ≤ x)) l (by simpa using hin), if_pos ⟨hge, hin⟩,
        Option.or_none, hbyte]
    · have hout : ¬ (a ≤ b ∧ b < a + bs.length) := by omega
      rw [cellGet_filter_keep (p := fun x => decide (a + bs.length ≤ x)) l (by simpa using hin), hrun hout, if_neg hout,
        Option.none_or]

/-- Bytes stored in buffer memory are read back, and every other byte reads as before. -/
theorem dramByte_dram (s : State) (a : Nat) (bs : List Byte) (b : Nat) : (applyEff s (.dram a bs)).dramByte b =
    if a ≤ b ∧ b < a + bs.length then some (bs.getD (b - a) 0) else s.dramByte b :=
  cellGet_cellsPut_or (fillByte s.fills) s.dram a bs b

@[simp] theorem length_fit (n : Nat) (bs : List Byte) : (fit n bs).length = n := by
  simp only [fit, slice, zeros, List.drop_zero, List.length_append, List.length_take, List.length_replicate]
  omega

/-- What storing a word's 64 bytes leaves: the bytes themselves, and nothing else changed. -/
theorem dramWord_stored {bs : List Byte} (hlen : bs.length = 64) (a : Nat) {s t : State} (ht : t = applyAll s [.dram a bs]) :
    (∀ i, i < 64 → t.dramByte (a + i) = some (bs.getD i 0)) ∧ (∀ b, b < a ∨ a + 64 ≤ b → t.dramByte b = s.dramByte b) ∧
      (∀ b, t.norByte b = s.norByte b) ∧ sameRegsBut (fun _ => False) s t ∧ t.dyn = s.dyn ∧ t.out = s.out := by
  subst ht
  refine ⟨fun i hi => ?_, fun b hb => ?_, fun _ => rfl, fun _ _ => rfl, rfl, rfl⟩
  · rw [applyAll_cons, applyAll_nil, dramByte_dram, if_pos (by omega), Nat.add_sub_cancel_left]
  · rw [applyAll_cons, applyAll_nil, dramByte_dram, if_neg (by omega)]

/-- A word on which no bit is in error decodes to its own data (R359). -/
theorem eccDecode_fit_nil : eccDecode (fit 80 []) = .ok (zeros 64) := by decide +kernel

theorem xorBytes_zeros (bs : List Byte) (n : Nat) : xorBytes bs (zeros n) = bs := by
  have hzero (i : Nat) : (zeros n).getD i 0 = 0 := by
    simp only [zeros, List.getD_eq_getElem?_getD, List.getElem?_replicate]
    split <;> rfl
  refine List.ext_getElem (by simp [xorBytes]) fun i _ hi => ?_
  simp only [xorBytes, List.getElem_map, List.getElem_range, hzero]
  refine BitVec.xor_zero.trans ?_
  rw [List.getD_eq_getElem?_getD, List.getElem?_eq_getElem hi, Option.getD_some]

/-- A word whose 64 bytes are all written reads as its data (R359). -/
theorem readWord_of_written {s : State} {a : Nat} {bs : List Byte} (hlen : bs.length = 64)
    (h : ∀ i, i < 64 → s.dramByte (a / 64 * 64 + i) = some (bs.getD i 0)) : readWord s a [] = .ok bs := by
  have hwritten : wordWritten s a = true := by
    have hfirst := h 0 (by decide)
    rw [Nat.add_zero] at hfirst
    rw [wordWritten, hfirst]
    rfl
  have hdata : wordData s a = bs := by
    refine List.ext_getElem (by simp [wordData, hlen]) fun i hi _ => ?_
    have hi64 : i < 64 := by simpa [wordData] using hi
    simp [wordData, h i hi64, hlen, hi64]
  rw [readWord, if_pos hwritten, eccDecode_fit_nil]
  exact congrArg Ecc.ok (hdata ▸ xorBytes_zeros _ _)

section Writes
variable {s : State}

/-- A whole word is stored without being read (R365). -/
theorem memPut_whole {a : Nat} {bs : List Byte} (hserved : a < memEnd s) (hlen : bs.length = 64) (halign : a % 64 = 0)
    (flip : List Byte) (src : Nat) : memPut a bs flip src s = [.dram a bs] := by
  simp [memPut, Nat.not_le.2 hserved, hlen, halign]

/-- A write beyond capacity is an address error alone (R355). -/
theorem memPut_beyond {a : Nat} (hbeyond : memEnd s ≤ a) (bs flip : List Byte) (src : Nat) :
    memPut a bs flip src s = memAddrErr a s := by
  simp [memPut, hbeyond]

/-- Part of a good word is replaced in the word as it is read (R366). -/
theorem memPut_part {a : Nat} {bs flip w : List Byte} (hserved : a < memEnd s) (hpart : bs.length ≠ 64)
    (hword : readWord s a flip = .ok w) (src : Nat) :
    memPut a bs flip src s = [.dram (a / 64 * 64) (patch w (a % 64) bs)] := by
  simp [memPut, Nat.not_le.2 hserved, hpart, hword, Ecc.data, eccLog, seqs_cons]

/-- An address error shows in MEM_STAT and stores to the registers that log it alone (R355). -/
theorem memAddrErr_effect {a : Nat} {t : State} (ht : t = applyAll s (memAddrErr a s)) : t.bit Reg.MEM_STAT 1 = true ∧
    sameMem s t ∧ sameRegsBut (fun b => b = Reg.MEM_STAT ∨ b = Reg.MEM_AERR_LO ∨ b = Reg.MEM_AERR_HI) s t ∧ t.dyn = s.dyn := by
  subst ht
  have hdest : ∀ e ∈ memAddrErr a s, ∃ b, e.dest = some b ∧ (b = Reg.MEM_STAT ∨ b = Reg.MEM_AERR_LO ∨ b = Reg.MEM_AERR_HI) := by
    unfold memAddrErr
    split <;> simp [Eff.dest]
  obtain ⟨hdyn, hmem⟩ := applyAll_of_dest_isSome (fun e he => by
    obtain ⟨b, hb, -⟩ := hdest e he
    rw [hb]; rfl) s
  refine ⟨?_, hmem, sameRegsBut_applyAll (fun e he b hb => ?_) s, hdyn⟩
  · rw [memAddrErr, applyAll_append]
    exact bit_applyEff_sq (by decide) (by decide) (by decide) _
  · obtain ⟨c, hc, hwhich⟩ := hdest e he
    exact Option.some.inj (hc.symm.trans hb) ▸ hwhich

end Writes

theorem length_patch {w bs : List Byte} {o : Nat} (h : o + bs.length ≤ w.length) : (patch w o bs).length = w.length := by
  simp only [patch, List.length_append, List.length_take, List.length_drop]
  omega

theorem exec_memoryWrite_ready {s : State} (hready : memReady s = true) (addr : BitVec 36) (data : List Byte) :
    exec (.memoryWrite addr data) s = .next (applyAll s (memPut (addr.toNat / 64 * 64) (fit 64 data) [] 4 s)) := by
  change execMemoryWrite addr data s = _
  exact run_of_effects (if_pos hready)

theorem exec_memoryWrite_served {addr : BitVec 36} {data : List Byte} {a : Nat} {s : State} (ha : a = addr.toNat / 64 * 64)
    (hready : memReady s = true) (hserved : a < memEnd s) :
    exec (.memoryWrite addr data) s = .next (applyAll s [.dram a (fit 64 data)]) := by
  subst ha
  rw [exec_memoryWrite_ready hready, memPut_whole hserved (length_fit 64 data) (Nat.mul_mod_left _ _)]

theorem exec_memoryWrite_beyond {addr : BitVec 36} {data : List Byte} {a : Nat} {s : State} (ha : a = addr.toNat / 64 * 64)
    (hready : memReady s = true) (hbeyond : memEnd s ≤ a) :
    exec (.memoryWrite addr data) s = .next (applyAll s (memAddrErr a s)) := by
  subst ha
  rw [exec_memoryWrite_ready hready, memPut_beyond hbeyond]

/-- Settles O46: the word's bytes are stored without a read, so that the word reads as what was written. -/
theorem wholeWordWrite : Obligations.WholeWordWrite := by
  unfold Obligations.WholeWordWrite
  intro addr data a s ha _ hready hserved
  have heffect := dramWord_stored (length_fit 64 data) a (s := s) rfl
  refine ⟨_, exec_memoryWrite_served ha hready hserved, ?_, heffect⟩
  refine readWord_of_written (length_fit 64 data) fun i hi => ?_
  have haligned : a / 64 * 64 = a := by omega
  rw [haligned]
  exact heffect.1 i hi

theorem exec_partialWrite_good {addr : BitVec 36} {data w : List Byte} {s : State} (hready : memReady s = true)
    (hserved : addr.toNat < memEnd s) (hlen : data.length = min 63 (64 - addr.toNat % 64)) (hsome : 0 < data.length)
    (hword : readWord s addr.toNat [] = .ok w) : exec (.partialWrite addr data []) s =
      .next (applyAll s [.dram (addr.toNat / 64 * 64) (patch w (addr.toNat % 64) data)]) := by
  have htake : data.take (min 63 (64 - addr.toNat % 64)) = data := List.take_of_length_le (Nat.le_of_eq hlen)
  have hne : data ≠ [] := List.ne_nil_of_length_pos hsome
  change execPartialWrite addr data [] s = _
  refine run_of_effects ?_
  simp only [htake, hready, Bool.true_and]
  simpa [hne] using memPut_part hserved (by omega) hword 4

/-- Before training a write reaches nothing (R356). -/
theorem exec_write_untrained {s : State} (hnot : memReady s = false) (addr : BitVec 36) (data : List Byte) :
    exec (.memoryWrite addr data) s = .next s ∧ exec (.partialWrite addr data []) s = .next s := by
  constructor
  · change execMemoryWrite addr data s = _
    simp [execMemoryWrite, run_next, hnot]
  · change execPartialWrite addr data [] s = _
    simp [execPartialWrite, run_next, hnot]

section Reads
variable {addr : BitVec 36} {a : Nat} {s : State} (ha : a = addr.toNat / 64 * 64) (hready : memReady s = true)
include ha hready

/-- A read within capacity logs what the word shows and delivers its data, if it gives any (R359-R362). -/
theorem exec_memoryRead_served (hserved : a < memEnd s) (cls : Fin 4) (flip : List Byte) :
    exec (.memoryRead cls addr flip) s = .next (applyAll s (seqs [eccLog a cls.val (readWord s a flip),
      fun _ => (readWord s a flip).data.elim [] (fun d => [.emit (.memData a (some d))])] s)) := by
  subst ha
  change execMemoryRead cls addr flip s = _
  refine run_of_effects ?_
  simp only [hready, Nat.not_le.2 hserved, Bool.not_true, Bool.false_eq_true, if_false]
  cases (readWord s (addr.toNat / 64 * 64) flip).data <;> rfl

theorem exec_memoryRead_ok {flip d : List Byte} (hserved : a < memEnd s) (hword : readWord s a flip = .ok d) (cls : Fin 4) :
    exec (.memoryRead cls addr flip) s = .next (applyAll s [.emit (.memData a (some d))]) := by
  rw [exec_memoryRead_served ha hready hserved, hword]
  rfl

theorem exec_memoryRead_corrected {flip d : List Byte} {g q : Nat} (hserved : a < memEnd s)
    (hword : readWord s a flip = .corr d g q) (cls : Fin 4) : exec (.memoryRead cls addr flip) s =
      .next (applyAll s (seqs [memCe a g q cls.val, fun _ => [.emit (.memData a (some d))]] s)) := by
  rw [exec_memoryRead_served ha hready hserved, hword]
  rfl

theorem exec_memoryRead_uncorrectable {flip : List Byte} {l : Nat} (hserved : a < memEnd s)
    (hword : readWord s a flip = .bad l) (cls : Fin 4) :
    exec (.memoryRead cls addr flip) s = .next (applyAll s (memUe a l cls.val s)) := by
  rw [exec_memoryRead_served ha hready hserved, hword]
  simp [Ecc.data, eccLog, seqs_cons]

theorem exec_memoryRead_beyond (hbeyond : memEnd s ≤ a) (cls : Fin 4) (flip : List Byte) :
    exec (.memoryRead cls addr flip) s =
      .next (applyAll s (seqs [memAddrErr a, fun _ => [.emit (.memData a none)]] s)) := by
  subst ha
  change execMemoryRead cls addr flip s = _
  exact run_of_effects (by simp [hready, hbeyond])

end Reads

/-- Settles O47: a write stores its word, or none beyond capacity; a read delivers what the word's class gives. -/
theorem memoryAccesses : Obligations.MemoryAccesses := by
  unfold Obligations.MemoryAccesses
  constructor
  · intro addr data a s ha _
    refine ⟨fun hready hserved => ⟨_, exec_memoryWrite_served ha hready hserved, dramWord_stored (length_fit 64 data) a rfl⟩,
      
      fun hready hbeyond => ⟨_, exec_memoryWrite_beyond ha hready hbeyond, memAddrErr_effect rfl⟩, ?part,
      fun hnot => exec_write_untrained hnot addr data⟩
    case part =>
      rintro w n hready hserved rfl hlen hsome hword hw
      have hpatch : (patch w (addr.toNat % 64) data).length = 64 := by rw [length_patch (by omega), hw]
      obtain ⟨hbytes, hrest, -, hregs, hdyn, -⟩ := dramWord_stored hpatch a (s := s) rfl
      exact ⟨_, ha ▸ exec_partialWrite_good hready hserved hlen (hlen ▸ hsome) hword, hbytes, hrest, hregs, hdyn⟩
  · intro cls sub addr flip a s ha hready
    exact ⟨fun _ hserved hword => exec_memoryRead_ok ha hready hserved hword cls,
      fun _ _ _ hserved hword => exec_memoryRead_corrected ha hready hserved hword cls,
      fun _ hserved hword => exec_memoryRead_uncorrectable ha hready hserved hword cls,
      fun hbeyond => exec_memoryRead_beyond ha hready hbeyond cls flip, rfl⟩

end Sys2Proof.Machine

/-! Steps, reset, and the ball of the motor power device. -/

namespace Sys2Proof.Machine

/-- Settles O1: a step takes the front command, or ticks where there is none. -/
theorem stepRunsTheFrontCommand : Obligations.StepRunsTheFrontCommand := by
  unfold Obligations.StepRunsTheFrontCommand
  intro c rest s
  constructor
  · rfl
  · intro hnone
    unfold step
    rw [hnone]

/-- Settles O2: no register word and no cell is listed after reset, and every other field has its initial value. -/
theorem resetLeaves : Obligations.ResetLeaves := by
  unfold Obligations.ResetLeaves
  have hword (a : Nat) : State.reset.reg a = resetWord a := rfl
  refine ⟨hword, ?_, ?_, rfl, rfl, rfl, rfl, rfl, rfl, rfl, rfl, rfl, rfl⟩
  · rw [hword]; decide
  · rw [hword]; decide

theorem exec_mpdFault_up {s : State} (hup : s.up 1 = true) :
    exec .mpdFault s = .next (applyAll s [updMpd (fun m => { m with low := true }), .sq Reg.PAD_STAT 1]) := by
  change execMpdFault s = _
  simp [execMpdFault, run_next, hup]

/-- Settles O59: the fall is recorded as one event of PAD_STAT. -/
theorem motorFaultOnlyRecorded : Obligations.MotorFaultOnlyRecorded := by
  unfold Obligations.MotorFaultOnlyRecorded
  intro s hup
  refine ⟨_, exec_mpdFault_up hup, bit_applyEff_sq (by decide) (by decide) (by decide) _, rfl, ?_, ?_, rfl⟩
  · exact sameRegsBut_applyAll (by simp [updMpd, Eff.dest]) s
  · exact sameMem_applyAll (by simp [updMpd, Eff.stores]) s

end Sys2Proof.Machine

/-! The system cache: requests, fills, victims and initialisation (R371-R381). -/

namespace Sys2Proof.Machine

section Requests
variable {addr : BitVec 36} {line : Nat} {s : State} (hline : line = addr.toNat / 64) (hready : memReady s = true)
  (hup : s.up 20 = true) (hset : s.up (setDom line) = true) (hclear : s.dyn.cch.ready = true)
  (hfill : s.dyn.cch.filling.any (fun f => f.line == line) = false)
  (hleave : s.dyn.cch.evict.any (fun e => e.1 == line) = false)
include hline hready hup hset hclear hfill hleave

/-- A read waits for nothing but the disable of its way: else its lookup serves it (R371). -/
theorem exec_cacheRequest_read (hway : ∀ l, cacheLine s line = some l → s.dyn.cch.due.contains l.way = false)
    (req : Requester) (alloc : Bool) (err : CacheErr) : exec (.cacheRequest req addr alloc none err) s =
      .next (applyAll s (cacheAccess req addr.toNat (mayAllocate req alloc) none err s)) := by
  subst hline
  change execCacheRequest req addr alloc none err s = _
  refine run_of_effects ?_
  cases hl : cacheLine s (addr.toNat / 64) with
  | none => simp [hready, hup, hset, hclear, hfill, hleave, hl]
  | some l =>
    have hfree : l.way ∉ s.dyn.cch.due := by simpa using hway l hl
    simp [hready, hup, hset, hclear, hfill, hleave, hl, hfree]

theorem exec_cacheRequest_hit {l : CLine} (hhit : cacheLine s line = some l) (hway : s.dyn.cch.due.contains l.way = false)
    (req : Requester) (alloc : Bool) : exec (.cacheRequest req addr alloc none .none) s = .next (applyAll s
      [.cnt Reg.CCH_HIT_CNT 31 0 1, updCch (fun c => touch c l.line l.way), .emit (.memData (l.line * 64) (some l.data))]) := by
  rw [exec_cacheRequest_read hline hready hup hset hclear hfill hleave (fun k hk => by
    rw [hhit] at hk; exact Option.some.inj hk ▸ hway)]
  subst hline
  simp [cacheAccess, hhit, serveHit, seqs_cons]

/-- A read that misses is served as a miss (R372). -/
theorem exec_cacheRequest_miss (hmiss : cacheLine s line = none) (req : Requester) (alloc : Bool) :
    exec (.cacheRequest req addr alloc none .none) s =
      .next (applyAll s (serveMiss req line addr.toNat (mayAllocate req alloc) none s)) := by
  rw [exec_cacheRequest_read hline hready hup hset hclear hfill hleave (fun k hk => by rw [hmiss] at hk; cases hk)]
  subst hline
  simp [cacheAccess, hmiss, seqs_cons]

/-- Two tags that match are an error of the arrays, whatever the line (R379). -/
theorem exec_cacheRequest_tagDouble (hmiss : cacheLine s line = none) (req : Requester) (alloc : Bool) :
    exec (.cacheRequest req addr alloc none .tagDouble) s = .next (applyAll s (raiseSrc .warm 4 0 s)) := by
  rw [exec_cacheRequest_read hline hready hup hset hclear hfill hleave (fun k hk => by rw [hmiss] at hk; cases hk)]
  simp [cacheAccess, seqs_cons]

end Requests

section Lines
variable {addr : BitVec 36} {line : Nat} {d : List Byte} {s : State}

/-- The fill of a line that a read missed makes it valid and delivers it (R378). -/
theorem exec_cacheFillComplete_read {f : CFill} (hline : line = addr.toNat / 64) (hready : memReady s = true)
    (hfill : s.dyn.cch.filling.find? (fun f => f.line == line) = some f) (hread : f.wr = none)
    (hstays : s.dyn.cch.evict.any (fun e => e.1 == line) = false) (hserved : line * 64 < memEnd s)
    (hword : readWord s (line * 64) [] = .ok d) : exec (.cacheFillComplete addr) s = .next (applyAll s [
      updCch (fun c => { c with filling := c.filling.filter (fun x => x.line != line) }),
      updCch (fun c => touch { c with lines := c.lines ++ [⟨line, f.way, false, d⟩] } line f.way),
      .emit (.memData (line * 64) (some d))]) := by
  subst hline
  change execCacheFillComplete addr s = _
  refine run_of_effects ?_
  simp only [hready, hstays, Bool.not_true, Bool.or_self, Bool.false_eq_true, if_false]
  simp [fillDone, hfill, Nat.not_le.2 hserved, hread, hword, Ecc.data, reqLog, seqs_cons, install]

theorem exec_cacheWritebackAccept_oldest {l : Nat} {rest : List (Nat × List Byte)} (hready : memReady s = true)
    (hevict : s.dyn.cch.evict = (l, d) :: rest) : exec .cacheWritebackAccept s =
      .next (applyAll s (seqs [memPut (l * 64) d [] 4, fun _ => [updCch (fun c => { c with evict := rest })]] s)) := by
  change execCacheWritebackAccept s = _
  refine run_of_effects ?_
  simp only [hready, if_true, takeVictim, hevict]

theorem exec_cacheInitDone_up (hup : s.levelUp 5 = true) :
    exec .cacheInitDone s = .next (applyAll s [updCch (fun c => { c with ready := true })]) := by
  change execCacheInitDone s = _
  exact run_of_effects (if_pos hup)

end Lines

/-- Settles O49: what a lookup finds decides how the read is served; a fill, a victim and the clear each run their action. -/
theorem cacheRequestsAndLines : Obligations.CacheRequestsAndLines := by
  unfold Obligations.CacheRequestsAndLines
  constructor
  · intro req addr alloc line s hline hready hup hset hclear hfill hleave
    have hmissed (hmiss : cacheLine s line = none) :=
      exec_cacheRequest_miss hline hready hup hset hclear hfill hleave hmiss req alloc
    refine ⟨fun _ hhit hway => exec_cacheRequest_hit hline hready hup hset hclear hfill hleave hhit hway req alloc,
      fun hmiss halloc => ?allocates, fun hmiss hno => ?passes,
      fun hmiss => exec_cacheRequest_tagDouble hline hready hup hset hclear hfill hleave hmiss req alloc⟩
    case allocates =>
      rw [hmissed hmiss, halloc]
      rfl
    case passes =>
      rw [hmissed hmiss, hno]
      rfl
  · intro addr line d s hline hready
    exact ⟨fun _ hfill hread hstays hserved hword =>
        exec_cacheFillComplete_read hline hready hfill hread hstays hserved hword,
      fun _ _ => exec_cacheWritebackAccept_oldest hready, exec_cacheInitDone_up⟩

end Sys2Proof.Machine

/-! Shoal: submissions, and how engines take tasks (R323-R333). -/

namespace Sys2Proof.Machine

/-- A write of a _HI register that reaches it commits the low word its initiator has staged (R48). -/
theorem run_hiWrite_staged {init : Initiator} {hi lo : Nat} {low : Word} {s : State} (hacc : accReady s init hi = true)
    (hstage : staged s init lo = some low) (act : Option Word → Act) {a : Act} (ha : act (some low) s = a s) :
    run (wrAccess init hi (hiWrite init lo act)) s = .next (applyAll s (seqs [a, fun _ => [unstage init]] s)) := by
  refine run_of_effects ?_
  rw [wrAccess_ready s init hi _ hacc, hiWrite_staged hstage, ha]
  rfl

/-- The task a submission queues (R323). -/
abbrev submitted (s : State) (p : Nat) (d : List Byte) : STask := ⟨s.dyn.shl.next, p, d, leAt d 2 2, 0, none⟩

section Submission
variable {p : Nat} {low data : Word} {s : State}

theorem hSubmit_room {d : List Byte} {a : Nat} (ha : a = low.toNat / 64 * 64 + data.fld 3 0 * 2 ^ 32)
    (hroom : (s.fifo p).length < 1024)
    (hwait : s.dyn.shl.engs.any (fun e => (e.wait.map (fun t => t.pool)) == some p) = false) (hready : memReady s = true)
    (hdesc : reqRead s a 64 = some d) (hcompl : (submitted s p d).compl % 16 = 0) :
    hSubmit p (some low) data s = seqs [fun _ => [.reg (Reg.SHL_SUBMIT_LO p) low, .reg (Reg.SHL_SUBMIT_HI p) data],
      reqReadEv true a 64 2, fun _ => [updShl (fun x => { x with
        fifos := modAt x.fifos p (fun f => f ++ [submitted s p d]),
        flight := (s.dyn.shl.next, leAt d 2 2) :: x.flight, next := s.dyn.shl.next + 1 }), wakeAll]] s := by
  have hgood : ¬ (submitted s p d).compl % 16 ≠ 0 := fun hbad => hbad hcompl
  simp only [hSubmit, ← ha, Nat.not_le.2 hroom, hwait, hready, hdesc, if_neg hgood, decide_false, Bool.or_self,
    Bool.false_eq_true, if_true, if_false]

/-- With no room the words are latched and OVERFLOW is set (R333). -/
theorem hSubmit_full (hfull : 1024 ≤ (s.fifo p).length) : hSubmit p (some low) data s =
    [.reg (Reg.SHL_SUBMIT_LO p) low, .reg (Reg.SHL_SUBMIT_HI p) data, .sq Reg.SHL_STAT 16] := by
  simp [hSubmit, hfull, seqs_cons]

theorem submitOverflow_effect (p : Nat) (low data : Word) (init : Initiator) {t : State} (ht : t = applyAll s (seqs [
      fun _ => [.reg (Reg.SHL_SUBMIT_LO p) low, .reg (Reg.SHL_SUBMIT_HI p) data, .sq Reg.SHL_STAT 16],
      fun _ => [unstage init]] s)) : t.bit Reg.SHL_STAT 4 = true ∧ t.dyn.shl = s.dyn.shl ∧
    sameRegsBut (fun a => a = Reg.SHL_SUBMIT_LO p ∨ a = Reg.SHL_SUBMIT_HI p ∨ a = Reg.SHL_STAT) s t ∧ sameMem s t := by
  subst ht
  refine ⟨bit_applyEff_sq (by decide) (by decide) (by decide) _, rfl, sameRegsBut_applyAll ?_ s, sameMem_applyAll ?_ s⟩
  · simp [seqs_cons, unstage, Eff.dest]
  · simp [seqs_cons, unstage, Eff.stores]

end Submission

section Taking
variable {eng : Fin 64} {t : STask} {s : State} (htake : canTake s eng.val = true)
include htake

theorem exec_engineTakeTask_deque {rest : List STask} (hdeque : (s.eng eng.val).deque = t :: rest) :
    exec (.engineTakeTask eng) s = .next (applyAll s (seqs [fun _ => [updEng eng.val (fun x => { x with deque := rest })],
      startTask eng.val (eng.val / 8) t] s)) := by
  change execEngineTakeTask eng s = _
  simp [execEngineTakeTask, run_next, htake, hdeque]

theorem exec_engineTakeTask_fifo {rest : List STask} (hdeque : (s.eng eng.val).deque = [])
    (hfifo : s.fifo (eng.val / 8) = t :: rest) : exec (.engineTakeTask eng) s = .next (applyAll s (seqs [
      fun _ => [updShl (fun x => { x with fifos := setAt x.fifos (eng.val / 8) rest })],
      startTask eng.val (eng.val / 8) t] s)) := by
  change execEngineTakeTask eng s = _
  simp [execEngineTakeTask, run_next, htake, hdeque, hfifo]

variable (hawake : (s.eng eng.val).asleep = false) (hdeque : (s.eng eng.val).deque = []) (hfifo : s.fifo (eng.val / 8) = [])
include hawake hdeque hfifo

/-- An attempt that finds a task at the tail of a deque takes it (R328). -/
theorem exec_stealAttempt_tail {v : Nat} (hgoes : (s.eng eng.val).sweep < 7 ∨ crossOn s = true)
    (hplace : sweepAt s eng.val (s.eng eng.val).sweep = .inl v) (htail : (s.eng v).deque.getLast? = some t) :
    exec (.stealAttempt eng) s = .next (applyAll s (seqs [
      fun _ => [updEng v (fun y => { y with deque := y.deque.dropLast })],
      stolen eng.val (s.eng eng.val).sweep (if (s.eng eng.val).sweep < 7 then v else v / 8) t] s)) := by
  change execStealAttempt eng s = _
  have hon : (decide (7 ≤ (s.eng eng.val).sweep) && !crossOn s) = false := by
    rcases hgoes with hown | hcross
    · simp [Nat.not_le.2 hown]
    · simp [hcross]
  simp only [execStealAttempt, run_next, htake, hawake, hdeque, hfifo, hon, hplace, htail, List.isEmpty_nil, Bool.not_true,
    Bool.or_self, Bool.false_eq_true, if_false]

/-- One that finds a task at the head of another pool's FIFO takes that (R328). -/
theorem exec_stealAttempt_head {p : Nat} {rest : List STask} (hcross : crossOn s = true)
    (hplace : sweepAt s eng.val (s.eng eng.val).sweep = .inr p) (hhead : s.fifo p = t :: rest) :
    exec (.stealAttempt eng) s = .next (applyAll s (seqs [
      fun _ => [updShl (fun y => { y with fifos := setAt y.fifos p rest })],
      stolen eng.val (s.eng eng.val).sweep p t] s)) := by
  change execStealAttempt eng s = _
  simp only [execStealAttempt, run_next, htake, hawake, hdeque, hfifo, hcross, hplace, hhead, List.isEmpty_nil, Bool.not_true,
    Bool.and_false, Bool.or_self, Bool.false_eq_true, if_false]

/-- One that finds an empty deque moves the sweep to its next place (R328). -/
theorem exec_stealAttempt_empty {v : Nat} (hplaces : (s.eng eng.val).sweep < 6)
    (hplace : sweepAt s eng.val (s.eng eng.val).sweep = .inl v) (hempty : (s.eng v).deque.getLast? = none) :
    exec (.stealAttempt eng) s =
      .next (applyAll s [updEng eng.val (fun y => { y with sweep := (s.eng eng.val).sweep + 1 })]) := by
  change execStealAttempt eng s = _
  have hown : ¬ 7 ≤ (s.eng eng.val).sweep := by omega
  have hnext : (s.eng eng.val).sweep + 1 < (if crossOn s then 70 else 7) := by split <;> omega
  simp only [execStealAttempt, run_next, htake, hawake, hdeque, hfifo, hplace, hempty, hown, if_pos hnext, List.isEmpty_nil,
    Bool.not_true, decide_false, Bool.false_and, Bool.or_self, Bool.false_eq_true, if_false]

end Taking

/-- A task with a bad descriptor ends as it starts (R325). -/
theorem startTask_bad {t : STask} {s : State} (hseg : t.seg = none) (hbad : descBad t (s.shlKey t.key).length = true)
    (e p : Nat) : startTask e p t s = [updEng e (fun x => { x with
      run := some { task := { t with pool := p }, key := if t.keyed then s.shlKey t.key else [], res := some (1, 0) },
      asleep := false, sweep := 0, op := t.op, gen := t.gen })] := by
  simp [startTask, hseg, hbad]

/-- Settles O42: a submission with room queues its task, one without sets OVERFLOW; an engine takes what stands first in the order of
its sources. -/
theorem tasksSubmittedAndTaken : Obligations.TasksSubmittedAndTaken := by
  unfold Obligations.TasksSubmittedAndTaken
  constructor
  · intro init pool data low a s hacc hstage ha
    exact ⟨fun _ hroom hwait hready hdesc hcompl => run_hiWrite_staged hacc hstage _
        (hSubmit_room ha hroom hwait hready hdesc hcompl),
      fun hfull => ⟨_, run_hiWrite_staged hacc hstage _ (a := fun _ => _) (hSubmit_full hfull),
        submitOverflow_effect pool.val low data init rfl⟩⟩
  · intro eng t s htake
    exact ⟨fun _ => exec_engineTakeTask_deque htake, fun _ => exec_engineTakeTask_fifo htake,
      fun _ hawake hdeque hfifo => exec_stealAttempt_tail htake hawake hdeque hfifo,
      fun _ _ hawake hdeque hfifo => exec_stealAttempt_head htake hawake hdeque hfifo,
      fun _ hawake hdeque hfifo => exec_stealAttempt_empty htake hawake hdeque hfifo,
      fun e p hseg hbad => startTask_bad hseg hbad e p⟩

end Sys2Proof.Machine

/-! Shoal: what the tasks compute, and where it is written (R324, R330, R339-R348, R534). -/

namespace Sys2Proof.Machine

section IoTask
variable {e src n dst : Nat} {g : List Byte → Nat × Nat × List Byte} {bs : List Byte} {s : State}

/-- A source that cannot be read ends the task as a DRAM error does (R534). -/
theorem ioTask_unreadable (hsrc : reqRead s src n = none) (m : Nat) :
    ioTask e src n dst m g s = seqs [reqReadEv false src n 2, dramFail e dst m] s := by
  simp only [ioTask, hsrc]

/-- So does output beyond capacity, unless the engine is fenced (R534). -/
theorem ioTask_overflow (hsrc : reqRead s src n = some bs) (hout : (g bs).2.2 ≠ [])
    (hfits : memFits s dst (g bs).2.2.length = false) (hfree : (s.eng e).fenced = false) (m : Nat) : ioTask e src n dst m g s =
      seqs [reqReadEv false src n 2, memAddrErr (max dst (memEnd s) / 64 * 64), dramFail e dst m] s := by
  simp [ioTask, hsrc, hout, hfits, hfree]

theorem ioTask_fits (hsrc : reqRead s src n = some bs) (hout : (g bs).2.2 ≠ [])
    (hfits : memFits s dst (g bs).2.2.length = true) (m : Nat) : ioTask e src n dst m g s =
      seqs [reqReadEv false src n 2, engWrite e dst (g bs).2.2, fun _ => [endTask e (g bs).1 (g bs).2.1]] s := by
  simp [ioTask, hsrc, hout, hfits]

end IoTask

theorem engWrite_fenced {e : Nat} {s : State} (hfenced : (s.eng e).fenced = true) (dst : Nat) (bs : List Byte) :
    engWrite e dst bs s = [] :=
  if_pos hfenced

section Compute
variable {eng : Fin 64} {r : SRun} {s : State}

theorem exec_sectDec_running (hrun : running s eng.val 1 = some r) : exec (.sectDec eng) s = .next (applyAll s (
    ioTask eng.val r.task.src (4160 * r.task.len) r.task.dst (4096 * r.task.len) (fun bs => (0, 0,
      (indexed (pieces 4160 r.task.len bs)).flatMap (fun p =>
        if r.task.plain then p.2.take 4096 else xts false r.key (r.task.aux + p.1) (p.2.take 4096)))) s)) := by
  change execSectDec eng s = _
  simp only [execSectDec, run_next, hrun]

theorem exec_sectEnc_running (hrun : running s eng.val 2 = some r) : exec (.sectEnc eng) s = .next (applyAll s (
    ioTask eng.val r.task.src (4096 * r.task.len) r.task.dst (4160 * r.task.len) (fun bs => (0, 0,
      (indexed (pieces 4096 r.task.len bs)).flatMap (fun p =>
        dataInfo r.task.head r.task.band (r.task.sector + p.1) r.task.kind r.task.epoch
          (if r.task.plain then p.2 else xts true r.key (r.task.aux + p.1) p.2) ++ zeros 48))) s)) := by
  change execSectEnc eng s = _
  simp only [execSectEnc, run_next, hrun]

theorem exec_parGen_running (hrun : running s eng.val 3 = some r) : exec (.parGen eng) s = .next (applyAll s (
    ioTask eng.val r.task.src 266240 r.task.dst 8320 (fun bs => (0, 0,
      parityInfo 0 r.task.head r.task.band r.task.sector r.task.epoch ((pieces 4160 64 bs).map (fun d => d.take 4112)) ++ zeros 48 ++
      parityInfo 1 r.task.head r.task.band (r.task.sector + 1) r.task.epoch ((pieces 4160 64 bs).map (fun d => d.take 4112)) ++
      zeros 48)) s)) := by
  change execParGen eng s = _
  simp only [execParGen, run_next, hrun]

/-- A rebuild gives the lost sectors in their order, whatever its STATUS (R342). -/
theorem exec_parRebuild_running (hrun : running s eng.val 4 = some r) : ∃ g, exec (.parRebuild eng) s = .next (applyAll s (
      ioTask eng.val r.task.src 274560 r.task.dst (4160 * r.task.lost.length) g s)) ∧
    ∀ bs, (g bs).2.2 = r.task.lost.flatMap (fun i => rebuiltInfo (fun k => ((pieces 4160 66 bs).getD k []).take 4112) r.task.lost i
      r.task.head r.task.band r.task.sector r.task.kind r.task.epoch ++ zeros 48) := by
  change ∃ g, execParRebuild eng s = _ ∧ _
  simp only [execParRebuild, run_next, hrun]
  exact ⟨_, rfl, fun bs => List.flatMap_map _ _ _⟩

theorem exec_digest_running (hrun : running s eng.val 6 = some r) : exec (.digest eng) s = .next (applyAll s (
    ioTask eng.val r.task.src r.task.len r.task.dst 32 (fun bs => (0, 0, sha256 bs)) s)) := by
  change execDigest eng s = _
  simp only [execDigest, run_next, hrun]

theorem exec_crc_running (hrun : running s eng.val 7 = some r) : exec (.crc eng) s = .next (applyAll s (
    ioTask eng.val r.task.src r.task.len r.task.dst 0 (fun bs =>
      (0, if (leAt r.task.desc 34 1).testBit 0 then crc64 bs else (crc32c bs).toNat, [])) s)) := by
  change execCrc eng s = _
  simp only [execCrc, run_next, hrun]

theorem exec_crc_crc32c (hrun : running s eng.val 7 = some r) (hkind : (leAt r.task.desc 34 1).testBit 0 = false) :
    exec (.crc eng) s = .next (applyAll s (
      ioTask eng.val r.task.src r.task.len r.task.dst 0 (fun bs => (0, (crc32c bs).toNat, [])) s)) := by
  rw [exec_crc_running hrun, hkind]
  rfl

theorem exec_crc_crc64 (hrun : running s eng.val 7 = some r) (hkind : (leAt r.task.desc 34 1).testBit 0 = true) :
    exec (.crc eng) s = .next (applyAll s (
      ioTask eng.val r.task.src r.task.len r.task.dst 0 (fun bs => (0, crc64 bs, [])) s)) := by
  rw [exec_crc_running hrun, hkind]
  rfl

end Compute

/-- Settles O43: each task is a read of SRC, a function of its bytes and a write of what the function gives. -/
theorem tasksCompute : Obligations.TasksCompute := by
  unfold Obligations.TasksCompute
  intro eng r s
  exact ⟨fun _ _ _ m _ hsrc => ioTask_unreadable hsrc m,
    fun _ _ _ m _ _ hsrc hout hfits hfree => ioTask_overflow hsrc hout hfits hfree m,
    fun _ _ _ m _ _ hsrc hout hfits => ioTask_fits hsrc hout hfits m,
    fun dst bs hfenced => engWrite_fenced hfenced dst bs,
    exec_sectDec_running, exec_sectEnc_running, exec_parGen_running, exec_parRebuild_running, exec_digest_running,
    exec_crc_crc32c, exec_crc_crc64⟩

/-! Derive tasks (R344-R348). -/

section Derive
variable {eng : Fin 64} {r : SRun} {s : State}

theorem exec_derive_splits {recipe : List Byte} (hrun : running s eng.val 5 = some r)
    (hcheck : deriveCheck s r.task = .inr recipe) (hsplit : (leAt r.task.desc 40 1).testBit 0 = false)
    (hfree : (s.eng eng.val).fenced = false) :
    exec (.derive eng) s = .next (applyAll s (seqs [readRecipeEv r.task.aux (64 * leAt r.task.desc 34 2), seqs [
      fun _ => [updShl (fun x => { x with parents := ⟨r.task, eng.val, recipe, ((rcEntries recipe).filter (fun x => x.op == 4)).map
          (fun x => (x.key, s.shlKey x.key)), List.replicate (rcSegCount recipe) none⟩ :: x.parents }),
        updEng eng.val (fun x => { x with run := some { r with push := List.range (rcSegCount recipe) } })],
      pushSegs eng.val (rcSegCount recipe + 1)]] s)) := by
  change execDerive eng s = _
  simp only [execDerive, run_next, hrun, hcheck, hsplit, hfree, Bool.false_eq_true, if_false]

theorem exec_deriveCheckOnly_passes {recipe : List Byte} (hrun : running s eng.val 5 = some r)
    (hcheck : deriveCheck s r.task = .inr recipe) (honly : (leAt r.task.desc 40 1).testBit 0 = true) :
    exec (.deriveCheckOnly eng) s = .next (applyAll s (seqs [readRecipeEv r.task.aux (64 * leAt r.task.desc 34 2),
      fun _ => [endTask eng.val 0 (rcOut recipe)]] s)) := by
  change execDeriveCheckOnly eng s = _
  simp only [execDeriveCheckOnly, run_next, hrun, hcheck, honly, Bool.not_true, Bool.false_eq_true, if_false]

theorem exec_segment_fits {pid k : Nat} {par : SParent} {seg : Entry} {es : List Entry} (hrun : running s eng.val 0x85 = some r)
    (hseg : (r.sub.getD r.task).seg = some (pid, k)) (hpar : s.dyn.shl.parents.find? (fun p => p.task.id == pid) = some par)
    (hentries : rcSegment k (rcEntries par.recipe) = some (seg, es)) (hread : segReadable s par.task.src es = true)
    (hfits : memFits s (par.task.dst + seg.dst) seg.len = true) :
    exec (.segment eng) s = .next (applyAll s (seqs [
      each (es.filter (fun x => x.op == 2)) (fun x => reqReadEv false (par.task.src + x.src) x.len 2),
      localPut eng.val (segWindow par.recipe
        (fun o n => (reqRead s (par.task.src + o) n).getD (zeros n))
        (fun slot => ((par.keys.find? (fun x => x.1 == slot)).map (fun x => x.2)).getD []) seg es),
      fun s => engWrite eng.val (par.task.dst + seg.dst) ((s.eng eng.val).local 0 seg.len) s,
      fun _ => [endTask eng.val 0 0]] s)) := by
  change execSegment eng s = _
  simp only [execSegment, run_next, hrun, hseg, hpar, hentries, hread, hfits, Bool.not_true, Bool.or_true, Bool.false_eq_true,
    if_false, if_true, seqs_cons, seqs_nil, List.append_nil]

end Derive

/-- Settles O44: a recipe that passes is split, or measured alone; a segment makes its window and writes it. -/
theorem deriveTasks : Obligations.DeriveTasks := by
  unfold Obligations.DeriveTasks
  intro eng r recipe s
  exact ⟨exec_derive_splits, exec_deriveCheckOnly_passes, fun _ _ _ _ _ => exec_segment_fits⟩

end Sys2Proof.Machine

/-! Shoal: completion, fences and key slots (R326, R330-R337, R350). -/

namespace Sys2Proof.Machine

/-- A task out of flight is stale, whatever its segment (R335). -/
theorem complTask_stale {t : STask} {s : State} (hstale : s.dyn.shl.flight.contains (t.id, t.gen) = false) (st v e : Nat) :
    complTask t st v e s = [.cnt Reg.SHL_STALE_CNT 31 0 1, .sq Reg.SHL_STAT 4] := by
  simp only [complTask, hstale, Bool.not_false, if_true]

section Ending
variable {eng : Fin 64} {r : SRun} {s : State} (hrun : (s.eng eng.val).run = some r) (hup : s.up 100 = true)
  (hpool : poolUp s (eng.val / 8) = true)
include hrun hup hpool

theorem exec_taskComplete_ended {st v : Nat} (hres : r.res = some (st, v)) (hsub : r.sub = none) (hready : reqReady s = true) :
    exec (.taskComplete eng) s = .next (applyAll s (seqs [fun _ => [updEng eng.val (fun x => { x with run := none })],
      complTask r.task st v eng.val] s)) := by
  change execTaskComplete eng s = _
  simp only [execTaskComplete, run_next, hrun, hres, hsub, hup, hpool, hready, Bool.not_true, Bool.or_self, Bool.false_eq_true,
    if_false]

theorem exec_taskDeadlineExpiry_unsplit (hpush : r.push = []) (hfree : (s.eng eng.val).fenced = false) :
    exec (.taskDeadlineExpiry eng) s = .next (applyAll s (seqs [fun _ => [
      updEng eng.val (fun x => { x with fenced := true, reset := false, deque := x.deque, run := some { r with push := [] } }),
      updShl (fun x => { x with next := s.dyn.shl.next, flight := x.flight }), .sq Reg.SHL_STAT 2, .cnt Reg.SHL_FENCE_CNT 31 0 1],
      reissue eng.val (r.sub.getD r.task)] s)) := by
  change execTaskDeadlineExpiry eng s = _
  simp [execTaskDeadlineExpiry, run_next, hrun, hup, hpool, hfree, hpush, indexed]

end Ending

theorem exec_reissueBufferDrain_room {pool : Fin 8} {e : Nat} {t : STask} {s : State}
    (hfind : (List.range 64).find? (fun e => ((s.eng e).wait.map (fun t => t.pool)) == some pool.val) = some e)
    (hwait : (s.eng e).wait = some t) (hup : s.up 100 = true) (hroom : (s.fifo pool.val).length < 1024) :
    exec (.reissueBufferDrain pool) s = .next (applyAll s [
      updShl (fun x => { x with fifos := modAt x.fifos pool.val (fun f => t :: f) }), updEng e (fun x => { x with wait := none }),
      wakeAll]) := by
  change execReissueBufferDrain pool s = _
  simp [execReissueBufferDrain, run_next, hfind, hwait, hup, hroom]

theorem exec_engineResetDone_clearing {eng : Fin 64} {s : State} (hup : s.up 100 = true) (hpool : poolUp s (eng.val / 8) = true)
    (hclr : (s.eng eng.val).clearing = true) : exec (.engineResetDone eng) s =
      .next (applyAll s [updEng eng.val (fun x => { x with mem := some [], reset := x.fenced })]) := by
  change execEngineResetDone eng s = _
  simp [execEngineResetDone, run_next, hup, hpool, hclr]

/-! Key slots (R337). -/

section Keys
variable {init : Initiator} {data : Word} {s : State}

theorem exec_keySelWrite_ready (hacc : accReady s init Reg.SHL_KEY_SEL = true) :
    exec (.keySelWrite init data) s = .next (applyAll s (hKeySel data s)) :=
  run_of_effects (wrAccess_ready s init _ _ hacc)

theorem hKeySel_empties (hlen : data.fld 23 16 = 0) :
    hKeySel data s = [keyPut (data.fld 9 0) [], updShl (fun x => { x with sel := none })] := by
  simp [hKeySel, hlen]

theorem hKeySel_loads (hlen : data.fld 23 16 = 16 ∨ data.fld 23 16 = 32 ∨ data.fld 23 16 = 64) :
    hKeySel data s = [updShl (fun x => { x with sel := some (data.fld 9 0, data.fld 23 16, []) })] := by
  obtain hlen | hlen | hlen := hlen <;> simp [hKeySel, hlen]

theorem exec_keyDataWrite_ready (hacc : accReady s init Reg.SHL_KEY_DATA = true) :
    exec (.keyDataWrite init data) s = .next (applyAll s (hKeyData data s)) :=
  run_of_effects (wrAccess_ready s init _ _ hacc)

variable {k n : Nat} {bs : List Byte} (hsel : s.dyn.shl.sel = some (k, n, bs))
include hsel

/-- The word that completes the key gives the slot its key. -/
theorem hKeyData_last (hlast : n ≤ bs.length + 4) : hKeyData data s =
    [keyPut k (bs ++ leBytes 4 data.toNat), updShl (fun x => { x with sel := none })] := by
  simp [hKeyData, hsel, leBytes, hlast]

theorem hKeyData_more (hmore : bs.length + 4 < n) : hKeyData data s =
    [updShl (fun x => { x with sel := some (k, n, bs ++ leBytes 4 data.toNat) })] := by
  simp [hKeyData, hsel, leBytes, Nat.not_le.2 hmore]

end Keys

/-- Settles O45: a task ends by completion or by its deadline, a fenced engine returns through a reset, a key slot takes its key word
by word. -/
theorem tasksCompletedAndKeys : Obligations.TasksCompletedAndKeys := by
  unfold Obligations.TasksCompletedAndKeys
  constructor
  · intro init eng pool data low r st v idx t s
    exact ⟨fun hrun hres hsub hup hpool hready => exec_taskComplete_ended hrun hup hpool hres hsub hready,
      fun hstale => complTask_stale hstale st v eng.val,
      fun hrun hpush hup hpool hfree => exec_taskDeadlineExpiry_unsplit hrun hup hpool hpush hfree,
      fun _ hfind hwait hup hroom => exec_reissueBufferDrain_room hfind hwait hup hroom,
      fun hacc hstage => run_hiWrite_staged hacc hstage (fun lo => hEngRst lo data) rfl,
      fun hup hpool hclr => exec_engineResetDone_clearing hup hpool hclr,
      fun hacc hstage => run_hiWrite_staged hacc hstage (fun lo => hFenceClr lo data) rfl, rfl⟩
  · intro init data s
    constructor
    · intro hacc
      rw [exec_keySelWrite_ready hacc]
      exact ⟨fun hlen => by rw [hKeySel_empties hlen], fun hlen => by rw [hKeySel_loads hlen]⟩
    · intro k n bs hacc hsel
      rw [exec_keyDataWrite_ready hacc]
      exact ⟨fun hlast => by rw [hKeyData_last hsel hlast], fun hmore => by rw [hKeyData_more hsel hmore]⟩

end Sys2Proof.Machine

/-! Reset sources: assertion and release (R392, R395, R402, R515). -/

namespace Sys2Proof.Machine

/-- A source that is asserted already does nothing more. -/
theorem assertSrc_asserted {r : Raise} {s : State}
    (hon : s.dyn.rst.asserted.any (fun x => x.src == r.src && x.sub == r.sub) = true) : assertSrc r s = [] :=
  if_pos hon

theorem exec_refLost_good {s : State} (hgood : s.dyn.rst.refGood = true) :
    exec .refLost s = .next (applyAllP s (seqsP [fun _ => [.eff (updRst (fun r => { r with refGood := false })),
      .eff (.upd (fun d => { d with aon := { d.aon with synch := d.aon.synch || d.aon.set } }))],
      assertSrc ⟨.pin, 2, 0⟩, lift (releaseSrc (isSrc .pin 2))] s)) := by
  change execRefLost s = _
  simp only [execRefLost, runP_next, hgood, Bool.not_true, Bool.false_eq_true, if_false]

/-- A raised source asserts while the device is not beached (R392). -/
theorem assertRaised_raised {src : Source} {r : Raise} {s : State}
    (hraised : s.dyn.rst.raised.find? (fun r => r.src == src) = some r) (hrun : s.dyn.rst.beached = false) :
    assertRaised src s = seqsP [assertSrc r, fun _ => [.eff (updRst (fun x => { x with raised := x.raised.erase r }))]] s := by
  simp only [assertRaised, hraised, hrun, Bool.false_eq_true, if_false]

section Release
variable {p : Raise → Bool} {r : Raise} {s : State} (hfind : s.dyn.rst.asserted.find? p = some r)
include hfind

theorem releaseSrc_asserted : releaseSrc p s = [updRst (fun x => { x with asserted := x.asserted.erase r })] := by
  simp only [releaseSrc, hfind]

theorem run_releaseSrc_asserted :
    run (releaseSrc p) s = .next (applyAll s [updRst (fun x => { x with asserted := x.asserted.erase r })]) :=
  run_of_effects (releaseSrc_asserted hfind)

theorem any_asserted : s.dyn.rst.asserted.any p = true :=
  List.any_eq_true.2 ⟨r, List.mem_of_find?_eq_some hfind, List.find?_some hfind⟩

end Release

theorem exec_porstNRelease_asserted {r : Raise} {s : State} (hfind : s.dyn.rst.asserted.find? (isSrc .por 1) = some r)
    (slotId : BitVec 6) (refsel : Bool) (bootMode : BitVec 2) : exec (.porstNRelease slotId refsel bootMode) s = .next (applyAll s [
      updRst (fun r => { r with slotId := slotId, refsel := refsel, bootMode := bootMode }),
      updRst (fun x => { x with asserted := x.asserted.erase r })]) := by
  change execPorstNRelease slotId refsel bootMode s = _
  simp only [execPorstNRelease, run_next, any_asserted hfind, if_true, releaseSrc_asserted hfind]

/-- The power-up of VDD_AON leaves the sequencer's state, where the sources are (R393). -/
theorem aonPowerUp_rst (rail : Rail) (s : State) :
    (applyAll s ((if rail = .aon then aonPowerUp else skip) s)).dyn.rst = s.dyn.rst := by
  split <;> rfl

theorem exec_supplyMonitorRise_asserted {rail : Rail} {r : Raise} {s : State}
    (hfind : s.dyn.rst.asserted.find? (isSrc .por (railSub rail)) = some r) :
    exec (.supplyMonitorRise rail) s = .next (applyAll s (seqs [if rail = .aon then aonPowerUp else skip,
      fun _ => [updRst (fun x => { x with asserted := x.asserted.erase r })]] s)) := by
  change execSupplyMonitorRise rail s = _
  have hrelease := releaseSrc_asserted (s := applyAll s ((if rail = .aon then aonPowerUp else skip) s))
    (by rw [aonPowerUp_rst]; exact hfind)
  simp only [execSupplyMonitorRise, run_next, any_asserted hfind, if_true, seqs_cons, seqs_nil, hrelease]

/-- Settles O52: what each source does as it asserts, and the release that takes it back. -/
theorem resetSources : Obligations.ResetSources := by
  unfold Obligations.ResetSources
  constructor
  · intro rail r s
    refine ⟨rfl, rfl, exec_refLost_good, fun hrun => ⟨fun hraised => ?_, fun hraised => ?_⟩, assertSrc_asserted⟩
    · change runP (assertRaised .warm) s = _
      rw [runP_next, assertRaised_raised hraised hrun]
    · change runP (assertRaised .host) s = _
      rw [runP_next, assertRaised_raised hraised hrun]
  · intro slotId refsel bootMode rail r s
    exact ⟨fun hfind => exec_porstNRelease_asserted hfind slotId refsel bootMode, run_releaseSrc_asserted,
      exec_supplyMonitorRise_asserted, run_releaseSrc_asserted, run_releaseSrc_asserted⟩

/-! Privileged actions one at a time. -/

/-- The state an action leaves. -/
def afterP (s : State) (a : PAct) : State := applyAllP s (a s)

theorem afterP_seqsP (as : List PAct) (s : State) : afterP s (seqsP as) = as.foldl afterP s := by
  induction as generalizing s with
  | nil => rfl
  | cons a as ih =>
    rw [List.foldl_cons, ← ih]
    exact applyAllP_seqsP_cons a as s

theorem afterP_lift (a : Act) (s : State) : afterP s (lift a) = applyAll s (a s) := applyAllP_lift a s

/-! PORST_N low (R392, R395, R398). -/

/-- An effect that leaves the state of clocks and reset. -/
def Eff.keepsRst : Eff → Prop
  | .upd g => ∀ d, (g d).rst = d.rst
  | _ => True

/-- An action all of whose effects leave it. -/
def keepsRst (a : Act) : Prop := ∀ s, ∀ e ∈ a s, e.keepsRst

theorem applyEff_rst {e : Eff} (he : e.keepsRst) (s : State) : (applyEff s e).dyn.rst = s.dyn.rst := by
  cases e with
  | upd g => exact he s.dyn
  | _ => rfl

theorem applyAll_rst {es : List Eff} (hes : ∀ e ∈ es, e.keepsRst) (s : State) : (applyAll s es).dyn.rst = s.dyn.rst := by
  induction es generalizing s with
  | nil => rfl
  | cons e es ih =>
    obtain ⟨he, hes⟩ := List.forall_mem_cons.1 hes
    rw [applyAll_cons, ih hes, applyEff_rst he]

theorem keepsRst_seqs {as : List Act} (has : ∀ a ∈ as, keepsRst a) : keepsRst (seqs as) := by
  induction as with
  | nil => exact fun s e he => absurd he List.not_mem_nil
  | cons a as ih =>
    obtain ⟨ha, has⟩ := List.forall_mem_cons.1 has
    intro s e he
    rw [seqs_cons] at he
    exact (List.mem_append.1 he).elim (ha s e) (ih has _ e)

theorem keepsRst_each {α : Type} {l : List α} {g : α → Act} (hg : ∀ x ∈ l, keepsRst (g x)) : keepsRst (each l g) :=
  keepsRst_seqs (List.forall_mem_map.2 hg)

theorem keepsRst_gateSet (a j : Nat) (high : Bool) (bits : Nat) : keepsRst (gateSet a j high bits) := by
  intro s e he
  simp only [gateSet] at he
  split at he
  · exact absurd he List.not_mem_nil
  · obtain he | he := List.mem_append.1 he
    · rw [List.mem_singleton.1 he]
      exact fun _ => rfl
    · split at he
      · exact absurd he List.not_mem_nil
      · rw [List.mem_singleton.1 he]
        trivial

theorem keepsRst_feSilent (a : Nat) : keepsRst (feSilent a) := by
  intro s e he
  simp only [feSilent, List.mem_append, List.mem_map, List.mem_singleton] at he
  obtain (⟨k, -, rfl⟩ | ⟨j, -, rfl⟩) | rfl := he
  · trivial
  · trivial
  · exact fun _ => rfl

/-- The media safe group falls without a change of the sequencer's state (R148). -/
theorem keepsRst_mediaSafe : keepsRst mediaSafe := by
  refine keepsRst_seqs (List.forall_mem_singleton.2 (keepsRst_each fun a _ => keepsRst_seqs ?_))
  simp only [List.forall_mem_cons, List.not_mem_nil, false_implies, implies_true, and_true]
  refine ⟨keepsRst_each fun j _ s e he => ?_, keepsRst_each fun j _ => keepsRst_gateSet a j false 0, keepsRst_feSilent a⟩
  split at he
  · rw [List.mem_singleton.1 he]
    exact fun _ => rfl
  · exact absurd he List.not_mem_nil

theorem keepsRst_recordLoss_por : keepsRst (recordLoss .por) := fun _ _ he =>
  List.mem_singleton.1 he ▸ fun _ => rfl

/-- What POR loses before its levels go into reset. -/
abbrev porSafe : Act := seqs [mediaSafe, recordLoss .por]

theorem keepsRst_porSafe : keepsRst porSafe :=
  keepsRst_seqs (List.forall_mem_cons.2 ⟨keepsRst_mediaSafe, List.forall_mem_singleton.2 keepsRst_recordLoss_por⟩)

/-- State outside the registers once every level has been reached by POR. -/
def porLevels (d : Dyn) : Dyn := (levelsIn (reach .por)).foldl (fun x k => levelDyn .por k x) d

theorem porLevels_eq (d : Dyn) : porLevels d = (List.range 9).foldl (fun x k => levelDyn .por k x) d := by
  have hall : levelsIn (reach .por) = List.range 9 := by decide
  rw [porLevels, hall]

theorem porLevels_rst (d : Dyn) : (porLevels d).rst = { d.rst with
    domHeld := 0, optLoad := false, optDone := false, cores := List.replicate 4 .waiting, bootDue := false, uartWait := false,
    dbgGo := false } := by
  rw [porLevels_eq]
  rfl

theorem domLevel_le (i : Nat) : domLevel i ≤ 8 := by
  have hite {c : Prop} [Decidable c] {k m : Nat} (hk : k ≤ 8) (hm : m ≤ 8) : (if c then k else m) ≤ 8 := by
    split <;> assumption
  unfold domLevel
  repeat refine hite (by decide) ?_
  decide

/-- POR reaches every register (Table 13.3). -/
theorem reach_por_regLevel (a : Nat) : (reach .por).getLsbD (regLevel a) = true := by
  have hle : regLevel a < 9 := Nat.lt_succ_of_le (domLevel_le _)
  simp only [reach, BitVec.ofNat_eq_ofNat]
  generalize regLevel a = k at hle
  decide +revert

/-- A reset that reaches every register and keeps nothing leaves no word but reset words. -/
theorem filterMap_rstEntry_all {p : Nat → Bool} (hp : ∀ a, p a = true) (l : List (Nat × Word)) :
    l.filterMap (rstEntry p false) = [] :=
  List.filterMap_eq_nil_iff.2 fun e _ => by simp [rstEntry, hp]

/-- Every level is in reset under POR, with these sources asserted. -/
structure PorHeld (on : List Raise) (t : State) : Prop where
  regs : t.regs = []
  dram : t.dram = []
  held : t.dyn.rst.held = 0x1FF
  asserted : t.dyn.rst.asserted = on
  optDone : t.dyn.rst.optDone = false

theorem or_reach_por (h : BitVec 9) : h ||| reach .por = 0x1FF := by
  have hall : reach .por = BitVec.allOnes 9 := by decide
  rw [hall, BitVec.or_allOnes]
  rfl

theorem holdLevels_por (s : State) : holdLevels .por (reach .por) s = seqsP [lift porSafe, lift skip,
    fun _ => [.rst (fun a => (reach .por).getLsbD (regLevel a)) false],
    lift (fun _ => [.wipe, .emit (.memPins false false true)]),
    fun _ => [.eff (.upd porLevels), .eff (updRst (fun r => { r with held := r.held ||| reach .por }))], lift skip] s := by
  have h7 : (reach .por).getLsbD 7 = true := by decide
  have h8 : ((reach .por).getLsbD 8 && Source.por == .host) = false := by decide
  have h3 : (reach .por).getLsbD 3 = true := by decide
  have hload : ((reach .por).getLsbD 2 && s.dyn.rst.optLoad && keeps .por) = false := by simp [keeps]
  simp only [holdLevels, h7, h8, h3, hload, if_true, Bool.false_eq_true, if_false]
  rfl

theorem porHeld_holdLevels (s : State) : PorHeld s.dyn.rst.asserted (afterP s (holdLevels .por (reach .por))) := by
  have hrst : (porLevels (applyAll s (porSafe s)).dyn).rst.asserted = s.dyn.rst.asserted := by
    rw [porLevels_rst, applyAll_rst (keepsRst_porSafe s)]
  have hopt : (porLevels (applyAll s (porSafe s)).dyn).rst.optDone = false := by rw [porLevels_rst]
  rw [afterP, holdLevels_por, ← afterP, afterP_seqsP]
  simp only [List.foldl_cons, List.foldl_nil, afterP_lift]
  exact
    { regs := filterMap_rstEntry_all reach_por_regLevel _
      dram := rfl
      held := or_reach_por _
      asserted := hrst
      optDone := hopt }

theorem recordCause_asserted (r : Raise) (s : State) :
    (applyAll s (recordCause r s)).dyn.rst.asserted = s.dyn.rst.asserted := by
  unfold recordCause
  dsimp only
  repeat' split
  all_goals rfl

/-- Where no register is listed every register shows its reset word. -/
theorem reg_of_regs_nil {s : State} (h : s.regs = []) (a : Nat) : s.reg a = resetWord a := by
  rw [State.reg, h]
  rfl

/-- SYS_LOCK resets to no block locked, so that clearing bits there leaves it (R40). -/
theorem unlock_of_regs_nil {s : State} (h : s.regs = []) (bits : Word) : (applyPEff s (.unlock bits)).regs = [] := by
  have hzero : resetWord Reg.SYS_LOCK = 0 := by decide
  change regsPut s.regs Reg.SYS_LOCK (s.reg Reg.SYS_LOCK &&& ~~~bits) = []
  rw [reg_of_regs_nil h, h]
  simp [regsPut, hzero]

/-- What POR leaves before the sequencer shows a restart (R398): the clocks are down too (R385). -/
structure PorDone (on : List Raise) (t : State) : Prop extends PorHeld on t where
  refGood : t.dyn.rst.refGood = false
  good : t.dyn.rst.good = 0

theorem PorHeld.porDone {on : List Raise} {s : State} (h : PorHeld on s) (bits : Word) :
    PorDone on (applyPEff (applyAll s (srcClocks .por s)) (.unlock bits)) :=
  { regs := unlock_of_regs_nil (s := applyAll s (srcClocks .por s)) h.regs bits
    dram := h.dram
    held := h.held
    asserted := h.asserted
    optDone := h.optDone
    refGood := rfl
    good := rfl }

section Assert
variable {s : State} {sub init : Nat} (hoff : s.dyn.rst.asserted.any (isSrc .por sub) = false)
include hoff

/-- What the assertion of a POR source does, one action at a time (R392, R398). -/
theorem assertSrc_por : assertSrc ⟨.por, sub, init⟩ s = seqsP [
    lift (recordCause ⟨.por, sub, init⟩),
    fun _ => [.eff (updRst (fun x => { x with asserted := x.asserted ++ [⟨.por, sub, init⟩] }))],
    lift skip, holdLevels .por (reach .por), lift (srcClocks .por), fun _ => [.unlock (unlockMask (reach .por))], lift skip,
    lift (if s.dyn.rst.seq.isSome && (reach .por &&& ~~~s.dyn.rst.held) != 0 then fun _ => [.sq Reg.RST_STAT 1] else skip)] s := by
  have hfree : ¬ s.dyn.rst.asserted.any (fun x => x.src == .por && x.sub == sub) = true := by
    rw [Bool.not_eq_true]
    exact hoff
  exact if_neg hfree

/-- A POR source asserts; RESTART is set where a sequence is restarted (R398). -/
theorem porDone_assertSrc : ∃ u, PorDone (s.dyn.rst.asserted ++ [⟨.por, sub, init⟩]) u ∧
    (afterP s (assertSrc ⟨.por, sub, init⟩) = u ∨
      afterP s (assertSrc ⟨.por, sub, init⟩) = applyEff u (.sq Reg.RST_STAT 1)) := by
  let v := applyEff (applyAll s (recordCause ⟨.por, sub, init⟩ s))
    (updRst (fun x => { x with asserted := x.asserted ++ [⟨.por, sub, init⟩] }))
  have hv : v.dyn.rst.asserted = s.dyn.rst.asserted ++ [⟨.por, sub, init⟩] :=
    congrArg (· ++ [_]) (recordCause_asserted _ s)
  refine ⟨_, hv ▸ (porHeld_holdLevels v).porDone (unlockMask (reach .por)), ?_⟩
  rw [afterP, assertSrc_por hoff, ← afterP, afterP_seqsP]
  simp only [List.foldl_cons, List.foldl_nil, afterP_lift]
  split
  · exact .inr rfl
  · exact .inl rfl

end Assert

/-- Settles O51: POR reaches every level, so no register keeps a word; the sequencer alone sets RESTART after that. -/
theorem powerOnReset : Obligations.PowerOnReset := by
  unfold Obligations.PowerOnReset
  intro s hoff
  obtain ⟨u, hu, ht⟩ := porDone_assertSrc (init := 0) hoff
  have hexec : exec (.porstNAssert false) s = .next (afterP s (assertSrc ⟨.por, 1, 0⟩)) := by
    change runP _ s = _
    rw [runP_next, applyAllP_seqsP_cons]
    rfl
  refine ⟨_, hexec, ?_⟩
  obtain ht | ht := ht <;> rw [ht]
  · exact ⟨hu.held, fun a _ => reg_of_regs_nil hu.regs a, hu.asserted, hu.dram, hu.optDone, hu.refGood, hu.good⟩
  · refine ⟨hu.held, fun a ha => ?_, hu.asserted, hu.dram, hu.optDone, hu.refGood, hu.good⟩
    rw [reg_applyEff_sq _ _ _ _ ha, reg_of_regs_nil hu.regs]

end Sys2Proof.Machine

/-! Clocks and the release of levels and domains (R385, R387, R391, R396-R398). -/

namespace Sys2Proof.Machine

section Clocks
variable {fam : Family} {s : State}

theorem exec_refGood_free (hpor : s.dyn.rst.asserted.any (fun r => r.src == .por) = false) :
    exec .refGood s = .next (applyAll s [updRst (fun r => { r with refGood := true })]) := by
  change execRefGood s = _
  simp only [execRefGood, run_next, hpor, Bool.false_eq_true, if_false]

/-- FAULT_N that no PLL failure asserts stays as it is (R387). -/
theorem seqs_updRst_faultOff {g : RstD → RstD} (hpll : (g s.dyn.rst).faultPll = false) :
    seqs [fun _ => [updRst g], faultOff] s = [updRst g] := by
  have hoff : faultOff (applyAll s [updRst g]) = [] := by
    change (if (g s.dyn.rst).faultPll && _ && _ then _ else _) = _
    rw [hpll]
    rfl
  rw [seqs_cons, seqs_cons, hoff]
  rfl

theorem exec_pllLock_ready (hpll : s.dyn.rst.faultPll = false) (hlevel : s.levelUp 1 = true) (href : s.dyn.rst.refGood = true) :
    exec .pllLock s = .next (applyAll s [updRst (fun r => { r with pllLock := true })]) := by
  change execPllLock s = _
  simp only [execPllLock, run_next, hlevel, href, Bool.and_self, if_true]
  rw [seqs_updRst_faultOff]
  exact hpll

theorem exec_clockGoodAssert_locked (hpll : s.dyn.rst.faultPll = false) (hrun : s.dyn.rst.beached = false)
    (hlock : s.dyn.rst.pllLock = true) : exec (.clockGoodAssert fam) s =
      .next (applyAll s [updRst (fun r => { r with good := r.good ||| BitVec.ofNat 5 (2 ^ famBit fam) })]) := by
  change execClockGoodAssert fam s = _
  simp only [execClockGoodAssert, run_next, hlock, hrun, Bool.not_false, Bool.and_self, if_true]
  rw [seqs_updRst_faultOff]
  exact hpll

/-- One clock-good is gone. -/
def goodCleared (fam : Family) : Eff := updRst (fun r => { r with good := r.good &&& ~~~(0 ||| BitVec.ofNat 5 (2 ^ famBit fam)) })

theorem getLsbD_goodCleared (good : BitVec 5) (fam : Family) :
    (good &&& ~~~(0 ||| BitVec.ofNat 5 (2 ^ famBit fam))).getLsbD (famBit fam) = false := by
  have hlt : famBit fam < 5 := by cases fam <;> decide
  simp only [BitVec.getLsbD_and, BitVec.getLsbD_not, BitVec.getLsbD_or, BitVec.getLsbD_ofNat, Nat.testBit_two_pow_self, hlt,
    decide_true, Bool.and_true, Bool.or_true, Bool.not_true, Bool.and_false]

/-- The fall of a clock-good outside a sequence is an event, and raises WARM (R397). -/
theorem goodsFall_idle (hgood : famGood s fam = true) (hseq : s.dyn.rst.seq = none) (hup : s.up 0 = true) :
    goodsFall [fam] s = [.eff (goodCleared fam), .eff (.sq Reg.CLK_STAT 1),
      .eff (.upd (fun d => { d with rst := { d.rst with raised := d.rst.raised ++ [⟨.warm, 6, 0⟩] } }))] := by
  have hgone : [fam].filter (famGood s) = [fam] := by simp [hgood]
  have hfall : goodsFall [fam] s = seqsP [fun _ => [.eff (goodCleared fam)],
      lift (fun s => if s.up 0 then [.sq Reg.CLK_STAT 1] else []), lift (raiseSrc .warm 6 0)] s := by
    simp only [goodsFall, hgone, hseq, List.isEmpty_cons, Bool.false_eq_true, if_false]
    rfl
  have hstill : (applyAllP s [.eff (goodCleared fam)]).up 0 = true := hup
  have hevent : lift (fun s => if s.up 0 then [.sq Reg.CLK_STAT 1] else []) (applyAllP s [.eff (goodCleared fam)]) =
      [.eff (.sq Reg.CLK_STAT 1)] := by
    simp only [lift, hstill, if_true, List.map_cons, List.map_nil]
  rw [hfall, seqsP_cons, seqsP_cons, hevent]
  rfl

theorem exec_clockGoodFall_idle (hrun : s.dyn.rst.beached = false) (hgood : famGood s fam = true)
    (hseq : s.dyn.rst.seq = none) (hup : s.up 0 = true) : exec (.clockGoodFall fam) s = .next (applyAll s [goodCleared fam,
      .sq Reg.CLK_STAT 1, .upd (fun d => { d with rst := { d.rst with raised := d.rst.raised ++ [⟨.warm, 6, 0⟩] } })]) := by
  change execClockGoodFall fam s = _
  simp only [execClockGoodFall, runP_next, hrun, Bool.false_eq_true, if_false, goodsFall_idle hgood hseq hup]
  rfl

theorem clockGoodFall_effect {t : State} (ht : t = applyAll s [goodCleared fam, .sq Reg.CLK_STAT 1,
      .upd (fun d => { d with rst := { d.rst with raised := d.rst.raised ++ [⟨.warm, 6, 0⟩] } })]) :
    t.bit Reg.CLK_STAT 0 = true ∧ t.dyn.rst.raised = s.dyn.rst.raised ++ [⟨.warm, 6, 0⟩] ∧
      t.dyn.rst.good.getLsbD (famBit fam) = false ∧ sameRegsBut (fun a => a = Reg.CLK_STAT) s t ∧ sameMem s t := by
  subst ht
  exact ⟨bit_applyEff_sq (by decide) (by decide) (by decide) _, rfl, getLsbD_goodCleared _ fam,
    sameRegsBut_applyAll (by simp [Eff.dest, goodCleared, updRst]) s, sameMem_applyAll (by simp [Eff.stores, goodCleared, updRst]) s⟩

theorem exec_pllFail_waits {f : Family} (hnext : (nextLevel s).bind levelFam = some f) (hbad : famGood s f = false)
    (hlevel : s.levelUp 1 = true) : exec .pllFail s = .next (applyAllP s (seqsP [
      fun _ => [.eff (.sq Reg.CLK_STAT 0x200), .eff (updRst (fun r => { r with
        faultN := true, faultPll := r.faultPll || !r.faultN, pllLock := false }))],
      goodsFall [.core, .mgmt, .mem, .media, .periph]] s)) := by
  change execPllFail s = _
  simp only [execPllFail, runP_next, hnext, hbad, hlevel, Bool.not_true, Bool.or_self, Bool.false_eq_true, if_false]

end Clocks

/-! The sequencer (R396, R398, R401). -/

section Levels
variable {k : Nat} {s : State}

theorem exec_levelRelease_held (hnext : nextLevel s = some k) (hmay : mayRelease s k = false) :
    exec .levelRelease s = .next s := by
  change execLevelRelease s = _
  simp only [execLevelRelease, runP_next, hnext, hmay, Bool.not_false, if_true, applyAllP_nil]

theorem exec_levelRelease_frees (hnext : nextLevel s = some k) (hmay : mayRelease s k = true) :
    exec .levelRelease s = .next (applyAllP s (seqsP [lift (domsFree k),
      fun _ => [.eff (updRst (fun r => { r with held := r.held &&& ~~~(BitVec.ofNat 9 (2 ^ k)) }))],
      fun s => if 3 ≤ k then [.opt (optOf s k)] else [], lift (levelStarts k),
      fun _ => [.eff (updRst (fun r => { r with seq := if r.held = 0 then none else r.seq }))]] s)) := by
  change execLevelRelease s = _
  simp only [execLevelRelease, runP_next, hnext, hmay, Bool.not_true, Bool.false_eq_true, if_false]

/-- The option loader writes registers only (R401). -/
theorem dyn_foldl_optPut (p : Nat → Bool) (rs : List (Nat × Word)) (s : State) : (rs.foldl (optPut p) s).dyn = s.dyn := by
  induction rs generalizing s with
  | nil => rfl
  | cons r rs ih =>
    rw [List.foldl_cons, ih, optPut]
    split <;> rfl

theorem dyn_afterP_opt (c : Prop) [Decidable c] (p : State → Nat → Bool) (s : State) :
    (afterP s (fun s => if c then [.opt (p s)] else [])).dyn = s.dyn := by
  unfold afterP
  split
  · exact dyn_foldl_optPut _ _ _
  · rfl

/-- What the release of a level other than D7 starts leaves the levels held and the sequence (R396). -/
theorem held_seq_levelStarts (hk : k ≠ 7) (s : State) :
    (applyAll s (levelStarts k s)).dyn.rst.held = s.dyn.rst.held ∧
      (applyAll s (levelStarts k s)).dyn.rst.seq = s.dyn.rst.seq := by
  simp only [levelStarts, if_neg hk]
  repeat' split
  all_goals exact ⟨rfl, rfl⟩

/-- A released level is no longer held, and the sequence ends with the last one (R396). -/
theorem levelRelease_effect (hk : k ≠ 7) {t : State} (ht : t = applyAllP s (seqsP [lift (domsFree k),
      fun _ => [.eff (updRst (fun r => { r with held := r.held &&& ~~~(BitVec.ofNat 9 (2 ^ k)) }))],
      fun s => if 3 ≤ k then [.opt (optOf s k)] else [], lift (levelStarts k),
      fun _ => [.eff (updRst (fun r => { r with seq := if r.held = 0 then none else r.seq }))]] s)) :
    t.dyn.rst.held = s.dyn.rst.held &&& ~~~(BitVec.ofNat 9 (2 ^ k)) ∧
      t.dyn.rst.seq = (if s.dyn.rst.held &&& ~~~(BitVec.ofNat 9 (2 ^ k)) = 0 then none else s.dyn.rst.seq) := by
  rw [← afterP, afterP_seqsP] at ht
  simp only [List.foldl_cons, List.foldl_nil, afterP_lift] at ht
  let u := afterP (applyAll s (domsFree k s)) (fun _ => [.eff (updRst (fun r => { r with
    held := r.held &&& ~~~(BitVec.ofNat 9 (2 ^ k)) }))])
  let v := afterP u (fun s => if 3 ≤ k then [.opt (optOf s k)] else [])
  have hdyn : v.dyn = u.dyn := dyn_afterP_opt (3 ≤ k) (fun s => optOf s k) u
  obtain ⟨hheld, hseq⟩ := held_seq_levelStarts hk v
  rw [hdyn] at hheld hseq
  subst ht
  refine ⟨hheld, ?_⟩
  change (if (applyAll v (levelStarts k v)).dyn.rst.held = 0 then none else (applyAll v (levelStarts k v)).dyn.rst.seq) = _
  rw [hheld, hseq]
  rfl

end Levels

/-! Domains (R391, R537). -/

theorem exec_domainOffWrite_ready {init : Initiator} {idx : Fin 4} {data : Word} {s : State}
    (hacc : accReady s init (Reg.CLK_DOM_OFF idx.val) = true) : exec (.domainOffWrite init idx data) s =
      .next (applyAllP s (seqsP (lift (plainWrite (Reg.CLK_DOM_OFF idx.val) data) ::
        (((List.range 32).filter (fun b => data.bit b && !(s.reg (Reg.CLK_DOM_OFF idx.val)).bit b && gated (32 * idx.val + b))).map
          (fun b => domOff (32 * idx.val + b)))) s)) := by
  change runP _ s = _
  rw [runP_next, wrAccessP_ready _ _ _ _ hacc]
  rfl

theorem exec_domainRelease_free {dom : Fin 100} {s : State} (hheld : s.dyn.rst.domHeld.getLsbD dom.val = true)
    (hlevel : s.levelUp (domLevel dom.val) = true)
    (hon : s.bit (Reg.CLK_DOM_OFF (dom.val / 32)) (dom.val % 32) = false) : exec (.domainRelease dom) s =
      .next (applyAllP s (seqsP [fun _ => [
        .eff (updRst (fun r => { r with domHeld := r.domHeld &&& ~~~(BitVec.ofNat 101 (2 ^ dom.val)) })),
        .opt (fun a => domOf a == dom.val)], lift (if dom.val = 3 then bwRelease else skip)] s)) := by
  change execDomainRelease dom s = _
  simp only [execDomainRelease, runP_next, hheld, hlevel, hon, Bool.not_true, Bool.or_self, Bool.false_eq_true, if_false]

/-- Settles O53: clocks qualify one after another, and the sequencer releases levels and domains as they allow. -/
theorem clocksAndLevels : Obligations.ClocksAndLevels := by
  unfold Obligations.ClocksAndLevels
  constructor
  · intro fam s hpll hrun
    exact ⟨exec_refGood_free, exec_pllLock_ready hpll, exec_clockGoodAssert_locked hpll hrun,
      fun hgood hseq hup => ⟨_, exec_clockGoodFall_idle hrun hgood hseq hup, clockGoodFall_effect rfl⟩,
      fun _ hnext hbad hlevel => exec_pllFail_waits hnext hbad hlevel⟩
  · intro init idx dom data k s
    exact ⟨exec_levelRelease_frees,
      fun hnext hmay hk => ⟨_, exec_levelRelease_frees hnext hmay, levelRelease_effect hk rfl⟩,
      exec_levelRelease_held, exec_domainOffWrite_ready, exec_domainRelease_free⟩

end Sys2Proof.Machine

/-! Refutations: read-only bits that a write of PAD_FE cannot set (R490), and registers whose reserved bits a state outside `State.wf`
may hold (R356, R472). -/

namespace Sys2Proof.Machine

/-- The word a register holds after a command. -/
def regAfter (r : Res) (a : Nat) : Option Word :=
  match r with
  | .next t => some (t.reg a)
  | _ => none

theorem regAfter_of_next {r : Res} {t : State} (h : r = .next t) (a : Nat) : regAfter r a = some (t.reg a) := by
  rw [h]
  rfl

/-- Every level is released and every register shows its reset word. -/
def allReleased : State :=
  { dyn := { rst := { held := 0, asserted := [], seq := none, refGood := true, pllLock := true, good := 0x1F, optDone := true } } }

/-- A reserved bit of MEM_TRAIN_STAT stands, which no well-formed state has. -/
def trainStatReserved : State := allReleased.putReg Reg.MEM_TRAIN_STAT 0x100

/-- The start of a training leaves it. -/
theorem memTrainGo_keeps_reserved :
    regAfter (exec (.memTrainGo .mc0 1) trainStatReserved) Reg.MEM_TRAIN_STAT = some 0x80000100 := by
  decide +kernel

/-- Refutes O48: no hypothesis bounds the reserved bits of MEM_TRAIN_STAT, and where one stands GO does not leave exactly BUSY. -/
theorem not_memoryEngines : ¬ Obligations.MemoryEngines := by
  unfold Obligations.MemoryEngines
  intro h
  obtain ⟨htrain, -⟩ := h .mc0 1 0 trainStatReserved
  obtain ⟨t, ht, -, hlegal, -⟩ := htrain (by decide +kernel) (by decide +kernel)
  obtain ⟨hstat, -⟩ := hlegal (by decide +kernel)
  have hkept := (regAfter_of_next ht Reg.MEM_TRAIN_STAT).symm.trans memTrainGo_keeps_reserved
  rw [hstat] at hkept
  exact absurd hkept (by decide)

/-- Records wait for their replay and a reserved bit of WRK_RP_STAT stands, which no well-formed state has. -/
def replayStatReserved : State := (allReleased.putReg Reg.WRK_RP_CNT 4).putReg Reg.WRK_RP_STAT 0x100

/-- The start of a replay leaves it. -/
theorem replayGo_keeps_reserved :
    regAfter (exec (.replayGo .mc0 1) replayStatReserved) Reg.WRK_RP_STAT = some 0x100 := by
  decide +kernel

/-- Refutes O58: no hypothesis bounds the reserved bits of WRK_RP_STAT, and where one stands GO does not leave the register 0. -/
theorem not_recorderControl : ¬ Obligations.RecorderControl := by
  unfold Obligations.RecorderControl
  intro h
  obtain ⟨-, -, -, -, -, -, -, -, -, hgo, -⟩ := h .mc0 ⟨0, 0, 0⟩ 0 0 1 none
    { link := 0, sqid := 0, cid := 0, no := 0, sqe := [], mark := 0 } none none none replayStatReserved (by decide +kernel)
  obtain ⟨t, ht, -, hstat, -⟩ := hgo (by decide +kernel) (by decide +kernel) (by decide +kernel)
  have hkept := (regAfter_of_next ht Reg.WRK_RP_STAT).symm.trans replayGo_keeps_reserved
  rw [hstat] at hkept
  exact absurd hkept (by decide)

/-- PAD_FE holds its reset word and a write carries only bit 8, which is read-only: nothing changes. -/
theorem padFeWrite_keeps_readOnly : regAfter (exec (.padFeWrite .mc0 0x100) allReleased) Reg.PAD_FE = some 0 := by
  decide +kernel

/-- Refutes O60: the mask of the last clause takes in the read-only bits of PAD_FE, which a write leaves. -/
theorem not_debugMotorAndPads : ¬ Obligations.DebugMotorAndPads := by
  unfold Obligations.DebugMotorAndPads
  intro h
  obtain ⟨-, -, -, hpad⟩ := h.2 .mc0 0x100 0 0 false allReleased
  obtain ⟨t, ht, hword, -⟩ := hpad (by decide +kernel)
  have hkept := (regAfter_of_next ht Reg.PAD_FE).symm.trans padFeWrite_keeps_readOnly
  rw [hword] at hkept
  exact absurd hkept (by decide +kernel)

end Sys2Proof.Machine

/-! Guarded bits and the completion of commands (R28, R30, R401). -/

namespace Sys2Proof.Machine

/-- Settles O4: outside the commands of `mayGuard` every effect is unprivileged, and none of those stores to a GD bit. -/
theorem guardedBitsKept : Obligations.GuardedBitsKept := by
  unfold Obligations.GuardedBitsKept
  intro i s hplain
  obtain ⟨es, hexec⟩ := exec_plain i s hplain
  exact ⟨_, hexec, applyAll_guarded es s⟩

/-- Settles O5: a command is a list of effects, none of which touches the queue or takes an output back. -/
theorem everyCommandCompletes : Obligations.EveryCommandCompletes := by
  unfold Obligations.EveryCommandCompletes
  intro i s
  obtain ⟨es, hexec⟩ := exec_effects i s
  exact ⟨_, hexec, applyAllP_frame es s⟩

end Sys2Proof.Machine

/-! SQ registers: events and writes (R34, R35). -/

namespace Sys2Proof.Machine

/-- The bits of every field type but GD are open to hardware and plain writes (R30). -/
theorem getLsbD_liveMask_of_tyMask {a : Nat} {d : RegDef} (hd : regDef a = some d) {t : FType} (ht : t ≠ .gd) {i : Nat}
    (h : (d.tyMask t).getLsbD i = true) : (liveMask a).getLsbD i = true := by
  rw [liveMask_of_regDef hd]
  refine foldl_mask_mono (fun x => x.ty == t) (fun x => x.ty != .gd) d.fields (fun x _ hx => ?_) i 0 0 id h
  rw [eq_of_beq hx]
  exact bne_iff_ne.2 ht

theorem getLsbD_liveMask_of_statusMask {a i : Nat} (h : (statusMask a).getLsbD i = true) : (liveMask a).getLsbD i = true := by
  unfold statusMask at h
  split at h
  · next d hd =>
    rw [BitVec.getLsbD_and, Bool.and_eq_true] at h
    exact getLsbD_liveMask_of_tyMask (t := .sq) hd (by decide) h.1
  · exact absurd h (by simp)

/-- An event sets the status bits it names beside those that are set (R34). -/
theorem bit_applyEff_sq_or {a i : Nat} (hi : i < 24) (hlive : (liveMask a).getLsbD i = true) (bits : Word) (s : State) :
    (applyEff s (.sq a bits)).bit a i = (s.bit a i || bits.getLsbD i) := by
  unfold State.bit Word.bit
  rw [applyEff_sq, State.reg_hwReg, if_pos rfl, merge_getLsbD, if_pos hlive, bit_sqEvent _ _ _ hi]

/-- An event steps SEQ modulo 256 (R34). -/
theorem seq_applyEff_sq {a : Nat} (hlive : liveMask a &&& fldMask 31 24 = fldMask 31 24) (bits : Word) (s : State) :
    (applyEff s (.sq a bits)).fld a 31 24 = (s.fld a 31 24 + 1) % 256 := by
  unfold State.fld
  rw [applyEff_sq, State.reg_hwReg, if_pos rfl, fld_merge _ _ _ _ _ (by decide) hlive, seq_sqEvent]

/-- Settles O8: SEQ and the status bits are open to hardware, and an event stores to its register alone. -/
theorem eventStepsSeq : Obligations.EventStepsSeq := by
  unfold Obligations.EventStepsSeq
  intro a d bits s hd hseq
  have hcovers : liveMask a &&& fldMask 31 24 = fldMask 31 24 := by
    apply BitVec.eq_of_getLsbD_eq
    intro i _
    have hbit : (d.tyMask .sq &&& 0xFF000000).getLsbD i = (fldMask 31 24).getLsbD i := by rw [hseq]; rfl
    cases hmask : (fldMask 31 24).getLsbD i with
    | false => rw [BitVec.getLsbD_and, hmask, Bool.and_false]
    | true =>
      rw [hmask, BitVec.getLsbD_and, Bool.and_eq_true] at hbit
      rw [BitVec.getLsbD_and, hmask, getLsbD_liveMask_of_tyMask (t := .sq) hd (by decide) hbit.1, Bool.and_self]
  exact ⟨seq_applyEff_sq hcovers bits s,
    fun i hi hstatus => bit_applyEff_sq_or hi (getLsbD_liveMask_of_statusMask hstatus) bits s,
    fun b hb => reg_applyEff_sq s a b bits hb⟩

end Sys2Proof.Machine

/-! Accesses on the register fabric (R24-R29, R50, R529). -/

namespace Sys2Proof.Machine

/-- A register's own address lies below the bit window (R50). -/
theorem aliasOf_register {a : Nat} (h : a < 0x800000) : aliasOf a = none := by
  simp [aliasOf, Nat.not_le.2 h]

theorem busError_register {a : Nat} (h : a < 0x800000) (s : State) (size : Nat) (wr : Bool) :
    busError s a size wr = accessError s a size wr := by
  rw [busError, aliasOf_register h]

/-- A word access is stopped by nothing where its address is aligned, a register's, and of a domain that runs. -/
theorem accessError_word_none_iff (s : State) (a : Nat) (wr : Bool) :
    accessError s a 4 wr = none ↔ a % 4 = 0 ∧ mapped a = true ∧ s.up (domOf a) = true := by
  unfold accessError
  by_cases halign : a % 4 = 0
  · have hword : a / 4 * 4 = a := by omega
    cases hmap : mapped a <;> cases hup : s.up (domOf a) <;> simp [halign, hword, hmap, hup]
  · simp [halign]

theorem accReady_iff (s : State) (init : Initiator) (a : Nat) : accReady s init a = true ↔
    initiatorOk s init = true ∧ a % 4 = 0 ∧ mapped a = true ∧ s.up (domOf a) = true := by
  rw [accReady, Bool.and_eq_true, Option.isNone_iff_eq_none, accessError_word_none_iff]

/-- A 32-bit write that reaches a register does what a write of the register does. -/
theorem run_busWrite_ready {s : State} {init : Initiator} {a : Nat} (hacc : accReady s init a = true) (hreg : a < 0x800000)
    (data : Word) : runP (busWrite init (BitVec.ofNat 24 a).toNat 4 data.toNat) s =
      .next (applyAllP s (regWrite init a data s)) := by
  obtain ⟨hinit, halign, hmap, hup⟩ := (accReady_iff s init a).1 hacc
  have haddr : (BitVec.ofNat 24 a).toNat = a := Nat.mod_eq_of_lt (by omega)
  have hdata : w32 data.toNat = data := (BitVec.ofNat_toNat 32 data).trans (BitVec.setWidth_eq data)
  have hword : a / 4 * 4 = a := by omega
  have herr : busError s a 4 true = none := (busError_register hreg s 4 true).trans
    ((accessError_word_none_iff s a true).2 ⟨halign, hmap, hup⟩)
  rw [runP_next, haddr]
  simp [busWrite, wrWordBus, hinit, herr, aliasOf_register hreg, hword, hdata]

/-- A write of a register that stands alone and takes plain writes has a plain write's effects. -/
theorem run_busWrite_plain {s : State} {init : Initiator} {a : Nat} {data : Word} (hacc : accReady s init a = true)
    (hreg : a < 0x800000) (hone : pairOf a = .one) (hplain : wrOne init a data = lift (plainWrite a data)) :
    runP (busWrite init (BitVec.ofNat 24 a).toNat 4 data.toNat) s = .next (applyAll s (plainWrite a data s)) := by
  rw [run_busWrite_ready hacc hreg, regWrite, hone]
  simp only [hplain, applyAllP_lift]

end Sys2Proof.Machine

/-! Plain SQ registers (R35). -/

namespace Sys2Proof.Machine

theorem merge_self (w m : Word) : w.merge m w = w := by
  apply BitVec.eq_of_getLsbD_eq
  intro i _
  rw [merge_getLsbD, ite_self]

/-- Clearing bits inside a mask passes the mask. -/
theorem merge_clear {m k : Word} (h : ∀ i, k.getLsbD i = true → m.getLsbD i = true) (w v : Word) :
    w.merge m (w &&& ~~~(v &&& k)) = w &&& ~~~(v &&& k) := by
  apply BitVec.eq_of_getLsbD_eq
  intro i hi
  rw [merge_getLsbD]
  cases hm : m.getLsbD i with
  | true => rfl
  | false =>
    have hk : k.getLsbD i = false := Bool.eq_false_iff.2 fun hk => by simp [h i hk] at hm
    rw [BitVec.getLsbD_and, BitVec.getLsbD_not, BitVec.getLsbD_and, hk, Bool.and_false, Bool.not_false, decide_eq_true hi,
      Bool.and_self, Bool.and_true]
    rfl

/-- The word a write leaves in a register of status bits that nothing else can be written in (R35). -/
theorem wrWord_status {d : RegDef} (hsq : d.tyMask .sq ≠ 0) (hkept : d.tyMask .rw ||| d.tyMask .ct ||| d.tyMask .hw = 0)
    (on : Bool) (old v : Word) : wrWord d on old v =
      if v.fld 31 24 = old.fld 31 24 then old &&& ~~~(v &&& (d.tyMask .sq &&& 0x00FFFFFF)) else old := by
  have hold : old.merge (d.tyMask .rw ||| d.tyMask .ct ||| if on then 0 else d.tyMask .hw) v = old := by
    apply BitVec.eq_of_getLsbD_eq
    intro i _
    exact getLsbD_stored_kept (by rw [hkept]; exact BitVec.getLsbD_zero) on old v
  simp only [wrWord, hold, hsq, ne_eq, not_false_eq_true, decide_true, Bool.true_and, decide_eq_true_eq]

/-- A register whose only writable bits are the status bits of SQ type. -/
def statusOnly (a : Nat) : Prop :=
  ∃ d, regDef a = some d ∧ d.guarded = false ∧ d.pair = .one ∧ d.tyMask .sq ≠ 0 ∧
    d.tyMask .rw ||| d.tyMask .ct ||| d.tyMask .hw = 0

theorem reg_plainWrite_statusOnly {a : Nat} (h : statusOnly a) (v : Word) (s : State) :
    (applyAll s (plainWrite a v s)).reg a =
      if v.fld 31 24 = s.fld a 31 24 then s.reg a &&& ~~~(v &&& statusMask a) else s.reg a := by
  obtain ⟨d, hd, hg, -, hsq, hkept⟩ := h
  have hmask : statusMask a = d.tyMask .sq &&& 0x00FFFFFF := by rw [statusMask, hd]
  have hlive : ∀ i, (statusMask a).getLsbD i = true → (liveMask a).getLsbD i = true := fun _ => getLsbD_liveMask_of_statusMask
  rw [plainWrite_unguarded hd hg, applyAll_cons, applyAll_nil, applyEff_reg, State.reg_hwReg, if_pos rfl,
    wrWord_status hsq hkept, ← hmask, State.fld]
  split
  · exact merge_clear hlive _ _
  · exact merge_self _ _

/-- The registers of `sqPlain` are such, and writes of them are plain. -/
theorem sqPlain_statusOnly {a : Nat} (h : a ∈ sqPlain) (init : Initiator) (data : Word) :
    a < 0x800000 ∧ statusOnly a ∧ wrOne init a data = lift (plainWrite a data) := by
  simp only [sqPlain, List.mem_cons, List.not_mem_nil, or_false] at h
  rcases h with rfl | rfl | rfl | rfl | rfl | rfl | rfl | rfl | rfl | rfl | rfl | rfl | rfl | rfl <;>
    exact ⟨by decide, ⟨_, rfl, rfl, rfl, by decide, by decide⟩, rfl⟩

/-- Settles O7: a plain write of such a register clears the status bits it names where SEQ matches. -/
theorem sqWriteClears : Obligations.SqWriteClears := by
  unfold Obligations.SqWriteClears
  intro init data s a hmem hacc
  obtain ⟨hreg, hstatus, hplain⟩ := sqPlain_statusOnly hmem init data
  obtain ⟨d, hd, hg, hone, -, -⟩ := id hstatus
  have hpair : pairOf a = .one := by rw [pairOf, hd]; exact hone
  have heffects := plainWrite_unguarded hd hg data s
  obtain ⟨hregs, hmem, hdyn⟩ := frame_of_dest (e := .reg a (wrWord d (hwEnabled s a) (s.reg a) data)) rfl s
  refine ⟨_, run_busWrite_plain hacc hreg hpair hplain, reg_plainWrite_statusOnly hstatus data s, ?_⟩
  rw [heffects]
  exact ⟨hregs, hmem, hdyn, rfl⟩

end Sys2Proof.Machine

/-! Accesses that a rule stops (R25-R28, R529). -/

namespace Sys2Proof.Machine

theorem State.up_congr {s t : State} (h : t.dyn = s.dyn) (i : Nat) : t.up i = s.up i := by
  simp only [State.up, State.levelUp, h]

theorem initiatorOk_congr {s t : State} (h : t.reg Reg.SYS_DBG_EN = s.reg Reg.SYS_DBG_EN) (init : Initiator) :
    initiatorOk t init = initiatorOk s init := by
  simp only [initiatorOk, State.bit, h]

/-- Which rule an access breaks comes of what no register shows. -/
theorem busError_congr {s t : State} (h : t.dyn = s.dyn) (a size : Nat) (wr : Bool) :
    busError t a size wr = busError s a size wr := by
  simp only [busError, accessError, State.up_congr h]

theorem busError_of_unmapped {a size : Nat} (halign : a % size = 0) (hmap : mapped (regAt a) = false) (s : State) (wr : Bool) :
    busError s a size wr = some .unmapped := by
  unfold regAt at hmap
  unfold busError
  split at hmap
  · next b i halias => simp [halias, hmap]
  · next halias => simp [halias, accessError, halign, hmap]

theorem busError_of_held {a size : Nat} {s : State} (halign : a % size = 0) (hmap : mapped (regAt a) = true)
    (hheld : s.up (domOf (regAt a)) = false) (wr : Bool) : busError s a size wr = some .inReset := by
  unfold regAt at hmap hheld
  unfold busError
  cases halias : aliasOf a with
  | none =>
    rw [halias] at hmap hheld
    simp [accessError, halign, hmap, hheld]
  | some p =>
    rw [halias] at hmap hheld
    simp [halign, hmap, hheld]

/-- While SYS runs, an error stores its event, and before it the access where the register was wholly clear. -/
theorem accErr_up {s : State} (hup : s.up 0 = true) (e : AccErr) (init : Initiator) (addr : Nat) : accErr e init addr s =
    (if s.fld Reg.SYS_ERR_STAT 23 0 = 0 then [.reg Reg.SYS_ERR_ADDR (w32 (init.id * 2 ^ 24 + addr % 2 ^ 24))] else []) ++
      [.sq Reg.SYS_ERR_STAT e.bits] :=
  if_pos hup

/-- An access of which nothing is left but what it answers and its error in SYS_ERR_STAT and SYS_ERR_ADDR. -/
structure ErrorLogged (answers : List Output) (e : AccErr) (s t : State) : Prop where
  dyn : t.dyn = s.dyn
  out : t.out = answers ++ s.out
  mem : sameMem s t
  regs : sameRegsBut (fun b => b = Reg.SYS_ERR_STAT ∨ b = Reg.SYS_ERR_ADDR) s t
  event : ∀ k < 24, e.bits.getLsbD k = true → t.bit Reg.SYS_ERR_STAT k = true

theorem liveMask_SYS_ERR_STAT : liveMask Reg.SYS_ERR_STAT = 0xFF000007 := by decide

/-- The bits of the causes are status bits of SYS_ERR_STAT (Table 2.14). -/
theorem live_of_accErr_bits (e : AccErr) {k : Nat} (hk : e.bits.getLsbD k = true) :
    (liveMask Reg.SYS_ERR_STAT).getLsbD k = true := by
  have hcover : e.bits &&& 0xFF000007 = e.bits := by cases e <;> rfl
  rw [← hcover, BitVec.getLsbD_and, Bool.and_eq_true] at hk
  rw [liveMask_SYS_ERR_STAT]
  exact hk.2

theorem errorLogged_accErr {s : State} (hup : s.up 0 = true) (e : AccErr) (init : Initiator) (addr : Nat) :
    ErrorLogged [] e s (applyAll s (accErr e init addr s)) := by
  have heffects : ∀ f ∈ accErr e init addr s,
      f.onlyCounts = true ∧ ∀ b, f.dest = some b → b = Reg.SYS_ERR_STAT ∨ b = Reg.SYS_ERR_ADDR := by
    rw [accErr_up hup]
    split <;> simp [Eff.onlyCounts, Eff.dest]
  obtain ⟨hdyn, hout, hmem⟩ := applyAll_of_onlyCounts (fun f hf => (heffects f hf).1) s
  refine ⟨hdyn, hout, hmem, sameRegsBut_applyAll (fun f hf => (heffects f hf).2) s, fun k hk hbit => ?_⟩
  rw [accErr_up hup, applyAll_append]
  exact bit_applyEff_sq hk (live_of_accErr_bits e hbit) hbit _

/-- An answer may leave before the error is logged. -/
theorem errorLogged_answered {s : State} (hup : s.up 0 = true) (e : AccErr) (init : Initiator) (addr : Nat) (o : Output) :
    ErrorLogged [o] e s (applyAll (applyEff s (.emit o)) (accErr e init addr (applyEff s (.emit o)))) := by
  have h := errorLogged_accErr (s := applyEff s (.emit o)) hup e init addr
  exact ⟨h.dyn, h.out, h.mem, h.regs, h.event⟩

namespace ErrorLogged
variable {e : AccErr} {s t u : State}

/-- After one stopped access another may be stopped. -/
theorem trans {l : List Output} (h : ErrorLogged [] e s t) (k : ErrorLogged l e t u) : ErrorLogged l e s u :=
  ⟨k.dyn.trans h.dyn, k.out.trans (congrArg (l ++ ·) h.out), sameMem_trans h.mem k.mem,
    fun b hb => (k.regs b hb).trans (h.regs b hb), k.event⟩

theorem initiatorOk (h : ErrorLogged [] e s t) (init : Initiator) : Machine.initiatorOk t init = Machine.initiatorOk s init :=
  initiatorOk_congr (h.regs _ (by decide)) init

end ErrorLogged

section Stopped
variable {s : State} {init : Initiator} {e : AccErr} {a size : Nat}

theorem wrWordBus_stopped (hinit : initiatorOk s init = true) (h : busError s a size true = some e) (d : Word) :
    wrWordBus init a size d s = lift (accErr e init a) s := by
  simp [wrWordBus, hinit, h]

theorem rdWait_stopped (h : busError s a size false = some e) : rdWait a size s = [] := by
  simp [rdWait, h]

theorem rdWordVal_stopped (h : busError s a size false = some e) : rdWordVal s init a size = 0 := by
  simp [rdWordVal, h]

theorem rdWordAct_stopped (h : busError s a size false = some e) : rdWordAct init a size s = accErr e init a s := by
  simp [rdWordAct, h]

variable (hinit : initiatorOk s init = true) (hup : s.up 0 = true)
include hinit

theorem applyAllP_busWrite_stopped (hsize : size ≠ 8) (h : busError s a size true = some e) (d : Nat) :
    applyAllP s (busWrite init a size d s) = applyAll s (accErr e init a s) := by
  rw [busWrite, if_neg hsize, wrWordBus_stopped hinit h, applyAllP_lift]

include hup

theorem errorLogged_busRead (hsize : size ≠ 8) (h : busError s a size false = some e) :
    ErrorLogged [.readData init a 0] e s (applyAll s (busRead init a size s)) := by
  have hnot : ¬ (!initiatorOk s init) = true := by simp [hinit]
  have herr : busError (applyEff s (.emit (.readData init a 0))) a size false = some e := (busError_congr rfl _ _ _).trans h
  rw [busRead, busReadWith, if_neg hnot, if_neg hsize]
  simp only [applyAll_seqs_cons, seqs_nil, applyAll_nil, applyAll_cons, rdWait_stopped h, rdWordVal_stopped h,
    rdWordAct_stopped herr]
  exact errorLogged_answered hup e init a _

/-- A double write is its two halves' writes (R24). -/
theorem errorLogged_busWrite_double (halign : a % 8 = 0) (hlo : busError s a 4 true = some e)
    (hhi : busError s (a + 4) 4 true = some e) (d : Nat) : ErrorLogged [] e s (applyAllP s (busWrite init a 8 d s)) := by
  have hfirst := errorLogged_accErr hup e init a
  have hinit' := (hfirst.initiatorOk init).trans hinit
  have hhi' := (busError_congr hfirst.dyn (a + 4) 4 true).trans hhi
  rw [busWrite, if_pos rfl, if_pos halign]
  simp only [applyAllP_seqsP_cons, seqsP_nil, applyAllP_nil, wrWordBus_stopped hinit hlo, applyAllP_lift,
    wrWordBus_stopped hinit' hhi']
  exact hfirst.trans (errorLogged_accErr ((State.up_congr hfirst.dyn 0).trans hup) e init (a + 4))

/-- A double read is its two halves' reads, and one answer of zero (R24). -/
theorem errorLogged_busRead_double (halign : a % 8 = 0) (hlo : busError s a 4 false = some e)
    (hhi : busError s (a + 4) 4 false = some e) :
    ErrorLogged [.readData init a 0] e s (applyAll s (busRead init a 8 s)) := by
  have hfirst := errorLogged_accErr hup e init a
  have hhi' := (busError_congr hfirst.dyn (a + 4) 4 false).trans hhi
  have hlast : busError (applyEff (applyAll s (accErr e init a s)) (.emit (.readData init a 0))) (a + 4) 4 false = some e :=
    (busError_congr rfl _ _ _).trans hhi'
  have hnot : ¬ (!initiatorOk s init) = true := by simp [hinit]
  rw [busRead, busReadWith, if_neg hnot, if_pos rfl, if_pos halign]
  simp only [applyAll_seqs_cons, seqs_nil, applyAll_nil, applyAll_cons, rdWait_stopped hlo, rdWordVal_stopped hlo,
    rdWordAct_stopped hlo, rdWait_stopped hhi', rdWordVal_stopped hhi', Nat.mul_zero, Nat.add_zero, rdWordAct_stopped hlast]
  exact hfirst.trans (errorLogged_answered ((State.up_congr hfirst.dyn 0).trans hup) e init (a + 4) _)

end Stopped

/-- The words of an access that none of its rules lets through: all of one cause, whose bit is `k`. -/
theorem stopped_cause {s : State} {words : List Nat} {k : Nat}
    (hk : ((∀ w ∈ words, mapped (regAt w) = false) ∧ k = 0) ∨
      ((∀ w ∈ words, mapped (regAt w) = true ∧ s.up (domOf (regAt w)) = false) ∧ k = 2)) :
    ∃ e : AccErr, k < 24 ∧ e.bits.getLsbD k = true ∧
      ∀ w ∈ words, ∀ size wr, w % size = 0 → busError s w size wr = some e := by
  rcases hk with ⟨hmap, rfl⟩ | ⟨hheld, rfl⟩
  · exact ⟨.unmapped, by decide, rfl, fun w hw size wr halign => busError_of_unmapped halign (hmap w hw) s wr⟩
  · exact ⟨.inReset, by decide, rfl, fun w hw size wr halign => busError_of_held halign (hheld w hw).1 (hheld w hw).2 wr⟩

theorem Size.bytes_eq_eight_iff (size : Size) : size.bytes = 8 ↔ size = .b8 := by
  cases size <;> decide

/-- An access of stopped words, as a read and as a write. -/
theorem errorLogged_access {s : State} {init : Initiator} {e : AccErr} {a : Nat} {size : Size}
    (hinit : initiatorOk s init = true) (hup : s.up 0 = true) (halign : a % size.bytes = 0)
    (hstop : ∀ w ∈ (if size = .b8 then [a, a + 4] else [a]), ∀ n wr, w % n = 0 → busError s w n wr = some e) (d : Nat) :
    ErrorLogged [.readData init a 0] e s (applyAll s (busRead init a size.bytes s)) ∧
      ErrorLogged [] e s (applyAllP s (busWrite init a size.bytes d s)) := by
  by_cases hb8 : size = .b8
  · rw [if_pos hb8] at hstop
    rw [hb8] at halign ⊢
    have hdouble : a % 8 = 0 := halign
    have hlo (wr : Bool) : busError s a 4 wr = some e := hstop a (by simp) 4 wr (by omega)
    have hhi (wr : Bool) : busError s (a + 4) 4 wr = some e := hstop (a + 4) (by simp) 4 wr (by omega)
    exact ⟨errorLogged_busRead_double hinit hup hdouble (hlo false) (hhi false),
      errorLogged_busWrite_double hinit hup hdouble (hlo true) (hhi true) d⟩
  · rw [if_neg hb8] at hstop
    have hsize : size.bytes ≠ 8 := fun h => hb8 ((Size.bytes_eq_eight_iff size).1 h)
    have herr (wr : Bool) : busError s a size.bytes wr = some e := hstop a (by simp) _ wr halign
    refine ⟨errorLogged_busRead hinit hup hsize (herr false), ?_⟩
    rw [applyAllP_busWrite_stopped hinit hsize (herr true)]
    exact errorLogged_accErr hup e init a

/-- Settles O9: every word of the access is stopped by one rule, and nothing but its event and the answer is left. -/
theorem stoppedAccesses : Obligations.StoppedAccesses := by
  unfold Obligations.StoppedAccesses
  intro init a size data words s hinit hup halign hwords k hk
  obtain ⟨e, hk24, hbit, hstop⟩ := stopped_cause hk
  rw [hwords] at hstop
  obtain ⟨hread, hwrite⟩ := errorLogged_access hinit hup halign hstop data.toNat
  exact ⟨⟨_, rfl, hread.out, hread.event k hk24 hbit, hread.regs, hread.mem, hread.dyn⟩,
    ⟨_, rfl, hwrite.out, hwrite.event k hk24 hbit, hwrite.regs, hwrite.mem, hwrite.dyn⟩⟩

/-! The log of a stopped write (R25-R27, R529). -/

/-- The access the error log shows where it was wholly clear: initiator and offset (Table 2.15). -/
theorem errAddr_stored (init : Initiator) {addr : Nat} (haddr : addr < 2 ^ 24) (s : State) {t : State}
    (ht : t = applyEff s (.reg Reg.SYS_ERR_ADDR (w32 (init.id * 2 ^ 24 + addr % 2 ^ 24)))) :
    t.fld Reg.SYS_ERR_ADDR 27 24 = init.id ∧ t.fld Reg.SYS_ERR_ADDR 23 0 = addr := by
  have hmask : liveMask Reg.SYS_ERR_ADDR = 0x0FFFFFFF := by decide
  have hid : init.id < 7 := by cases init <;> decide
  have hword : (w32 (init.id * 2 ^ 24 + addr % 2 ^ 24)).toNat = init.id * 2 ^ 24 + addr := by
    rw [w32, BitVec.toNat_ofNat]
    omega
  subst ht
  rw [fld_applyEff_reg _ _ _ _ _ (by decide) (by rw [hmask]; decide),
    fld_applyEff_reg _ _ _ _ _ (by decide) (by rw [hmask]; decide), Word.fld, Word.fld, hword]
  omega

/-- What the error log holds after one more error: its SEQ has stepped, and the access is the first since it was clear. -/
theorem accErr_log {s : State} (hup : s.up 0 = true) (e : AccErr) (init : Initiator) {addr : Nat} (haddr : addr < 2 ^ 24)
    {t : State} (ht : t = applyAll s (accErr e init addr s)) :
    t.fld Reg.SYS_ERR_STAT 31 24 = (s.fld Reg.SYS_ERR_STAT 31 24 + 1) % 256 ∧
      (s.fld Reg.SYS_ERR_STAT 23 0 = 0 → t.fld Reg.SYS_ERR_ADDR 27 24 = init.id ∧ t.fld Reg.SYS_ERR_ADDR 23 0 = addr) ∧
      (s.fld Reg.SYS_ERR_STAT 23 0 ≠ 0 → t.reg Reg.SYS_ERR_ADDR = s.reg Reg.SYS_ERR_ADDR) := by
  have hseq := seq_applyEff_sq (a := Reg.SYS_ERR_STAT) (by rw [liveMask_SYS_ERR_STAT]; decide) e.bits
  have hapart : Reg.SYS_ERR_ADDR ≠ Reg.SYS_ERR_STAT := by decide
  rw [accErr_up hup] at ht
  by_cases hclear : s.fld Reg.SYS_ERR_STAT 23 0 = 0
  · rw [if_pos hclear] at ht
    obtain ⟨hid, hoff⟩ := errAddr_stored init haddr s rfl
    subst ht
    refine ⟨(hseq _).trans ?_, fun _ => ⟨?_, ?_⟩, fun hnot => absurd hclear hnot⟩
    · rw [fld_applyEff_reg_ne _ _ _ _ _ _ hapart.symm]
    · exact (fld_applyEff_sq_ne _ _ _ _ _ _ hapart).trans hid
    · exact (fld_applyEff_sq_ne _ _ _ _ _ _ hapart).trans hoff
  · rw [if_neg hclear] at ht
    subst ht
    exact ⟨hseq s, fun hzero => absurd hzero hclear, fun _ => reg_applyEff_sq s _ _ _ hapart⟩

/-- The order in which the rules of a write are judged. -/
theorem accessError_write_order (s : State) (a size : Nat) :
    (a % size ≠ 0 → accessError s a size true = some .unmapped) ∧
    (a % size = 0 → mapped (a / 4 * 4) = false → accessError s a size true = some .unmapped) ∧
    (a % size = 0 → mapped (a / 4 * 4) = true → s.up (domOf (a / 4 * 4)) = false →
      accessError s a size true = some .inReset) ∧
    (a % size = 0 → mapped (a / 4 * 4) = true → s.up (domOf (a / 4 * 4)) = true → size < 4 →
      accessError s a size true = some .narrow) := by
  unfold accessError
  refine ⟨fun halign => if_pos halign, fun halign hmap => ?_, fun halign hmap hup => ?_, fun halign hmap hup hsize => ?_⟩
  · simp [halign, hmap]
  · simp [halign, hmap, hup]
  · simp [halign, hmap, hup, hsize]

/-- Settles O10: a stopped write comes to the log of its error, whose cause the rules give in their order. -/
theorem writeErrors : Obligations.WriteErrors := by
  unfold Obligations.WriteErrors
  constructor
  · intro init a size data e s hb8 hinit herr hup
    have hsize : size.bytes ≠ 8 := fun h => hb8 ((Size.bytes_eq_eight_iff size).1 h)
    have hlogged := errorLogged_accErr hup e init a.toNat
    obtain ⟨hseq, hfirst, hlater⟩ := accErr_log hup e init a.isLt rfl
    refine ⟨_, congrArg Host.Outcome.next (applyAllP_busWrite_stopped hinit hsize herr data.toNat), ?_, hseq, hfirst, hlater,
      hlogged.regs, hlogged.mem, hlogged.dyn⟩
    cases e with
    | unmapped => exact hlogged.event 0 (by decide) rfl
    | narrow => exact hlogged.event 1 (by decide) rfl
    | inReset => exact hlogged.event 2 (by decide) rfl
  · intro s a size ha hsize
    simp only [busError_register ha]
    obtain ⟨halign, hmap, hreset, hnarrow⟩ := accessError_write_order s a size
    exact ⟨halign, hmap, hreset, fun h hm hu h4 => hnarrow h hm hu (by omega),
      fun h hm hu => (accessError_word_none_iff s a true).2 ⟨h, hm, hu⟩⟩

end Sys2Proof.Machine

/-! The _LO/_HI pairs of RW words (R47, R48). -/

namespace Sys2Proof.Machine

/-- A register whose bits are all RW, or RZ. -/
def rwOnly (a : Nat) : Prop :=
  ∃ d, regDef a = some d ∧ d.guarded = false ∧ d.tyMask .sq = 0 ∧ d.tyMask .rw = liveMask a

/-- A plain write of such a register stores one word, which its bits take. -/
theorem plainWrite_rwOnly {a : Nat} (h : rwOnly a) (v : Word) (s : State) :
    ∃ w, plainWrite a v s = [.reg a w] ∧ (applyEff s (.reg a w)).reg a = (s.reg a).merge (liveMask a) v := by
  obtain ⟨d, hd, hg, hsq, hrw⟩ := h
  refine ⟨_, plainWrite_unguarded hd hg v s, ?_⟩
  rw [applyEff_reg, State.reg_hwReg, if_pos rfl]
  apply BitVec.eq_of_getLsbD_eq
  intro i _
  rw [merge_getLsbD, merge_getLsbD]
  cases hlive : (liveMask a).getLsbD i with
  | false => rfl
  | true => simp [wrWord, hsq, merge_getLsbD, hrw, hlive]

/-- What a read of the register leaves: a free value drawn, after the latch of the high word where there is one. -/
def pairRead (init : Initiator) (latched : Option (Nat × Word)) : List Eff :=
  (latched.map fun p => Eff.upd (fun x => { x with sys := { x.sys with shadow := setAt x.sys.shadow init.id (some p) } })).toList ++
    [.draw]

/-- The two halves of a pair of RW words at `a`, whose reads and writes do what R47 and R48 say and no more. -/
structure PlainPair (a : Nat) : Prop where
  below : a + 4 < 0x800000
  dom : domOf (a + 4) = domOf a
  mappedHi : mapped (a + 4) = true
  notInd : isInd a = false ∧ isInd (a + 4) = false
  writable : rwOnly a ∧ rwOnly (a + 4)
  lo : pairOf a = .lo
  hi : pairOf (a + 4) = .hi
  shown : ∀ s, liveWord s a &&& readMask a = s.reg a &&& fieldMask a
  readLo : ∀ init s, readAct init a s = pairRead init (some (a + 4, s.reg (a + 4) &&& fieldMask (a + 4)))
  readHi : ∀ init s, readAct init (a + 4) s = pairRead init none
  stage : ∀ init d s, loStage init a d s =
    [.upd (fun x => { x with sys := { x.sys with stage := setAt x.sys.stage init.id (some (a, d)) } })]
  commit : ∀ lo d s, hiAct (a + 4) lo d s = hiPlain (a + 4) lo d s

/-- Only the range of a fill is held while the engine fills (R367). -/
theorem hiAct_mem {a off : Nat} (hblk : blkOf a = (.mem, off)) (hoff : 0x68 ≤ off) (lo : Option Word) (d : Word) (s : State) :
    hiAct a lo d s = hiPlain a lo d s := by
  simp [hiAct, hblk, Nat.not_lt.2 hoff]

theorem plainPair_of_mem {a : Nat} (h : a ∈ plainPairs) : PlainPair a := by
  simp only [plainPairs, List.mem_cons, List.not_mem_nil, or_false] at h
  rcases h with rfl | rfl | rfl | rfl | rfl | rfl | rfl | rfl <;>
    refine ⟨by decide, rfl, rfl, ⟨rfl, rfl⟩, ⟨⟨_, rfl, rfl, rfl, rfl⟩, ⟨_, rfl, rfl, rfl, rfl⟩⟩, rfl, rfl, fun _ => rfl,
      fun _ _ => rfl, fun _ _ => rfl, fun _ _ _ => rfl, fun lo d s => ?_⟩
  · exact hiAct_mem (off := 0x84) rfl (by decide) lo d s
  · exact hiAct_mem (off := 0x8C) rfl (by decide) lo d s
  all_goals rfl

theorem ne_of_isInd {a : Nat} (h : isInd a = false) : a ≠ Reg.SYS_IND_DATA := by
  rintro rfl
  exact absurd h (by decide)

/-- A ready read of a register outside the indirect window answers its word, then does what the read does. -/
theorem run_busRead_ready {s : State} {init : Initiator} {a : Nat} (hacc : accReady s init a = true) (hreg : a < 0x800000)
    (hind : isInd a = false) {t : State} (ht : t = applyEff s (.emit (.readData init a (busWord s init a).toNat))) :
    run (busRead init (BitVec.ofNat 24 a).toNat 4) s = .next (applyAll t (readAct init a t)) := by
  subst ht
  obtain ⟨hinit, halign, hmap, hup⟩ := (accReady_iff s init a).1 hacc
  have haddr : (BitVec.ofNat 24 a).toNat = a := Nat.mod_eq_of_lt (by omega)
  have hword : a / 4 * 4 = a := by omega
  have hat : regAt a = a := by rw [regAt, aliasOf_register hreg, hword]
  have herr : busError s a 4 false = none := (busError_register hreg s 4 false).trans
    ((accessError_word_none_iff s a false).2 ⟨halign, hmap, hup⟩)
  have hnot : ¬ (!initiatorOk s init) = true := by simp [hinit]
  have hval : rdWordVal s init a 4 = (busWord s init a).toNat := by
    have hlt := (busWord s init a).isLt
    simp only [rdWordVal, herr, hat, pickBytes, aliasOf_register hreg, halign, Nat.mul_zero, Nat.pow_zero, Nat.div_one,
      Option.isSome_none, Bool.false_eq_true, if_false]
    exact Nat.mod_eq_of_lt hlt
  have hwait : rdWait a 4 s = [] := by simp [rdWait, hat, hind]
  have hact (o : Output) : rdWordAct init a 4 (applyEff s (.emit o)) = readAct init a (applyEff s (.emit o)) := by
    have herr' : busError (applyEff s (.emit o)) a 4 false = none := (busError_congr rfl a 4 false).trans herr
    simp only [rdWordAct, herr', hat]
  rw [run_next, haddr, busRead, busReadWith, if_neg hnot, if_neg (by decide)]
  simp only [applyAll_seqs_cons, seqs_nil, applyAll_nil, applyAll_cons, hwait, hval, hact]

section Pairs
variable {a : Nat} (hpair : PlainPair a) {s : State} {init : Initiator} (hacc : accReady s init a = true)
include hpair hacc

theorem PlainPair.accReady_hi : accReady s init (a + 4) = true := by
  obtain ⟨hinit, halign, -, hup⟩ := (accReady_iff s init a).1 hacc
  exact (accReady_iff s init (a + 4)).2 ⟨hinit, by omega, hpair.mappedHi, by rw [hpair.dom]; exact hup⟩

/-- The write of the _HI word commits what is staged, if it is. -/
theorem PlainPair.run_hiWrite (data : Word) : runP (busWrite init (BitVec.ofNat 24 (a + 4)).toNat 4 data.toNat) s =
    .next (applyAll s (hiPlain (a + 4) (staged s init a) data s ++ if (staged s init a).isSome then [unstage init] else [])) := by
  have hcommit : (fun lo => hiAct (a + 4) lo data) = fun lo => hiPlain (a + 4) lo data :=
    funext fun lo => funext fun u => hpair.commit lo data u
  rw [run_busWrite_ready (hpair.accReady_hi hacc) hpair.below, regWrite, hpair.hi]
  simp only [applyAllP_lift, Nat.add_sub_cancel, hcommit, hiWrite, seqs_cons, seqs_nil, List.append_nil]

/-- With a staged low word both halves take their values, and the stage is emptied (R48). -/
theorem PlainPair.commits {w : Word} (hstaged : staged s init a = some w) (data : Word) :
    ∃ t, exec (.hiRegisterWrite init (BitVec.ofNat 24 (a + 4)) data) s = .next t ∧
      t.reg a = (s.reg a).merge (liveMask a) w ∧ t.reg (a + 4) = (s.reg (a + 4)).merge (liveMask (a + 4)) data ∧
      t.dyn.sys.stage = setAt s.dyn.sys.stage init.id none ∧
      sameRegsBut (fun b => b = a ∨ b = a + 4) s t ∧ sameMem s t ∧ t.out = s.out := by
  obtain ⟨lo, hlo, hlow⟩ := plainWrite_rwOnly hpair.writable.1 w s
  obtain ⟨hi, hhi, hhigh⟩ := plainWrite_rwOnly hpair.writable.2 data (applyEff s (.reg a lo))
  have heffects : hiPlain (a + 4) (some w) data s = [.reg a lo, .reg (a + 4) hi] := by
    simp only [hiPlain, Nat.add_sub_cancel, seqs_cons, seqs_nil, List.append_nil, hlo, applyAll_cons, applyAll_nil, hhi,
      List.singleton_append]
  refine ⟨_, hpair.run_hiWrite hacc data, ?_⟩
  rw [hstaged, heffects]
  refine ⟨?_, ?_, rfl, sameRegsBut_applyAll (by simp [Eff.dest, unstage]) s,
    sameMem_applyAll (by simp [Eff.stores, unstage]) s, rfl⟩
  · exact (reg_applyEff_reg _ _ _ _ (by omega)).trans hlow
  · exact hhigh.trans (by rw [reg_applyEff_reg _ _ _ _ (by omega)])

/-- Without a staged low word the high half alone is written. -/
theorem PlainPair.writesHigh (hnone : staged s init a = none) (data : Word) :
    ∃ t, exec (.hiRegisterWrite init (BitVec.ofNat 24 (a + 4)) data) s = .next t ∧
      t.reg (a + 4) = (s.reg (a + 4)).merge (liveMask (a + 4)) data ∧ t.dyn = s.dyn ∧
      sameRegsBut (fun b => b = a + 4) s t ∧ sameMem s t ∧ t.out = s.out := by
  obtain ⟨hi, hhi, hhigh⟩ := plainWrite_rwOnly hpair.writable.2 data s
  have heffects : hiPlain (a + 4) none data s = [.reg (a + 4) hi] := by
    simp only [hiPlain, seqs_cons, seqs_nil, List.append_nil, skip_apply, List.nil_append, applyAll_nil, hhi]
  refine ⟨_, hpair.run_hiWrite hacc data, ?_⟩
  rw [hnone, heffects]
  obtain ⟨hregs, hmem, hdyn⟩ := frame_of_dest (e := .reg (a + 4) hi) rfl s
  exact ⟨hhigh, hdyn, hregs, hmem, rfl⟩

theorem PlainPair.stages (data : Word) : ∃ t, exec (.loRegisterWrite init (BitVec.ofNat 24 a) data) s = .next t ∧
    t.dyn.sys.stage = setAt s.dyn.sys.stage init.id (some (a, data)) ∧
    sameRegsBut (fun _ => False) s t ∧ sameMem s t ∧ t.out = s.out := by
  have hbelow := hpair.below
  refine ⟨_, run_busWrite_ready hacc (by omega) data, ?_⟩
  rw [regWrite, hpair.lo]
  simp only [applyAllP_lift, hpair.stage]
  exact ⟨rfl, fun _ _ => rfl, ⟨fun _ => rfl, fun _ => rfl⟩, rfl⟩

theorem PlainPair.readsLow : ∃ t, exec (.loRegisterRead init (BitVec.ofNat 24 a) .b4) s = .next t ∧
    t.out = .readData init a (s.reg a &&& fieldMask a).toNat :: s.out ∧
    t.dyn.sys.shadow = setAt s.dyn.sys.shadow init.id (some (a + 4, s.reg (a + 4) &&& fieldMask (a + 4))) ∧
    t.dyn.sys.stage = s.dyn.sys.stage ∧ sameRegsBut (fun _ => False) s t ∧ sameMem s t := by
  have hbelow := hpair.below
  have hword : busWord s init a = s.reg a &&& fieldMask a := by
    rw [busWord, if_neg (ne_of_isInd hpair.notInd.1), hpair.lo]
    exact hpair.shown s
  refine ⟨_, run_busRead_ready hacc (by omega) hpair.notInd.1 rfl, ?_⟩
  rw [hpair.readLo, hword]
  exact ⟨rfl, rfl, rfl, fun _ _ => rfl, fun _ => rfl, fun _ => rfl⟩

theorem PlainPair.readsHigh {w : Word} (hshadow : s.dyn.sys.shadow.getD init.id none = some (a + 4, w)) :
    ∃ t, exec (.loRegisterRead init (BitVec.ofNat 24 (a + 4)) .b4) s = .next t ∧
      t.out = .readData init (a + 4) w.toNat :: s.out ∧ t.dyn.sys = s.dyn.sys ∧ sameRegsBut (fun _ => False) s t := by
  have hword : busWord s init (a + 4) = w := by
    rw [busWord, if_neg (ne_of_isInd hpair.notInd.2), hpair.hi, hshadow]
    exact if_pos rfl
  refine ⟨_, run_busRead_ready (hpair.accReady_hi hacc) hpair.below hpair.notInd.2 rfl, ?_⟩
  rw [hpair.readHi, hword]
  exact ⟨rfl, rfl, fun _ _ => rfl⟩

end Pairs

/-- Settles O11: the pairs' reads and writes, one by one. -/
theorem registerPairs : Obligations.RegisterPairs := by
  unfold Obligations.RegisterPairs
  refine ⟨fun init s a ha hacc => (plainPair_of_mem ha).readsLow hacc,
    fun init w s a ha hacc hshadow => (plainPair_of_mem ha).readsHigh hacc hshadow, fun init data s a ha hacc => ?_⟩
  have hpair := plainPair_of_mem ha
  exact ⟨hpair.stages hacc data, fun w hstaged => hpair.commits hacc hstaged data,
    fun hnone => hpair.writesHigh hacc hnone data⟩

end Sys2Proof.Machine

/-! Writes of single bits through the bit window (R50, R52). -/

namespace Sys2Proof.Machine

/-- The window's word for a register's bit stands for that bit (R50). -/
theorem aliasOf_aliasAddr {a b : Nat} (halign : a % 4 = 0) (hreg : a < 0x40000) (hb : b < 32) :
    aliasOf (aliasAddr a b) = some (a, b) := by
  have hlo : 0x800000 ≤ aliasAddr a b := Nat.le_add_right _ _
  have hhi : aliasAddr a b < 0x1000000 := by unfold aliasAddr; omega
  have hplace : (aliasAddr a b - 0x800000) / 4 = a / 4 * 32 + b := by unfold aliasAddr; omega
  have hwords : (a / 4 * 32 + b) / 32 * 4 = a ∧ (a / 4 * 32 + b) % 32 = b := by omega
  simp [aliasOf, hlo, hhi, hplace, hwords]

/-- A write to the window's word of a bit that reaches its register sets the bit to bit 0 of the data. -/
theorem run_busWrite_bit {s : State} {init : Initiator} {a b : Nat} (hacc : accReady s init a = true) (hreg : a < 0x40000)
    (hb : b < 32) (data : Word) : runP (busWrite init (BitVec.ofNat 24 (aliasAddr a b)).toNat 4 data.toNat) s =
      .next (applyAllP s (aliasSet init a b (data.getLsbD 0) s)) := by
  obtain ⟨hinit, halign, hmap, hup⟩ := (accReady_iff s init a).1 hacc
  have haddr : (BitVec.ofNat 24 (aliasAddr a b)).toNat = aliasAddr a b :=
    Nat.mod_eq_of_lt (by unfold aliasAddr; omega)
  have hword : aliasAddr a b % 4 = 0 := by unfold aliasAddr; omega
  have hdata : w32 data.toNat = data := (BitVec.ofNat_toNat 32 data).trans (BitVec.setWidth_eq data)
  have halias := aliasOf_aliasAddr halign hreg hb
  have herr : busError s (aliasAddr a b) 4 true = none := by simp [busError, halias, hword, hmap, hup]
  rw [runP_next, haddr]
  simp [busWrite, wrWordBus, hinit, herr, halias, hdata, Word.bit]

/-- A register of RW bits whose bits the window stores to and does no more (R52). -/
structure PlainBits (a : Nat) : Prop where
  below : a < 0x40000
  bitTypes : ∀ b : Fin 32, bitType a b.val = if (liveMask a).getLsbD b.val then some .rw else none
  stores : ∀ init b v s, bitType a b = some .rw → aliasSet init a b v s = [.eff (.fld a b b (if v then 1 else 0))]

theorem plainBits_of_mem {a : Nat} (h : a ∈ plainAlias) : PlainBits a := by
  simp only [plainAlias, List.mem_cons, List.not_mem_nil, or_false] at h
  rcases h with rfl | rfl | rfl | rfl | rfl | rfl | rfl | rfl | rfl <;>
    refine ⟨by decide, by decide, fun init b v s hrw => ?_⟩ <;>
    simp only [aliasSet, hrw] <;> rfl

/-- A bit stored alone: it takes its value where it is open to writes, and every other bit keeps its own. -/
theorem bit_applyEff_fld_one (s : State) (a : Nat) {b i : Nat} (hi : i < 32) (v : Bool) :
    (applyEff s (.fld a b b (if v then 1 else 0))).bit a i =
      if i = b ∧ (liveMask a).getLsbD b = true then v else s.bit a i := by
  unfold State.bit Word.bit
  rw [applyEff_fld, State.reg_hwReg, if_pos rfl, merge_getLsbD, setFld_getLsbD]
  by_cases hib : i = b
  · subst hib
    cases hlive : (liveMask a).getLsbD i <;> cases v <;> simp [hi]
  · have hout : ¬ (i < 32 ∧ b ≤ i ∧ i < b + 1) := by omega
    rw [if_neg hout, ite_self, if_neg (fun h => hib h.1)]

/-- Settles O12: the window's write is one effect on one bit, or none where no field covers the bit. -/
theorem aliasWriteOneBit : Obligations.AliasWriteOneBit := by
  unfold Obligations.AliasWriteOneBit
  intro init data b s a ha hacc
  have hplain := plainBits_of_mem ha
  have htype := hplain.bitTypes b
  refine ⟨_, run_busWrite_bit hacc hplain.below b.isLt data, ?_⟩
  cases hlive : (liveMask a).getLsbD b.val with
  | true =>
    rw [hlive, if_pos rfl] at htype
    rw [hplain.stores init b.val _ s htype]
    obtain ⟨hregs, hmem, hdyn⟩ := frame_of_dest (e := .fld a b.val b.val (if data.getLsbD 0 then 1 else 0)) rfl s
    refine ⟨fun i => ?_, hregs, hmem, hdyn, rfl⟩
    have hstored := bit_applyEff_fld_one s a (b := b.val) i.isLt (data.getLsbD 0)
    rw [hlive] at hstored
    exact hstored.trans (by simp only [Fin.ext_iff])
  | false =>
    rw [hlive, if_neg Bool.false_ne_true] at htype
    have hnone : aliasSet init a b.val (data.getLsbD 0) s = [] := by simp only [aliasSet, htype]
    rw [hnone]
    exact ⟨fun i => (if_neg (fun h => Bool.false_ne_true h.2)).symm, fun _ _ => rfl, ⟨fun _ => rfl, fun _ => rfl⟩, rfl, rfl⟩

end Sys2Proof.Machine

/-! The guarded sequence (R36, R37, R403, R404). -/

namespace Sys2Proof.Machine

/-- While SYS runs, the guard's registers take every write (R24-R29). -/
theorem accReady_guard {s : State} {init : Initiator} (hinit : initiatorOk s init = true) (hup : s.up 0 = true) {a : Nat}
    (ha : a = Reg.SYS_GUARD_TGT ∨ a = Reg.SYS_GUARD_VAL ∨ a = Reg.SYS_GUARD_INV) : accReady s init a = true := by
  rw [accReady_iff]
  rcases ha with rfl | rfl | rfl <;> exact ⟨hinit, rfl, rfl, hup⟩

theorem liveMask_SYS_GUARD_STAT : liveMask Reg.SYS_GUARD_STAT = 0xFFF00703 := by decide

theorem liveMask_SYS_GUARD_TGT : liveMask Reg.SYS_GUARD_TGT = 0x00FFFFFC := by decide

/-- The target is what the field of SYS_GUARD_TGT names. -/
theorem guardTarget_eq (s : State) : guardTarget s = s.fld Reg.SYS_GUARD_TGT 23 2 * 4 := by
  unfold guardTarget State.fld Word.fld
  omega

theorem guardOpen_eq (s : State) : guardOpen s = (s.fld Reg.SYS_GUARD_STAT 1 1 == 1) := State.bit_eq s _ 1

/-- OPEN as it is stored. -/
theorem guardOpen_stored (s : State) {v : Nat} (hv : v < 2) : guardOpen (applyEff s (.fld Reg.SYS_GUARD_STAT 1 1 v)) = (v == 1) := by
  rw [guardOpen_eq, fld_applyEff_fld _ _ _ _ _ (by decide) (by rw [liveMask_SYS_GUARD_STAT]; decide)]
  exact congrArg (· == 1) (Nat.mod_eq_of_lt hv)

/-- The state in which a sequence has been opened. -/
def sequenceOpened (init : Initiator) (data : Word) (s : State) : State := applyAll s (guardStart init data s)

theorem guardOpen_sequenceOpened (init : Initiator) (data : Word) (s : State) : guardOpen (sequenceOpened init data s) = true := by
  rw [guardOpen_eq, sequenceOpened, guardStart]
  simp only [applyAll_cons, applyAll_nil, fld_upd]
  rw [← guardOpen_eq, guardOpen_stored _ (by decide)]
  rfl

theorem guardOwner_sequenceOpened (init : Initiator) (data : Word) (s : State) :
    guardOwner (sequenceOpened init data s) = init.id := by
  have hid : init.id < 7 := by cases init <;> decide
  simp only [sequenceOpened, guardStart, guardOwner, applyAll_cons, applyAll_nil, fld_upd]
  rw [fld_applyEff_fld_other _ _ _ _ _ _ _ (by decide),
    fld_applyEff_fld _ _ _ _ _ (by decide) (by rw [liveMask_SYS_GUARD_STAT]; decide)]
  exact Nat.mod_eq_of_lt (by omega)

theorem guardTarget_sequenceOpened (init : Initiator) (data : Word) (s : State) :
    guardTarget (sequenceOpened init data s) = data.toNat % 2 ^ 24 / 4 * 4 := by
  have hapart : Reg.SYS_GUARD_TGT ≠ Reg.SYS_GUARD_STAT := by decide
  rw [guardTarget_eq]
  simp only [sequenceOpened, guardStart, applyAll_cons, applyAll_nil, fld_upd]
  rw [fld_applyEff_fld_ne _ _ _ _ _ _ _ _ hapart, fld_applyEff_fld_ne _ _ _ _ _ _ _ _ hapart,
    fld_applyEff_reg _ _ _ _ _ (by decide) (by rw [liveMask_SYS_GUARD_TGT]; decide), Word.fld]
  omega

theorem exec_guardTgtWrite_closed {s : State} {init : Initiator} (hacc : accReady s init Reg.SYS_GUARD_TGT = true)
    (hclosed : guardOpen s = false) (data : Word) : exec (.guardTgtWrite init data) s = .next (sequenceOpened init data s) := by
  refine run_of_effects ((wrAccess_ready s init _ _ hacc).trans ?_)
  simp [hGuardTgt, hclosed]

theorem exec_guardValWrite_owner {s : State} {init : Initiator} (hacc : accReady s init Reg.SYS_GUARD_VAL = true)
    (hopen : guardOpen s = true) (howner : guardOwner s = init.id) (data : Word) :
    exec (.guardValWrite init data) s = .next (applyAll s
      [.upd (fun d => { d with sys := { d.sys with guard := { val := some data, late := false } } })]) := by
  refine run_of_effects ((wrAccess_ready s init _ _ hacc).trans ?_)
  simp [hGuardVal, hopen, howner]

/-- The guarded bits of the target have taken the value, and the sequence is closed without a failure. -/
def guardLanded (s : State) (v : Word) : State :=
  applyAll (applyPEff s (.gd (guardTarget s) v)) (guardClose s)

section Landed
variable {s : State} {init : Initiator} {v : Word}

/-- A well-spelt sequence whose target is open to it lands, and then its block acts (R36). -/
theorem exec_guardInvWrite_lands (hacc : accReady s init Reg.SYS_GUARD_INV = true) (hopen : guardOpen s = true)
    (howner : guardOwner s = init.id) (hval : s.dyn.sys.guard.val = some v) (hgd : isGuarded (guardTarget s) = true)
    (hlock : s.bit Reg.SYS_LOCK (lockBit (blkOf (guardTarget s)).1) = false) (hup : s.up (domOf (guardTarget s)) = true) :
    exec (.guardInvWrite init (~~~v)) s = .next (applyAll (guardLanded s v)
      (guardAfter init (guardTarget s) v (guardLanded s v))) := by
  have hcause : guardCause s (~~~v) = none := by simp [guardCause, hval, hgd, hlock]
  have heffects : hGuardInv (guardAfter init) init (~~~v) s = seqsP [fun _ => [.gd (guardTarget s) v], lift guardClose,
      lift (guardAfter init (guardTarget s) v)] s := by
    simp [hGuardInv, hopen, howner, hcause, hup, hval]
  change runP (wrAccessP init Reg.SYS_GUARD_INV (hGuardInv (guardAfter init) init (~~~v))) s = _
  rw [runP_next, wrAccessP_ready s init _ _ hacc, heffects]
  simp only [applyAllP_seqsP_cons, seqsP_nil, applyAllP_nil, applyAllP_lift]
  rfl

theorem reg_guardLanded_target (hne : guardTarget s ≠ Reg.SYS_GUARD_STAT) :
    (guardLanded s v).reg (guardTarget s) = (s.reg (guardTarget s)).merge (guardMask (guardTarget s)) v := by
  rw [guardLanded, guardClose, applyAll_cons, applyAll_cons, applyAll_nil, reg_upd, reg_applyEff_fld _ _ _ _ _ _ hne]
  exact (State.reg_putReg s _ _ _).trans (if_pos rfl)

/-- SYS_GUARD_STAT holds no GD field. -/
theorem ne_stat_of_isGuarded {a : Nat} (h : isGuarded a = true) : a ≠ Reg.SYS_GUARD_STAT := by
  rintro rfl
  exact absurd h (by decide)

theorem sameRegsBut_guardLanded :
    sameRegsBut (fun a => a = guardTarget s ∨ a = Reg.SYS_GUARD_STAT) s (guardLanded s v) := by
  intro a ha
  rw [not_or] at ha
  rw [guardLanded, guardClose, applyAll_cons, applyAll_cons, applyAll_nil, reg_upd, reg_applyEff_fld _ _ _ _ _ _ ha.2]
  exact (State.reg_putReg s _ _ _).trans (if_neg ha.1)

theorem guardOpen_guardLanded : guardOpen (guardLanded s v) = false := by
  rw [guardOpen_eq, guardLanded, guardClose, applyAll_cons, applyAll_cons, applyAll_nil, fld_upd, ← guardOpen_eq,
    guardOpen_stored _ (by decide)]
  rfl

theorem guardErr_guardLanded (hgd : isGuarded (guardTarget s) = true) :
    (guardLanded s v).bit Reg.SYS_GUARD_STAT 0 = s.bit Reg.SYS_GUARD_STAT 0 := by
  rw [State.bit_eq, State.bit_eq, guardLanded, guardClose, applyAll_cons, applyAll_cons, applyAll_nil, fld_upd,
    fld_applyEff_fld_other _ _ _ _ _ _ _ (by decide)]
  refine congrArg (fun w : Word => w.fld 0 0 == 1) ?_
  exact (State.reg_putReg s _ _ _).trans (if_neg (ne_stat_of_isGuarded hgd).symm)

/-- The GD bits of the target have the value, whatever unprivileged effects come after, and all others keep theirs. -/
theorem guarded_after_guardLanded (es : List Eff) {t : State} (ht : t = applyAll (guardLanded s v) es) :
    t.reg (guardTarget s) &&& guardMask (guardTarget s) = v &&& guardMask (guardTarget s) ∧
      ∀ a, a ≠ guardTarget s → t.reg a &&& guardMask a = s.reg a &&& guardMask a := by
  subst ht
  have hkept : sameGuarded (applyPEff s (.gd (guardTarget s) v)) (applyAll (guardLanded s v) es) :=
    sameGuarded_trans (applyAll_guarded _ _) (applyAll_guarded es _)
  have hreg (a : Nat) : (applyPEff s (.gd (guardTarget s) v)).reg a =
      if a = guardTarget s then (s.reg (guardTarget s)).merge (guardMask (guardTarget s)) v else s.reg a :=
    State.reg_putReg s _ a _
  refine ⟨?_, fun a ha => ?_⟩
  · rw [hkept, hreg, if_pos rfl, merge_inside]
  · rw [hkept, hreg, if_neg ha]

end Landed

/-- The guarded fields of a block that is neither PWR nor RST / CLK do nothing at once. -/
theorem guardAfter_quiet {a : Nat} (hpwr : (blkOf a).1 ≠ .pwr) (hrst : (blkOf a).1 ≠ .rst) (init : Initiator) (v : Word) :
    guardAfter init a v = skip := by
  have hself : a ≠ Reg.RST_SELF := by rintro rfl; exact hrst rfl
  have hwdog : a ≠ Reg.RST_WDOG := by rintro rfl; exact hrst rfl
  rw [guardAfter, if_neg hself, if_neg hwdog, if_neg hpwr]

/-- A guarded write of a register of RST / CLK in domain 0: the word it leaves, and what its block then does. -/
theorem exec_guardInvWrite_rst {s : State} {init : Initiator} {v : Word} (hinit : initiatorOk s init = true) (hup : s.up 0 = true)
    (hopen : guardOpen s = true) (howner : guardOwner s = init.id) (hval : s.dyn.sys.guard.val = some v)
    (hlock : s.bit Reg.SYS_LOCK 1 = false) {a : Nat} (htgt : guardTarget s = a) (hgd : isGuarded a = true)
    (hblk : (blkOf a).1 = .rst) (hdom : domOf a = 0) :
    exec (.guardInvWrite init (~~~v)) s = .next (applyAll (guardLanded s v) (guardAfter init a v (guardLanded s v))) ∧
      (guardLanded s v).reg a = (s.reg a).merge (guardMask a) v := by
  subst htgt
  refine ⟨exec_guardInvWrite_lands (accReady_guard hinit hup (.inr (.inr rfl))) hopen howner hval hgd ?_ ?_,
    reg_guardLanded_target (ne_stat_of_isGuarded hgd)⟩
  · rw [hblk]; exact hlock
  · rw [hdom]; exact hup

/-- Settles O13: a sequence opens, takes its value and lands on the GD bits alone, and then the block acts. -/
theorem guardedWrite : Obligations.GuardedWrite := by
  unfold Obligations.GuardedWrite
  constructor
  · intro init data s hinit hup
    refine ⟨fun hclosed => ?_, fun hopen howner => ?_, fun v hopen howner hval hdata hgd hlock hdom => ?_⟩
    · refine ⟨_, exec_guardTgtWrite_closed (accReady_guard hinit hup (.inl rfl)) hclosed data,
        guardOpen_sequenceOpened init data s, guardOwner_sequenceOpened init data s, guardTarget_sequenceOpened init data s, rfl,
        sameRegsBut_applyAll (by simp [guardStart, Eff.dest]) s, sameMem_applyAll (by simp [guardStart, Eff.stores]) s⟩
    · exact ⟨_, exec_guardValWrite_owner (accReady_guard hinit hup (.inr (.inl rfl))) hopen howner data, rfl, fun _ _ => rfl,
        fun _ => rfl, fun _ => rfl⟩
    · subst hdata
      obtain ⟨htarget, hothers⟩ := guarded_after_guardLanded (s := s) (v := v) _ rfl
      refine ⟨_, exec_guardInvWrite_lands (accReady_guard hinit hup (.inr (.inr rfl))) hopen howner hval hgd hlock hdom,
        htarget, hothers, fun hpwr hrst => ?_⟩
      rw [guardAfter_quiet hpwr hrst]
      exact ⟨guardOpen_guardLanded, guardErr_guardLanded hgd, sameRegsBut_guardLanded, fun _ => rfl, fun _ => rfl⟩
  · intro init v s hinit hup hopen howner hval hlock
    refine ⟨fun htgt hwarm => ?_, fun htgt => ?_⟩
    · obtain ⟨hexec, hword⟩ := exec_guardInvWrite_rst hinit hup hopen howner hval hlock htgt rfl rfl rfl
      have hafter : guardAfter init Reg.RST_SELF v = raiseSrc .warm 5 init.id :=
        (if_pos rfl).trans (if_pos hwarm)
      refine ⟨_, hexec, ?_, ?_⟩
      · have hmask : guardMask Reg.RST_SELF = 1 := by decide
        rw [hafter]
        change ((guardLanded s v).reg Reg.RST_SELF).getLsbD 0 = true
        rw [hword, merge_getLsbD, hmask, hwarm]
        rfl
      · rw [hafter]
        rfl
    · obtain ⟨hexec, hword⟩ := exec_guardInvWrite_rst hinit hup hopen howner hval hlock htgt rfl rfl rfl
      have hafter : guardAfter init Reg.RST_WDOG v = wdRestart := by
        rw [guardAfter, if_neg (by decide), if_pos rfl]
      have hmask : guardMask Reg.RST_WDOG = 0x8000FFFF := by decide
      refine ⟨_, hexec, ?_, ?_, ?_, ?_⟩
      · rw [hafter]
        change ((guardLanded s v).reg Reg.RST_WDOG).fld 15 0 = _
        rw [hword, fld_merge _ _ _ _ _ (by decide) (by rw [hmask]; decide)]
      · rw [hafter]
        change ((guardLanded s v).reg Reg.RST_WDOG).getLsbD 31 = _
        rw [hword, merge_getLsbD, hmask]
        rfl
      · rw [hafter]
        rfl
      · rw [hafter]
        rfl

end Sys2Proof.Machine

/-! The indirect window: an access, and the posted write it may wait for (R43-R45, R150). -/

namespace Sys2Proof.Machine

/-- An effect that leaves what decides which domains run. -/
def Eff.keepsLevels : Eff → Prop
  | .upd g => ∀ d, (g d).rst.beached = d.rst.beached ∧ (g d).rst.held = d.rst.held ∧ (g d).rst.domHeld = d.rst.domHeld
  | _ => True

theorem up_applyAll_of_keepsLevels {es : List Eff} (h : ∀ e ∈ es, e.keepsLevels) (s : State) (i : Nat) :
    (applyAll s es).up i = s.up i := by
  induction es generalizing s with
  | nil => rfl
  | cons e es ih =>
    obtain ⟨he, hes⟩ := List.forall_mem_cons.1 h
    rw [applyAll_cons, ih hes]
    cases e with
    | upd g =>
      obtain ⟨hbeached, hheld, hdom⟩ := he s.dyn
      simp only [State.up, State.levelUp, applyEff_upd_dyn, hbeached, hheld, hdom]
    | _ => rfl

/-- An effect that a posted write may have: of the registers only SYS_IND_STAT, and no domain starts or stops. -/
def Eff.settles (e : Eff) : Prop := (e.dest = none ∨ e.dest = some Reg.SYS_IND_STAT) ∧ e.keepsLevels

/-- An action all of whose effects are such. -/
def settles (a : Act) : Prop := ∀ s, ∀ e ∈ a s, e.settles

theorem settles_none : ∀ e ∈ ([] : List Eff), e.settles := fun _ he => absurd he List.not_mem_nil

theorem settles_skip : settles skip := fun _ => settles_none

theorem settles_seqs {as : List Act} (has : ∀ a ∈ as, settles a) : settles (seqs as) := by
  induction as with
  | nil => exact settles_skip
  | cons a as ih =>
    obtain ⟨ha, has⟩ := List.forall_mem_cons.1 has
    intro s e he
    rw [seqs_cons] at he
    exact (List.mem_append.1 he).elim (ha s e) (ih has _ e)

theorem settles_one {e : Eff} (h : e.settles) : ∀ f ∈ [e], f.settles := List.forall_mem_singleton.2 h

theorem settles_updAon (g : AonD → AonD) : (updAon g).settles := ⟨.inl rfl, fun _ => ⟨rfl, rfl, rfl⟩⟩

theorem settles_updWa (act : Nat) (g : WaD → WaD) : (updWa act g).settles := ⟨.inl rfl, fun _ => ⟨rfl, rfl, rfl⟩⟩

theorem settles_timeCommit (ms : Nat) : (timeCommit ms).settles := ⟨.inl rfl, fun _ => ⟨rfl, rfl, rfl⟩⟩

theorem settles_sq (bits : Word) : (Eff.sq Reg.SYS_IND_STAT bits).settles := ⟨.inr rfl, trivial⟩

theorem settles_draw : Eff.draw.settles := ⟨.inl rfl, trivial⟩

theorem settles_indNack : settles indNack := fun _ => settles_one (settles_sq 2)

theorem settles_aonWrite (off : Nat) (v : Word) : settles (aonWrite off v) := by
  intro s
  unfold aonWrite
  split_ifs
  · exact settles_one (settles_updAon _)
  · exact settles_one (settles_updAon _)
  · exact settles_one (settles_updAon _)
  · exact settles_one (settles_timeCommit _)
  · exact settles_none

theorem settles_feWrite (act ty addr data : Nat) : settles (feWrite act ty addr data) := by
  intro s
  unfold feWrite
  split
  · exact settles_one ⟨.inl rfl, trivial⟩
  · exact settles_none

/-- A posted write reaches AON, a front end or the NOR controller, and of the registers changes SYS_IND_STAT alone. -/
theorem settles_indPerform (space off : Nat) (v : Word) (answered : Bool) : settles (indPerform space off v answered) := by
  intro s
  unfold indPerform
  split
  · exact settles_one (settles_sq 4)
  split
  · exact settles_indNack s
  split
  · exact settles_aonWrite off v s
  split
  · split
    · refine settles_seqs (List.forall_mem_cons.2 ⟨settles_feWrite _ _ _ _, List.forall_mem_singleton.2 ?_⟩) s
      split_ifs
      · exact settles_indNack
      · exact fun _ => settles_one (settles_updWa _ _)
      · exact fun _ => settles_one (settles_updWa _ _)
      · exact settles_skip
    · exact settles_indNack s
  split
  · exact settles_one ⟨.inl rfl, fun _ => ⟨rfl, rfl, rfl⟩⟩
  · exact settles_indNack s

/-- BUSY clears, and nothing is posted any longer. -/
def postedEnds : List Eff :=
  [.fld Reg.SYS_IND_STAT 0 0 0, .upd (fun d => { d with sys := { d.sys with ind := none } })]

theorem indDone_posted {s : State} {space off : Nat} {v : Word} (h : s.dyn.sys.ind = some (space, off, v)) (answered : Bool) :
    indDone answered s = indPerform space off v answered s ++ postedEnds := by
  simp only [indDone, h, seqs_cons, seqs_nil, List.append_nil]
  rfl

theorem settles_postedEnds : ∀ e ∈ postedEnds, e.settles :=
  List.forall_mem_cons.2 ⟨⟨.inr rfl, trivial⟩, settles_one ⟨.inl rfl, fun _ => ⟨rfl, rfl, rfl⟩⟩⟩

theorem settles_indDone (answered : Bool) : settles (indDone answered) := by
  intro s
  cases hind : s.dyn.sys.ind with
  | none =>
    simp only [indDone, hind]
    exact settles_none
  | some p =>
    rw [indDone_posted hind]
    exact List.forall_mem_append.2 ⟨settles_indPerform _ _ _ _ s, settles_postedEnds⟩

theorem settles_indSettle : settles indSettle := by
  intro s
  unfold indSettle
  split
  · exact settles_seqs (List.forall_mem_cons.2 ⟨settles_indDone _, List.forall_mem_singleton.2
      fun _ => settles_one settles_draw⟩) s
  · exact settles_none

/-- The state an access finds once the posted write has ended (R44). -/
def settled (s : State) : State := applyAll s (indSettle s)

theorem settled_of_idle {s : State} (h : s.dyn.sys.ind = none) : settled s = s := by
  simp [settled, indSettle, h]

theorem reg_settled (s : State) {a : Nat} (ha : a ≠ Reg.SYS_IND_STAT) : (settled s).reg a = s.reg a := by
  refine reg_applyAll_of_dest_ne (fun e he hd => ?_) s
  obtain hnone | hstat := (settles_indSettle s e he).1
  · exact absurd (hnone.symm.trans hd) nofun
  · exact ha (Option.some.inj (hd.symm.trans hstat))

theorem up_settled (s : State) (i : Nat) : (settled s).up i = s.up i :=
  up_applyAll_of_keepsLevels (fun e he => (settles_indSettle s e he).2) s i

/-- SPACE and OFFSET come of SYS_IND_ADDR alone. -/
theorem indAddr_congr {s t : State} (h : t.reg Reg.SYS_IND_ADDR = s.reg Reg.SYS_IND_ADDR) :
    indSpace t = indSpace s ∧ indOff t = indOff s := by
  simp only [indSpace, indOff, State.fld, h, and_self]

theorem indAddr_settled (s : State) : indSpace (settled s) = indSpace s ∧ indOff (settled s) = indOff s :=
  indAddr_congr (reg_settled s (by decide))

/-- An access that is ready stays so while it waits. -/
theorem accReady_settled {s : State} {init : Initiator} {a : Nat} (hacc : accReady s init a = true) :
    accReady (settled s) init a = true := by
  obtain ⟨hinit, halign, hmap, hup⟩ := (accReady_iff s init a).1 hacc
  exact (accReady_iff _ init a).2 ⟨(initiatorOk_congr (reg_settled s (by decide)) init).trans hinit, halign, hmap,
    (up_settled s _).trans hup⟩

/-! OFFSET (R43). -/

theorem indSize_le (space : Nat) : indSize space ≤ 2 ^ 24 := by
  unfold indSize
  split_ifs <;> omega

/-- The advanced offset is one that OFFSET can hold. -/
theorem indNext_stored {space off : Nat} (halign : off % 4 = 0) : indNext space off / 4 % 2 ^ 22 * 4 = indNext space off := by
  have hsize := indSize_le space
  unfold indNext
  split <;> omega

/-- OFFSET as it is stored by an advance from SPACE `space` and offset `off`. -/
abbrev offsetStored (space off : Nat) : Eff := .fld Reg.SYS_IND_ADDR 23 2 (indNext space off / 4)

theorem indAddr_offsetStored (s u : State) : indOff (applyEff u (offsetStored (indSpace s) (indOff s))) =
      indNext (indSpace s) (indOff s) ∧ indSpace (applyEff u (offsetStored (indSpace s) (indOff s))) = indSpace u := by
  have halign : indOff s % 4 = 0 := Nat.mul_mod_left _ _
  constructor
  · rw [indOff, fld_applyEff_fld _ _ _ _ _ (by decide) (by decide)]
    exact indNext_stored halign
  · exact fld_applyEff_fld_other _ _ _ _ _ _ _ (by decide)

theorem indAdvance_eq {s t : State} (h : t.reg Reg.SYS_IND_ADDR = s.reg Reg.SYS_IND_ADDR) :
    indAdvance t = [offsetStored (indSpace s) (indOff s)] := by
  obtain ⟨hspace, hoff⟩ := indAddr_congr h
  rw [indAdvance, hspace, hoff]

/-! Reads. -/

/-- A front end's answer that fails its CRC is counted where the space answers (R150). -/
def crcCounted (s : State) (answer : Option (BitVec 16 × Bool)) : List Eff :=
  if (1 ≤ indSpace s && indSpace s < 5 && (answer.any fun v => !v.2) &&
      (indAnswer s (indSpace s) (indOff s) answer).isSome) = true then
    [.cnt (Reg.FE_CRC_CNT (indSpace s - 1)) 31 0 1, .sq (Reg.FE_STAT (indSpace s - 1)) 4]
  else []

/-- No answer is shown by NACK (R45). -/
def nacked (s : State) (answer : Option (BitVec 16 × Bool)) : List Eff :=
  if (indAnswer s (indSpace s) (indOff s) answer).isNone then [.sq Reg.SYS_IND_STAT 2] else []

/-- The frame by which a front end's space is read, where its link sends any. -/
def readFrame (s : State) : List Eff :=
  if (1 ≤ indSpace s && indSpace s < 5) = true then feReadFrame (indSpace s - 1) (indOff s / 4) s else []

theorem readFrame_dest {s : State} {e : Eff} (he : e ∈ readFrame s) : e.dest = none ∧ e.stores = false := by
  unfold readFrame feReadFrame at he
  split_ifs at he
  · rw [List.mem_singleton.1 he]
    exact ⟨rfl, rfl⟩
  · exact absurd he List.not_mem_nil
  · exact absurd he List.not_mem_nil

theorem crcCounted_dest {s : State} {answer : Option (BitVec 16 × Bool)} {e : Eff} (he : e ∈ crcCounted s answer) :
    e.stores = false ∧ 1 ≤ indSpace s ∧ indSpace s < 5 ∧ (∃ v, answer = some (v, false)) ∧
      (e.dest = some (Reg.FE_STAT (indSpace s - 1)) ∨ e.dest = some (Reg.FE_CRC_CNT (indSpace s - 1))) := by
  unfold crcCounted at he
  split at he
  · next hbad =>
    simp only [Bool.and_eq_true, decide_eq_true_eq, Option.any_eq_true] at hbad
    obtain ⟨⟨⟨hlo, hhi⟩, ⟨v, crc⟩, hanswer, hcrc⟩, -⟩ := hbad
    have hfalse : crc = false := by simpa using hcrc
    subst hfalse
    rcases List.mem_cons.1 he with rfl | he
    · exact ⟨rfl, hlo, hhi, ⟨v, hanswer⟩, .inr rfl⟩
    · rw [List.mem_singleton.1 he]
      exact ⟨rfl, hlo, hhi, ⟨v, hanswer⟩, .inl rfl⟩
  · exact absurd he List.not_mem_nil

theorem nacked_dest {s : State} {answer : Option (BitVec 16 × Bool)} {e : Eff} (he : e ∈ nacked s answer) :
    e.stores = false ∧ e.dest = some Reg.SYS_IND_STAT := by
  unfold nacked at he
  split at he
  · rw [List.mem_singleton.1 he]
    exact ⟨rfl, rfl⟩
  · exact absurd he List.not_mem_nil

/-- A front end's registers are not SYS_IND_ADDR. -/
theorem fe_ne_ind (act : Nat) : Reg.FE_STAT act ≠ Reg.SYS_IND_ADDR ∧ Reg.FE_CRC_CNT act ≠ Reg.SYS_IND_ADDR := by
  unfold Reg.FE_STAT Reg.FE_CRC_CNT Reg.SYS_IND_ADDR
  omega

/-- What a read of SYS_IND_DATA does before OFFSET advances. -/
def readEffects (s : State) (answer : Option (BitVec 16 × Bool)) : List Eff :=
  readFrame s ++ crcCounted s answer ++ nacked s answer

theorem readEffects_dest {s : State} {answer : Option (BitVec 16 × Bool)} {e : Eff} (he : e ∈ readEffects s answer) :
    e.stores = false ∧ (e.dest = none ∨ e.dest = some Reg.SYS_IND_STAT ∨ (1 ≤ indSpace s ∧ indSpace s < 5 ∧
      (∃ v, answer = some (v, false)) ∧
      (e.dest = some (Reg.FE_STAT (indSpace s - 1)) ∨ e.dest = some (Reg.FE_CRC_CNT (indSpace s - 1))))) := by
  unfold readEffects at he
  rw [List.mem_append, List.mem_append] at he
  rcases he with (he | he) | he
  · exact ⟨(readFrame_dest he).2, .inl (readFrame_dest he).1⟩
  · exact ⟨(crcCounted_dest he).1, .inr (.inr (crcCounted_dest he).2)⟩
  · exact ⟨(nacked_dest he).1, .inr (.inl (nacked_dest he).2)⟩

theorem readEffects_keeps_indAddr (s : State) (answer : Option (BitVec 16 × Bool)) :
    ∀ e ∈ readEffects s answer, e.dest ≠ some Reg.SYS_IND_ADDR := by
  intro e he hd
  have hapart : Reg.SYS_IND_STAT ≠ Reg.SYS_IND_ADDR := by decide
  obtain ⟨hstat, hcnt⟩ := fe_ne_ind (indSpace s - 1)
  rcases (readEffects_dest he).2 with h | h | ⟨-, -, -, h | h⟩
  · exact absurd (h.symm.trans hd) nofun
  · exact hapart (Option.some.inj (h.symm.trans hd))
  · exact hstat (Option.some.inj (h.symm.trans hd))
  · exact hcnt (Option.some.inj (h.symm.trans hd))

theorem ite_act (c : Prop) [Decidable c] (a : Act) (s : State) : (if c then a else skip) s = if c then a s else [] := by
  split <;> rfl

theorem indReadAct_eq (s : State) (answer : Option (BitVec 16 × Bool)) :
    indReadAct answer s = readEffects s answer ++ [offsetStored (indSpace s) (indOff s)] := by
  have hadvance := indAdvance_eq (reg_applyAll_of_dest_ne (readEffects_keeps_indAddr s answer) s)
  rw [readEffects, applyAll_append, applyAll_append] at hadvance
  rw [← hadvance, readEffects]
  cases answer <;>
    simp only [indReadAct, seqs_cons, seqs_nil, ite_act, feCrcErr, indNack, readFrame, crcCounted, nacked, Option.any_none,
      Option.any_some, List.append_assoc, List.append_nil]

end Sys2Proof.Machine

/-! Accesses to SYS_IND_DATA (R43-R45). -/

namespace Sys2Proof.Machine

/-- A read that is ready waits, answers, and does the rest of a read. -/
theorem exec_indDataRead_ready {s : State} {init : Initiator} (hacc : accReady s init Reg.SYS_IND_DATA = true)
    (answer : Option (BitVec 16 × Bool)) : exec (.indDataRead init answer) s =
      .next (applyAll (applyEff (settled s) (.emit (.readData init Reg.SYS_IND_DATA (indReadVal (settled s) answer).toNat)))
        (indReadAct answer (settled s))) := by
  change execIndDataRead init answer s = _
  rw [execIndDataRead, run_next, applyAll_seqs_cons, applyAll_seqs_cons, wrAccess_ready s init _ _ hacc]
  change Host.Outcome.next (applyAll (settled s) (rdAccess init Reg.SYS_IND_DATA 4 (fun s => (indReadVal s answer).toNat)
    (indReadAct answer) (settled s))) = _
  rw [rdAccess_ready _ init _ _ _ (accReady_settled hacc), applyAll_cons]

/-- A read leaves SPACE, and OFFSET advanced. -/
theorem indAddr_indReadAct {s u : State} (h : u.reg Reg.SYS_IND_ADDR = s.reg Reg.SYS_IND_ADDR)
    (answer : Option (BitVec 16 × Bool)) {t : State} (ht : t = applyAll u (indReadAct answer s)) :
    indOff t = indNext (indSpace s) (indOff s) ∧ indSpace t = indSpace s := by
  subst ht
  have hkept := (reg_applyAll_of_dest_ne (readEffects_keeps_indAddr s answer) u).trans h
  obtain ⟨hoff, hspace⟩ := indAddr_offsetStored s (applyAll u (readEffects s answer))
  rw [indReadAct_eq, applyAll_append]
  exact ⟨hoff, hspace.trans (indAddr_congr hkept).1⟩

/-- Where the space does not answer, NACK is set (R45). -/
theorem nack_indReadAct {s : State} {answer : Option (BitVec 16 × Bool)}
    (hnone : indAnswer s (indSpace s) (indOff s) answer = none) (u : State) :
    (applyAll u (indReadAct answer s)).bit Reg.SYS_IND_STAT 1 = true := by
  have hnack : nacked s answer = [.sq Reg.SYS_IND_STAT 2] := by simp [nacked, hnone]
  rw [indReadAct_eq, readEffects, hnack, applyAll_append, applyAll_append, applyAll_cons, applyAll_nil, applyAll_cons,
    applyAll_nil, State.bit, reg_applyEff_fld _ _ _ _ _ _ (by decide)]
  exact bit_applyEff_sq (by decide) (by decide) (by decide) _

/-- A front end's answer with a bad CRC sets CRC_ERR (R150). -/
theorem crcErr_indReadAct {s : State} {v : BitVec 16} (hlo : 1 ≤ indSpace s) (hhi : indSpace s < 5)
    (hsome : (indAnswer s (indSpace s) (indOff s) (some (v, false))).isSome = true) (u : State) :
    (applyAll u (indReadAct (some (v, false)) s)).bit (Reg.FE_STAT (indSpace s - 1)) 2 = true := by
  have hcrc : crcCounted s (some (v, false)) =
      [.cnt (Reg.FE_CRC_CNT (indSpace s - 1)) 31 0 1, .sq (Reg.FE_STAT (indSpace s - 1)) 4] := by
    simp [crcCounted, hlo, hhi, hsome]
  have hnack : nacked s (some (v, false)) = [] := by simp [nacked, Option.isNone_eq_false_iff.2 hsome]
  have hact : indSpace s - 1 < 4 := by omega
  rw [indReadAct_eq, readEffects, hcrc, hnack, List.append_nil, applyAll_append, applyAll_append, applyAll_cons, applyAll_cons,
    applyAll_nil, applyAll_cons, applyAll_nil, State.bit, reg_applyEff_fld _ _ _ _ _ _ (fe_ne_ind _).1]
  exact bit_applyEff_sq (by decide) (by rw [liveMask_FE_STAT hact]; decide) (by decide) _

/-- A read changes no register but the window's and, for a bad CRC, the front end's two. -/
theorem indReadAct_frame (s : State) (answer : Option (BitVec 16 × Bool)) (u : State) {t : State}
    (ht : t = applyAll u (indReadAct answer s)) :
    sameRegsBut (fun a => a = Reg.SYS_IND_ADDR ∨ a = Reg.SYS_IND_STAT ∨ (1 ≤ indSpace s ∧ indSpace s < 5 ∧
      (∃ v, answer = some (v, false)) ∧ (a = Reg.FE_STAT (indSpace s - 1) ∨ a = Reg.FE_CRC_CNT (indSpace s - 1)))) u t ∧
      sameMem u t := by
  subst ht
  rw [indReadAct_eq]
  constructor
  · refine sameRegsBut_applyAll (List.forall_mem_append.2 ⟨fun e he a hd => ?_, List.forall_mem_singleton.2 fun a hd => ?_⟩) u
    · rcases (readEffects_dest he).2 with h | h | ⟨hlo, hhi, hbad, h⟩
      · exact absurd (h.symm.trans hd) nofun
      · exact .inr (.inl (Option.some.inj (hd.symm.trans h)))
      · exact .inr (.inr ⟨hlo, hhi, hbad, h.imp (fun h => Option.some.inj (hd.symm.trans h))
          (fun h => Option.some.inj (hd.symm.trans h))⟩)
    · exact .inl (Option.some.inj hd).symm
  · exact sameMem_applyAll (List.forall_mem_append.2 ⟨fun e he => (readEffects_dest he).1, List.forall_mem_singleton.2 rfl⟩) u

/-- The effects by which a word is posted and BUSY is set (R44). -/
def posts (data : Word) (s : State) : List Eff :=
  [.fld Reg.SYS_IND_STAT 0 0 1, .upd (fun d => { d with sys := { d.sys with ind := some (indSpace s, indOff s, data) } })]

/-- A write that is ready waits, posts its word, and OFFSET advances. -/
theorem exec_indDataWrite_ready {s : State} {init : Initiator} (hacc : accReady s init Reg.SYS_IND_DATA = true) (data : Word) :
    exec (.indDataWrite init data) s = .next (applyAll (settled s)
      (posts data (settled s) ++ [offsetStored (indSpace s) (indOff s)])) := by
  have hposted : (applyAll (settled s) (posts data (settled s))).reg Reg.SYS_IND_ADDR = s.reg Reg.SYS_IND_ADDR := by
    rw [posts, applyAll_cons, applyAll_cons, applyAll_nil, reg_upd, reg_applyEff_fld _ _ _ _ _ _ (by decide),
      reg_settled s (by decide)]
  change execIndDataWrite init data s = _
  rw [execIndDataWrite, run_next, wrAccess_ready s init _ _ hacc, hIndData, applyAll_seqs_cons]
  change Host.Outcome.next (applyAll (settled s) (seqs [posts data, indAdvance] (settled s))) = _
  simp only [seqs_cons, seqs_nil, List.append_nil, indAdvance_eq hposted]

/-- The last offset of each space of Table 2.6. -/
theorem indSize_eq_last (sp : Fin 16) : indSize sp.val =
    (if sp.val = 0 ∨ sp.val = 5 then 0xFFC else if sp.val < 5 then 0x3FC else if sp.val = 6 then 0x7FC else 0xFFFFFC) + 4 := by
  revert sp
  decide

/-- BUSY as it is stored, and the other bits of SYS_IND_STAT. -/
theorem bit_busyStored (s : State) (v : Bool) {i : Nat} (hi : i < 32) :
    (applyEff s (.fld Reg.SYS_IND_STAT 0 0 (if v then 1 else 0))).bit Reg.SYS_IND_STAT i =
      if i = 0 then v else s.bit Reg.SYS_IND_STAT i := by
  have hlive : (liveMask Reg.SYS_IND_STAT).getLsbD 0 = true := by decide
  rw [bit_applyEff_fld_one s _ hi, hlive]
  simp only [and_true]

theorem busy_posts (data : Word) (s : State) (e : Eff) (he : e.dest ≠ some Reg.SYS_IND_STAT) :
    (applyAll s (posts data s ++ [e])).bit Reg.SYS_IND_STAT 0 = true := by
  rw [posts, List.cons_append, applyAll_cons, bit_applyAll_of_dest_ne (by simpa [Eff.dest] using he)]
  exact (bit_busyStored s true (by decide)).trans (if_pos rfl)

theorem bit_postedEnds (s : State) {i : Nat} (hi : i < 32) :
    (applyAll s postedEnds).bit Reg.SYS_IND_STAT i = if i = 0 then false else s.bit Reg.SYS_IND_STAT i := by
  rw [postedEnds, applyAll_cons, bit_applyAll_of_dest_ne (by simp [Eff.dest])]
  exact bit_busyStored s false hi

/-- A posted write to the fuse space ends with WR_RO set and BUSY clear (R44). -/
theorem exec_indWriteDone_fuse {s : State} (hup : s.up 0 = true) {off : Nat} {data : Word}
    (hind : s.dyn.sys.ind = some (6, off, data)) (answered : Bool) :
    exec (.indWriteDone answered) s = .next (applyAll s (.sq Reg.SYS_IND_STAT 4 :: postedEnds)) := by
  change run (fun s => if fabricUp s then indDone answered s else []) s = _
  refine run_of_effects ((if_pos hup).trans ?_)
  rw [indDone_posted hind]
  rfl

/-- Settles O16: what an access waits for leaves SYS_IND_ADDR, and the access advances it by 4, or to zero past the last offset. -/
theorem indirectOffsetAdvances : Obligations.IndirectOffsetAdvances := by
  unfold Obligations.IndirectOffsetAdvances
  constructor
  · intro init answer data s hacc
    obtain ⟨hspace, hoff⟩ := indAddr_settled s
    constructor
    · obtain ⟨hnext, hsame⟩ := indAddr_indReadAct (s := settled s) (u := applyEff (settled s)
        (.emit (.readData init Reg.SYS_IND_DATA (indReadVal (settled s) answer).toNat))) rfl answer rfl
      refine ⟨_, exec_indDataRead_ready hacc answer, ?_, hsame.trans hspace⟩
      rw [hnext, hspace, hoff]
    · obtain ⟨hnext, hsame⟩ := indAddr_offsetStored s (applyAll (settled s) (posts data (settled s)))
      refine ⟨_, exec_indDataWrite_ready hacc data, ?_, ?_⟩
      · rw [applyAll_append]
        exact hnext
      · rw [applyAll_append]
        refine hsame.trans ((indAddr_congr ?_).1.trans hspace)
        exact reg_applyEff_fld _ _ _ _ _ _ (by decide)
  · intro sp last off hlast
    have hsize := indSize_eq_last sp
    rw [← hlast] at hsize
    unfold indNext
    rw [hsize]
    exact ⟨fun hbelow => if_neg (by omega), fun hpast => if_pos (by omega)⟩

/-- Settles O15: with nothing posted the access finds the state as it is; each part of it then leaves its own bits. -/
theorem indirectWindow : Obligations.IndirectWindow := by
  unfold Obligations.IndirectWindow
  intro init data answer answered s hacc
  obtain ⟨-, -, -, hup⟩ := (accReady_iff s init _).1 hacc
  refine ⟨fun hidle => ?_, fun hidle => ?_, fun off hind => ?_⟩
  · have hexec := exec_indDataRead_ready hacc answer
    rw [settled_of_idle hidle] at hexec
    obtain ⟨hnext, hsame⟩ := indAddr_indReadAct (s := s) (u := applyEff s
      (.emit (.readData init Reg.SYS_IND_DATA (indReadVal s answer).toNat))) rfl answer rfl
    obtain ⟨hregs, hmem⟩ := indReadAct_frame s answer (applyEff s
      (.emit (.readData init Reg.SYS_IND_DATA (indReadVal s answer).toNat))) rfl
    refine ⟨_, hexec, applyAll_out _ _, hnext, hsame, fun hnone => nack_indReadAct hnone _, hregs, ?_, hmem⟩
    rintro v hlo hhi rfl hsome
    exact crcErr_indReadAct hlo hhi hsome _
  · have hexec := exec_indDataWrite_ready hacc data
    rw [settled_of_idle hidle] at hexec
    refine ⟨_, hexec, ?_, rfl, ?_, sameRegsBut_applyAll (by simp [posts, Eff.dest]) s,
      sameMem_applyAll (by simp [posts, Eff.stores]) s⟩
    · exact busy_posts data s _ (by simp [Eff.dest, Reg.SYS_IND_ADDR, Reg.SYS_IND_STAT])
    · rw [applyAll_append]
      exact (indAddr_offsetStored s _).1
  · refine ⟨_, exec_indWriteDone_fuse hup hind answered, ?_, ?_, rfl, sameRegsBut_applyAll (by simp [postedEnds, Eff.dest]) s,
      sameMem_applyAll (by simp [postedEnds, Eff.stores]) s⟩
    · rw [applyAll_cons, bit_postedEnds _ (by decide), if_neg (by decide)]
      exact bit_applyEff_sq (by decide) (by decide) (by decide) s
    · rw [applyAll_cons, bit_postedEnds _ (by decide), if_pos rfl]

end Sys2Proof.Machine
